-- ==== Sys2Proof/Word.lean ====
section
/-! DEFINITION. The words of the LC16's ports, and the small numbered things of the guide. -/

namespace Sys2Proof

/-- One byte of a frame (R168). -/
abbrev Byte := BitVec 8

/-- A two-byte field of a frame (R181). -/
abbrev Half := BitVec 16

/-- A management port, 0 to 3. -/
abbrev Port := Fin 4

/-- A fibre pair, 0 to 15. -/
abbrev PairNo := Fin 16

end Sys2Proof
end

