-- ==== Sys2Proof/Syntax.lean ====
section
/-! DEFINITION. The commands of the LC16: one constructor for each row of spec/opcode_table.json.

A request carries the port it is taken on and the fields of its body, in the order and the widths of
R181; it stands for a frame of that request, arrived whole in a CS_N period of its own. An enumerated field
is the raw byte, so that a value outside its set can be sent and answered MALFORMED (R171). Bytes that
arrive one by one come with RESPONSE_READ_OUT. An event carries what comes from outside with it. -/

namespace Sys2Proof

/-- Selector of READ_FINDINGS (R112): a pair number or ALL. -/
inductive Selector where
  | pair (number : Byte)
  | all
  deriving DecidableEq, Repr

/-- A frame as it came on a port's MOSI: its bytes up to the rise of CS_N, or to its own end (R168). -/
structure PortFrame where
  port : Port
  bytes : List Byte
  deriving DecidableEq, Repr

/-- Bytes clocked on SCK while CS_N is low, as MOSI carries them, and whether CS_N rises after them (R168,
R169). -/
structure Clocking where
  mosi : List Byte
  rise : Bool
  deriving DecidableEq, Repr

inductive Instr where
  /-- POWER_ON (R180): release of POR_N, with the level of each port's ROLE strap (bit p: port p). -/
  | powerOn (straps : BitVec 4)
  /-- ENGINE_RESET_PIN (R179): a fall of ERST_N. -/
  | engineResetPin
  /-- PORT_RESET (R178): a fall of the port's PRST_N. -/
  | portReset (port : Port)
  /-- PORT_RESET_RELEASE (R178): release of the port's PRST_N, with the level of its ROLE strap. -/
  | portResetRelease (port : Port) (strap : Bool)
  /-- FRAME_MALFORMED (R168): a frame that fails the frame check. -/
  | frameMalformed (frame : PortFrame)
  /-- IDENTIFY (R173). -/
  | identify (port : Port)
  /-- READ_STATUS (R173). -/
  | readStatus (port : Port)
  /-- READ_NOTICES (R177). -/
  | readNotices (port : Port)
  /-- SET_NOTICE_MASK (R176). -/
  | setNoticeMask (port : Port) (mask : Half)
  /-- CLEAR_NOTICES (R177). -/
  | clearNotices (port : Port)
  /-- SUBMIT_MEASURE (R118, R181). -/
  | submitMeasure (port : Port) (pair first last q w track urgent : Byte)
  /-- SUBMIT_SURVEY (R70, R181). -/
  | submitSurvey (port : Port) (pair : Byte) (start stop : Half) (q urgent : Byte)
  /-- SUBMIT_COMMAND (R139): the fields up to the argument, then those of verify span, r, q, W and
  urgent that the body holds, in that order. -/
  | submitCommand (port : Port) (pair housing opcode : Byte) (argument : Half) (rest : List Byte)
  /-- SUBMIT_DARK (R115). -/
  | submitDark (port : Port)
  /-- SUBMIT_SYNTH (R185). -/
  | submitSynth (port : Port) (q w urgent : Byte)
  /-- CANCEL_JOB (R130). -/
  | cancelJob (port : Port) (job : Byte)
  /-- JOB_STATUS (R120). -/
  | jobStatus (port : Port) (job : Byte)
  /-- READ_RESULTS (R133). -/
  | readResults (port : Port) (offset count : Byte)
  /-- CONCUR_YES: CONCUR(job, yes) (R162). -/
  | concurYes (port : Port) (job : Byte)
  /-- CONCUR_NO: CONCUR(job, no) (R162). -/
  | concurNo (port : Port) (job : Byte)
  /-- READ_CONCUR (R166). -/
  | readConcur (port : Port)
  /-- READ_SIGNATURE (R91). -/
  | readSignature (port : Port) (pair first count : Byte)
  /-- WRITE_SIGNATURE (R88). -/
  | writeSignature (port : Port) (pair first : Byte) (values : List Half)
  /-- RELEARN (R89). -/
  | relearn (port : Port) (pair first last : Byte)
  /-- FREEZE (R87): the flag byte is 1 for set, 2 for clear. -/
  | freeze (port : Port) (pair flag : Byte)
  /-- READ_FINDINGS (R112). -/
  | readFindings (port : Port) (selector : Selector) (skip : Byte)
  /-- DISMISS (R111). -/
  | dismiss (port : Port) (pair cls location : Byte)
  /-- SET_PATROL (R128). -/
  | setPatrol (port : Port) (pair : Byte) (interval : Half) (q w : Byte)
  /-- READ_PAIR_STATS (R134). -/
  | readPairStats (port : Port) (pair : Byte)
  /-- WRITE_HOUSING (R3): the presence byte is 1 for ABSENT, 2 for PRESENT. -/
  | writeHousing (port : Port) (housing presence : Byte)
  /-- READ_HOUSING (R4). -/
  | readHousing (port : Port) (housing : Byte)
  /-- ROUTE_OPEN (R8). -/
  | routeOpen (port : Port) (pair order chip drive : Byte) (quietBase : Half)
  /-- ROUTE_ENTRIES (R10): each entry is a housing number and a lag. -/
  | routeEntries (port : Port) (pair first : Byte) (entries : List (Byte × Half))
  /-- ROUTE_CLOSE (R11). -/
  | routeClose (port : Port) (pair : Byte)
  /-- READ_ROUTE (R13). -/
  | readRoute (port : Port) (pair first count : Byte)
  /-- ASSIGN (R14): the owner field may be none. -/
  | assign (port : Port) (pair : Byte) (owner : Option Byte)
  /-- SET_PARAMS (R174): each entry is a parameter number and a value. -/
  | setParams (port : Port) (entries : List (Byte × Half))
  /-- SET_DARK_MODE_MANUAL: SET_DARK_MODE(MANUAL, value) (R47). -/
  | setDarkModeManual (port : Port) (value : Half)
  /-- SET_DARK_MODE_AUTO: SET_DARK_MODE(AUTO) (R47). -/
  | setDarkModeAuto (port : Port)
  /-- READ_FAULT_LOG (R34). -/
  | readFaultLog (port : Port)
  /-- CLEAR_SWITCH_FAULT (R32). -/
  | clearSwitchFault (port : Port)
  /-- ENGINE_RESET: the station's request (R179). -/
  | engineReset (port : Port)
  /-- SYNTH_DEFINE (R182): the mode byte is 1 for FIXED, 2 for RUNNING; each echo is a lag and an
  amplitude. -/
  | synthDefine (port : Port) (order : Byte) (quietBase dc noise seed : Half) (mode : Byte)
      (echoes : List (Half × Half))
  /-- SETTLE_END (R24), with the switch feedback SW_FB. -/
  | settleEnd (feedback : BitVec 5)
  /-- FILL_END (R27, R29). -/
  | fillEnd
  /-- PERIOD_BOUNDARY (R20). -/
  | periodBoundary
  /-- ACCUMULATION_END (R59), with the switch feedback SW_FB of the pass-end check. -/
  | accumulationEnd (feedback : BitVec 5)
  /-- DARK_SAMPLING_END (R44). -/
  | darkSamplingEnd
  /-- WORD_END (R28). -/
  | wordEnd
  /-- SLOT_START (R74). -/
  | slotStart
  /-- SLOT_RESULT (R75). -/
  | slotResult
  /-- EXCHANGE_END (R155). -/
  | exchangeEnd
  /-- PATROL_TIMER_EXPIRY (R129) of one pair. -/
  | patrolTimerExpiry (pair : PairNo)
  /-- SUSPECT_EXPIRY_CHECK (R107). -/
  | suspectExpiryCheck
  /-- CONCUR_DEADLINE (R163) of the record that names the job. -/
  | concurDeadline (job : Byte)
  /-- SAMPLE_STROBE (R36), with the value the ADC returns on ADC_D. -/
  | sampleStrobe (adc : BitVec 14)
  /-- LINE_TIME_TICK (R18). -/
  | lineTimeTick
  /-- RESPONSE_READ_OUT (R168, R169): bytes are clocked on SCK. -/
  | responseReadOut (port : Port) (clocked : Clocking)
  deriving DecidableEq, Repr

end Sys2Proof
end

