-- ==== Sys2Proof/Config.lean ====
section
/-! DEFINITION. What the guide fixes once for the part: the sizes of its tables and its identity. -/

namespace Sys2Proof.Config

/-- Vendor code (R173). -/
def vendorCode : Nat := 76

/-- Part code (R173). -/
def partCode : Nat := 1622

/-- Revision (R173). -/
def revision : Nat := 1

/-- Largest body length of a frame (R168). -/
def maxBody : Nat := 512

/-- The dark position of the switch (R23). -/
def darkPosition : Nat := 16

/-- Places of the concurrence table (R160). -/
def concurPlaces : Nat := 4

/-- Slots reserved for each port (R115). -/
def slotsPerPort : Nat := 4

/-- Shared service slots (R115). -/
def serviceSlots : Nat := 8

/-- Places of the finding list (R95). -/
def findingPlaces : Nat := 32

/-- Candidates a result list holds (R72). -/
def maxCandidates : Nat := 256

/-- Housings of the cable (R1), and so the most positions a route can have (R5). -/
def housingCount : Nat := 192

/-- Chips in the pattern ring (R21). -/
def ringSize : Nat := 32768

/-- Length of a tone word in milliseconds: 48 symbols of 4 ms (R28). -/
def wordMs : Nat := 192

/-- The dark offset from power-on to the first calibration (R41). -/
def darkOffsetDefault : Nat := 8192

end Sys2Proof.Config
end

