-- ==== Sys2Proof/Machine/State.lean ====
section
/-! DEFINITION. The state of the LC16, block by block as chapter 00 lists them, and the state right
after POWER_ON. Everything is plain data. -/

namespace Sys2Proof.Machine

/-! ### Identities and parameters -/

/-- The five requester identities (chapter 00, R117). -/
inductive Requester where
  | port (p : Port)
  | internal
  deriving DecidableEq, Repr

/-- The nineteen engine parameters, in their numbers' order (R174). -/
structure Params where
  settle : Nat
  clipLimit : Nat
  snrQ : Nat
  stable : Nat
  wide : Nat
  step : Nat
  learnN : Nat
  driftN : Nat
  stepThr : Nat
  confirmN : Nat
  clearN : Nat
  suspectTtl : Nat
  qConfirmAdd : Nat
  slice : Nat
  preemptMax : Nat
  concurTimeout : Nat
  retryMax : Nat
  darkEvery : Nat
  dd : Nat
  deriving DecidableEq, Repr

/-- The defaults of R174. -/
def Params.default : Params :=
  { settle := 50, clipLimit := 64, snrQ := 32, stable := 10, wide := 50, step := 2, learnN := 4,
    driftN := 8, stepThr := 50, confirmN := 3, clearN := 3, suspectTtl := 60, qConfirmAdd := 2,
    slice := 4, preemptMax := 4, concurTimeout := 120, retryMax := 3, darkEvery := 0, dd := 16 }

/-! ### The Line Map (R1, R5) -/

inductive Presence where
  | absent
  | present
  deriving DecidableEq, Repr

inductive PumpSel where
  | unknown
  | primary
  | spare
  | both
  deriving DecidableEq, Repr

/-- A housing table entry (R1). A toggle of `none` is UNKNOWN, and so is a loopback step of `none`. -/
structure Housing where
  presence : Presence
  pump : Vector PumpSel 8
  toggle : Vector (Option Bool) 8
  outMute : Vector Bool 16
  retMute : Vector Bool 16
  loopback : Vector (Option (Fin 8)) 16
  deriving DecidableEq, Repr

/-- Power-on values of an entry (R1). -/
def Housing.powerOn : Housing :=
  { presence := .absent
    pump := Vector.replicate 8 .unknown
    toggle := Vector.replicate 8 none
    outMute := Vector.replicate 16 false
    retMute := Vector.replicate 16 false
    loopback := Vector.replicate 16 none }

inductive PairState where
  | unrouted
  | edit
  | routed
  deriving DecidableEq, Repr

/-- Order, chip code and drive level (R5). -/
structure Profile where
  order : Nat
  chipCode : Nat
  drive : Nat
  deriving DecidableEq, Repr

structure RouteEntry where
  housing : Nat
  lag : Nat
  deriving DecidableEq, Repr

/-- A pair record (R5). Position k of the route is entry k - 1 of the list, and N its length. -/
structure Pair where
  state : PairState
  owner : Option Port
  profile : Profile
  quietBase : Nat
  route : List RouteEntry
  deriving DecidableEq, Repr

def Pair.powerOn : Pair :=
  { state := .unrouted, owner := none, profile := ⟨11, 0, 0⟩, quietBase := 0, route := [] }

structure LineMap where
  housings : Vector Housing 192
  pairs : Vector Pair 16
  deriving DecidableEq, Repr

/-! ### The Probe Sequencer (R19 to R35) -/

inductive SeqState where
  | parked
  | settling
  | filling
  | steady
  | tone
  | dark
  | switchFault
  deriving DecidableEq, Repr

/-- The five orders of R26. The 40 word bits of SEND_WORD stand in the order they are sent. -/
inductive Order where
  | runPair (pair : PairNo) (profile : Profile)
  | sendWord (pair : PairNo) (profile : Profile) (bits : List Bool)
  | darkSample
  | darkChips (order : Nat)
  | endDark
  deriving DecidableEq, Repr

/-- Activity in DARK (R29). -/
inductive DarkWork where
  | idle
  | sampling
  | chips
  deriving DecidableEq, Repr

structure Sequencer where
  state : SeqState
  /-- Commanded switch position, 0 to 16 (R23). -/
  position : Nat
  /-- Pulses given on SW_STB so far (the model's own count, log 22). -/
  strobes : Nat
  /-- Current pair and profile in use (R25). -/
  current : Option (PairNo × Profile)
  /-- The order a settle serves; `endDark` where END_DARK ended the dark work during it (R24, R26). -/
  goal : Option Order
  /-- Line time of the settle's end (R23). -/
  settleEnd : Nat
  /-- The 48 symbols of the word being sent (R28). -/
  tone : List Bool
  /-- Line time at which TONE was entered (R28). -/
  toneStart : Nat
  /-- Order held in TONE (R26). -/
  held : Option Order
  /-- Stage i of the chip generator is bit i - 1 (R19). -/
  gen : BitVec 15
  genOrder : Nat
  running : Bool
  /-- Chips sent since the restart (R20). -/
  runChips : Nat
  /-- The boundary of the chip now held has been taken (the model's own, log 3). -/
  boundaryTaken : Bool
  work : DarkWork
  /-- The synthetic run's fill has ended (R29). -/
  filled : Bool
  faultHold : Bool
  /-- Pattern ring: entry i is bit i (R21). -/
  ring : BitVec 32768
  wp : Nat
  deriving DecidableEq, Repr

/-- The sequencer after power-on and engine reset, with no order yet (R35, log 7). -/
def Sequencer.parkedReset : Sequencer :=
  { state := .parked, position := 16, strobes := 0, current := none, goal := none, settleEnd := 0
    tone := [], toneStart := 0, held := none, gen := 0#15, genOrder := 11, running := false
    runChips := 0, boundaryTaken := false, work := .idle, filled := false, faultHold := false
    ring := 0#32768, wp := 0 }

/-! ### The Receive Intake (R36 to R49) -/

inductive DarkState where
  | uncalibrated
  | calibrated
  | manual
  deriving DecidableEq, Repr

/-- The dark accumulation of R43. -/
structure DarkAcc where
  count : Nat
  sum : Nat
  clips : Nat
  deriving DecidableEq, Repr

structure Intake where
  offset : Nat
  darkState : DarkState
  everCal : Bool
  refresh : Nat
  /-- dd as latched at the last dark grant (R43). -/
  dd : Nat
  acc : Option DarkAcc
  deriving DecidableEq, Repr

/-! ### The Correlator (R50 to R75) -/

inductive CellRole where
  | idle
  | echo
  | quiet
  deriving DecidableEq, Repr

/-- A lag cell (R50). The accumulator is an exact sum, which R62 shows to stay in 48 bits (log 9). -/
structure Cell where
  role : CellRole
  lag : Nat
  position : Option Nat
  offset : Int
  acc : Int
  deriving DecidableEq, Repr

/-- A cleared cell (R50). -/
def Cell.cleared : Cell := { role := .idle, lag := 0, position := none, offset := 0, acc := 0 }

/-- The five states of R56. An evaluation is one operation, begun and ended by ACCUMULATION_END; a cancel
that reaches the pass in EVALUATE is one taken on its last boundary (log 32). -/
inductive CorrState where
  | idle
  | armed
  | accumulate
  | evaluate
  | slot
  deriving DecidableEq, Repr

inductive PassKind where
  | measure
  | patrol
  | confirm
  | survey
  | verify
  | synth
  deriving DecidableEq, Repr

/-- The pass record of R55. `first` and `last` are positions, or the lags of a survey block. -/
structure PassRecord where
  job : Nat
  pair : Option PairNo
  kind : PassKind
  track : Bool
  first : Nat
  last : Nat
  order : Nat
  q : Nat
  w : Nat
  offset : Nat
  params : Params
  clips : Nat
  periodsLeft : Nat
  deriving DecidableEq, Repr

/-- The slot set-up of R73, with the offset and parameters latched at the word end, the number of the
current slot, and the periods its accumulation has left (`none` while waiting for its start). -/
structure SlotSetup where
  lag : Nat
  position : Nat
  w : Nat
  r : Nat
  order : Nat
  chipUs : Nat
  quietBase : Nat
  slotUnits : Nat
  offset : Nat
  params : Params
  slot : Nat
  periodsLeft : Option Nat
  deriving DecidableEq, Repr

structure Correlator where
  state : CorrState
  pass : Option PassRecord
  slot : Option SlotSetup
  cells : Vector Cell 64
  deriving DecidableEq, Repr

def Correlator.idleReset : Correlator :=
  { state := .idle, pass := none, slot := none, cells := Vector.replicate 64 Cell.cleared }

/-! ### The Signature Table (R76) -/

inductive SigState where
  | empty
  | learning
  | tracking
  deriving DecidableEq, Repr

inductive LastLevel where
  | none
  | lost
  | level (v : Nat)
  deriving DecidableEq, Repr

structure SigEntry where
  state : SigState
  base : Option Nat
  learn : Nat
  drift : Nat
  lastLevel : LastLevel
  lastDev : Option Int
  lastStamp : Nat
  deriving DecidableEq, Repr

def SigEntry.powerOn : SigEntry :=
  { state := .empty, base := none, learn := 0, drift := 0, lastLevel := .none, lastDev := none
    lastStamp := 0 }

structure SigTable where
  entries : Vector (Vector SigEntry 192) 16
  freeze : Vector Bool 16
  deriving DecidableEq, Repr

/-! ### Findings and echo records (R66, R94) -/

inductive FindingClass where
  | break_
  | gainStep
  | loopback
  | echoLoss
  | drift
  deriving DecidableEq, Repr

inductive FindingState where
  | suspect
  | confirmed
  | isolated
  | cleared
  deriving DecidableEq, Repr

structure Finding where
  pair : PairNo
  cls : FindingClass
  location : Nat
  housing : Nat
  magnitude : Option Int
  state : FindingState
  seen : Nat
  clean : Nat
  firstSeen : Nat
  lastSeen : Nat
  deriving DecidableEq, Repr

/-- Status of an echo record (R66); `pending` stands until step 2 of the evaluation. -/
inductive EchoStatus where
  | valid
  | lost
  | unbased
  | pending
  deriving DecidableEq, Repr

structure EchoRecord where
  position : Nat
  housing : Option Nat
  offset : Int
  amp : Int
  level : Option Nat
  dev : Option Int
  status : EchoStatus
  cls : Option FindingClass
  edge : Bool
  overdrive : Bool
  stamp : Nat
  deriving DecidableEq, Repr

/-- A survey candidate (R71). -/
structure Candidate where
  lag : Nat
  amp : Int
  deriving DecidableEq, Repr

/-! ### The Job Scheduler (R115 to R137) -/

inductive JobKind where
  | measure
  | survey
  | command
  | dark
  | synth
  | patrol
  | confirm
  deriving DecidableEq, Repr

inductive JobClass where
  | urgent
  | routine
  deriving DecidableEq, Repr

inductive JobState where
  | queued
  | waitConcur
  | active
  | suspended
  | ended
  deriving DecidableEq, Repr

inductive JobOutcome where
  | complete
  | cancelled
  | declined
  | concurExpired
  | noReply
  | refused
  deriving DecidableEq, Repr

/-- The opcodes of R138, in the order of their codes 0 to 7. -/
inductive Opcode where
  | nop
  | queryPumps
  | selectPump
  | mute
  | unmute
  | setLoopback
  | trimGain
  | queryTemp
  deriving DecidableEq, Repr

/-- The words of a command job (R143): the NOP prefix, word 1 and word 2. -/
inductive CmdWord where
  | nopPrefix
  | word1
  | word2
  deriving DecidableEq, Repr

/-- A command job's progress (R117): its next word, or the verify pass. -/
inductive CmdStep where
  | word (w : CmdWord)
  | verify
  deriving DecidableEq, Repr

/-- Concurrence basis (R159). -/
inductive Basis where
  | notNeeded
  | asked
  | given
  | lapsed
  deriving DecidableEq, Repr

/-- The bits of a readable reply (R146). -/
structure Reply where
  t : Bool
  a : Bool
  c : Bool
  v : Nat
  deriving DecidableEq, Repr

/-- An entry of the reply record (R151); `reply` is none while no readable reply has come. -/
structure ReplyEntry where
  word : CmdWord
  toggle : Bool
  tries : Nat
  reply : Option Reply
  deriving DecidableEq, Repr

/-- The command fields of a COMMAND job (R117, R139, R159), with where its command stands. -/
structure CommandFields where
  housing : Nat
  opcode : Opcode
  argument : BitVec 16
  verifySpan : Nat
  r : Nat
  slotUnits : Nat
  basis : Basis
  askedPort : Option Port
  next : CmdStep
  /-- The first word has started (R127). -/
  wordStarted : Bool
  /-- The command's last word has succeeded (R147). -/
  completed : Bool
  reply : List ReplyEntry
  deriving DecidableEq, Repr

inductive CalResult where
  | accepted
  | rejected
  | held
  deriving DecidableEq, Repr

/-- The calibration result a DARK job's status carries (R44). -/
structure DarkReport where
  result : CalResult
  offset : Nat
  clips : Option Nat
  deriving DecidableEq, Repr

/-- A job record (R117). Its slot group follows from its kind and requester (R115), and its age is its
place in the list of jobs. -/
structure Job where
  number : Nat
  requester : Requester
  kind : JobKind
  cls : JobClass
  pair : Option PairNo
  range : Option (Nat × Nat)
  q : Nat
  w : Nat
  track : Bool
  cmd : Option CommandFields
  state : JobState
  /-- Next position or next lag; a COMMAND's next word is `cmd.next`, and a DARK job has none and holds 0
  (log 28). -/
  progress : Nat
  passes : Nat
  preempts : Nat
  outcome : Option JobOutcome
  displaced : Bool
  dark : Option DarkReport
  /-- The job has been ACTIVE (R109, R131). -/
  everActive : Bool
  /-- A cancel was taken during an exchange (R157) or after the end of a pass's accumulation (R60), and
  waits for its end. -/
  cancelPending : Bool
  deriving DecidableEq, Repr

/-- Patrol settings and timer of a pair (R128); a timer of `none` is stopped. -/
structure Patrol where
  interval : Nat
  q : Nat
  w : Nat
  timer : Option Nat
  deriving DecidableEq, Repr

/-- The four statistics of a pair (R134). -/
structure Stats where
  passes : Nat
  overdrives : Nat
  replyFails : Nat
  preempts : Nat
  deriving DecidableEq, Repr

inductive ListState where
  | filling
  | complete
  | partialEnd
  deriving DecidableEq, Repr

inductive ResultBody where
  | echoes (records : List EchoRecord)
  | candidates (found : List Candidate)
  deriving DecidableEq, Repr

/-- A port's result list (R131); its record count is the body's length. -/
structure ResultList where
  job : Option Nat
  kind : Option JobKind
  pair : Option PairNo
  state : ListState
  truncated : Bool
  body : ResultBody
  deriving DecidableEq, Repr

def ResultList.powerOn : ResultList :=
  { job := none, kind := none, pair := none, state := .complete, truncated := false
    body := .echoes [] }

inductive FaultKind where
  | switchFault
  | darkRejected
  deriving DecidableEq, Repr

/-- A fault log record (R33). -/
structure FaultRecord where
  kind : FaultKind
  time : Nat
  job : Option Nat
  requester : Option Requester
  pair : Option PairNo
  deriving DecidableEq, Repr

structure FaultLog where
  record : Option FaultRecord
  overrun : Bool
  deriving DecidableEq, Repr

structure Scheduler where
  /-- The jobs in slots, oldest first (R115, R117). -/
  jobs : List Job
  /-- The last job number assigned (R116). -/
  lastNumber : Nat
  /-- Requester last granted in each class (R122). -/
  lastUrgent : Requester
  lastRoutine : Requester
  patrols : Vector Patrol 16
  stats : Vector Stats 16
  results : Vector ResultList 4
  faultLog : FaultLog
  deriving DecidableEq, Repr

/-! ### The Command Channel (R138 to R167) -/

inductive ExPhase where
  | idle
  | sending
  | reply
  | decided
  deriving DecidableEq, Repr

/-- Outcome of a word (R147, R148). -/
inductive WordOutcome where
  | retry
  | exhausted
  | refused
  | succeeded
  deriving DecidableEq, Repr

/-- What the Correlator hands on for one reply slot (R75). -/
structure SlotResult where
  slot : Nat
  amp : Int
  offset : Int
  edge : Bool
  noise : Nat
  qualifies : Bool
  deriving DecidableEq, Repr

/-- The exchange record (R143). `endChip` is the exchange end in chips after the word end (R144). -/
structure Exchange where
  phase : ExPhase
  job : Nat
  word : CmdWord
  toggle : Bool
  tries : Nat
  wordEnd : Nat
  slots : List SlotResult
  outcome : Option WordOutcome
  endChip : Nat
  deriving DecidableEq, Repr

def Exchange.none : Exchange :=
  { phase := .idle, job := 0, word := .word1, toggle := false, tries := 0, wordEnd := 0, slots := []
    outcome := Option.none, endChip := 0 }

/-- An open concurrence record (R160). -/
structure ConcurRec where
  job : Nat
  requester : Port
  asked : Port
  pair : PairNo
  housing : Nat
  opcode : Opcode
  argument : BitVec 16
  deadline : Nat
  deriving DecidableEq, Repr

structure Channel where
  exchange : Exchange
  concur : List ConcurRec
  deriving DecidableEq, Repr

/-! ### The Management Ports (R168 to R181) -/

inductive Role where
  | station
  | tenant
  deriving DecidableEq, Repr

/-- The states of a port (R168). -/
inductive FrameState where
  | idle
  | receiving
  | handling
  | responding
  deriving DecidableEq, Repr

structure PortState where
  role : Role
  pendingSet : BitVec 12
  mask : BitVec 12
  frame : FrameState
  /-- CS_N is low: a byte of the period has been clocked (R168). -/
  csLow : Bool
  /-- The bytes received so far of the request frame in RECEIVING (R168). -/
  received : List Byte
  /-- The bytes of the response, formed in HANDLING, that have not been read out (R168, R169). -/
  response : List Byte
  /-- PRST_N is low (R178). -/
  prstLow : Bool
  /-- The bytes MISO carried in the last read-out (the model's own). -/
  miso : List Byte
  deriving DecidableEq, Repr

/-! ### The Synthetic Line (R182) -/

inductive NoiseMode where
  | fixed
  | running
  deriving DecidableEq, Repr

structure SynthEcho where
  lag : Nat
  amp : Nat
  deriving DecidableEq, Repr

structure SynthDef where
  order : Nat
  quietBase : Nat
  dc : Nat
  noise : Nat
  seed : Nat
  mode : NoiseMode
  echoes : List SynthEcho
  deriving DecidableEq, Repr

structure SynthLine where
  defn : Option SynthDef
  /-- Stage i of the noise register is bit i - 1 (R184). -/
  noise : BitVec 16
  deriving DecidableEq, Repr

/-! ### The whole part -/

structure State where
  /-- Line time in milliseconds (R18, log 8). -/
  lineTime : Nat
  params : Params
  lineMap : LineMap
  seq : Sequencer
  intake : Intake
  corr : Correlator
  sig : SigTable
  findings : List Finding
  sched : Scheduler
  channel : Channel
  ports : Vector PortState 4
  synth : SynthLine
  /-- The commands that wait, first in, first out. -/
  pending : List Instr
  deriving DecidableEq, Repr

/-- The part raises no fault: a refused request is an answer on its port (R171) and a switch fault is
recorded in the fault log (R33), so the machine never stops. No constructor. -/
inductive Fault where
  deriving DecidableEq, Repr

/-- The only refusal. -/
inductive Refusal where
  /-- Raised by `exec` alone, for a command that has no meaning yet. Safe: the machine stops. No arm of
  `exec` raises it now. -/
  | notModelled (mnemonic : String)
  deriving DecidableEq, Repr

/-- The role a strap fixes (R170): port 0 is the station when its strap is high. -/
def Role.ofStrap (p : Port) (strap : Bool) : Role :=
  if p = 0 ∧ strap = true then .station else .tenant

/-- A port at power-on (R180), PORT_READY (bit 11) pending. -/
def PortState.powerOn (role : Role) (prstLow : Bool) : PortState :=
  { role := role, pendingSet := 0x800#12, mask := 0#12, frame := .idle, csLow := false
    received := [], response := [], prstLow := prstLow, miso := [] }

/-- Every block at its power-on values, before the start-up DARK job is queued (R180). -/
def State.cleared (ports : Vector PortState 4) (pending : List Instr) : State :=
  { lineTime := 0
    params := Params.default
    lineMap := { housings := Vector.replicate 192 Housing.powerOn
                 pairs := Vector.replicate 16 Pair.powerOn }
    seq := Sequencer.parkedReset
    intake := { offset := 8192, darkState := .uncalibrated, everCal := false, refresh := 0, dd := 16
                acc := none }
    corr := Correlator.idleReset
    sig := { entries := Vector.replicate 16 (Vector.replicate 192 SigEntry.powerOn)
             freeze := Vector.replicate 16 false }
    findings := []
    sched := { jobs := [], lastNumber := 0, lastUrgent := .internal, lastRoutine := .internal
               patrols := Vector.replicate 16 { interval := 0, q := 4, w := 3, timer := none }
               stats := Vector.replicate 16
                 { passes := 0, overdrives := 0, replyFails := 0, preempts := 0 }
               results := Vector.replicate 4 ResultList.powerOn
               faultLog := { record := none, overrun := false } }
    channel := { exchange := Exchange.none, concur := [] }
    ports := ports
    synth := { defn := none, noise := 0#16 }
    pending := pending }

/-- The start-up DARK job (R49): job 1, granted at once because the path is free (R122). -/
def Job.startUp : Job :=
  { number := 1, requester := .internal, kind := .dark, cls := .urgent, pair := none, range := none
    q := 0, w := 1, track := false, cmd := none, state := .active, progress := 0, passes := 0
    preempts := 0, outcome := none, displaced := false, dark := none, everActive := true
    cancelPending := false }

/-- The part right after POWER_ON (R180, R49, R35): port 0's strap high and the others low (DESIGN
CHOICE, log 5), the start-up DARK job ACTIVE and dark sampling begun. -/
def State.reset : State :=
  let s := State.cleared
    ⟨#[PortState.powerOn .station false, PortState.powerOn .tenant false,
       PortState.powerOn .tenant false, PortState.powerOn .tenant false], rfl⟩ []
  { s with
    seq := { s.seq with state := .dark, work := .sampling }
    intake := { s.intake with acc := some ⟨0, 0, 0⟩ }
    sched := { s.sched with jobs := [Job.startUp], lastNumber := 1 } }

end Sys2Proof.Machine
end

