-- ==== Sys2Proof/Machine/Ops.lean ====
section
/-! DEFINITION. The named operations over the tables of State: reads and writes of one entry, jobs by
number, the fault log. Every other file reads and writes a table through these. -/

namespace Sys2Proof.Machine

/-! ### Vectors read and written by a number -/

/-- Entry `i` of a table, or `d` beyond its end. -/
def tableGet {α : Type} {n : Nat} (v : Vector α n) (i : Nat) (d : α) : α := v.toList.getD i d

/-- The table with entry `i` changed by `f`; unchanged beyond its end. -/
def tableMap {α : Type} {n : Nat} (v : Vector α n) (i : Nat) (f : α → α) : Vector α n :=
  ⟨⟨v.toList.modify i f⟩, by simp⟩

/-- A table of `n` entries made from a list, `d` where the list has ended. -/
def tableOf {α : Type} (n : Nat) (d : α) (l : List α) : Vector α n :=
  ⟨⟨(List.range n).map (fun i => l.getD i d)⟩, by simp⟩

/-- A one-step clamp of a number into a range (R172). -/
def clamp (lo hi x : Nat) : Nat := if x < lo then lo else if hi < x then hi else x

/-! ### The Line Map -/

def State.pair (s : State) (p : PairNo) : Pair := s.lineMap.pairs[p]

def State.setPair (s : State) (p : PairNo) (f : Pair → Pair) : State :=
  { s with lineMap := { s.lineMap with pairs := tableMap s.lineMap.pairs p.val f } }

/-- Entry of housing `h`, 1 to 192 (R1). -/
def State.housing (s : State) (h : Nat) : Housing :=
  tableGet s.lineMap.housings (h - 1) Housing.powerOn

def State.setHousing (s : State) (h : Nat) (f : Housing → Housing) : State :=
  { s with lineMap := { s.lineMap with housings := tableMap s.lineMap.housings (h - 1) f } }

/-- Sequence length L = 2^n - 1 (R19). -/
def seqLength (order : Nat) : Nat := 2 ^ order - 1

/-- Chip period in microseconds of a chip code (R20). -/
def chipUs : Nat → Nat
  | 0 => 5
  | 1 => 10
  | 2 => 20
  | 3 => 40
  | _ => 80

/-- N of a pair (R5). -/
def Pair.n (p : Pair) : Nat := p.route.length

/-- Housing at a position (R7). -/
def Pair.housingAt (p : Pair) (k : Nat) : Option Nat :=
  if k = 0 then none else (p.route[k - 1]?).map RouteEntry.housing

/-- Lag at a position (R7). -/
def Pair.lagAt (p : Pair) (k : Nat) : Option Nat :=
  if k = 0 then none else (p.route[k - 1]?).map RouteEntry.lag

/-- Position of a housing (R7). -/
def Pair.positionOf (p : Pair) (h : Nat) : Option Nat :=
  (p.route.findIdx? (fun e => e.housing = h)).map (· + 1)

/-- Whether the pair routes through the housing (R7). -/
def Pair.routesThrough (p : Pair) (h : Nat) : Bool := (p.positionOf h).isSome

/-- The other pair of the group (chapter 00, Numbering). -/
def partner (p : PairNo) : PairNo :=
  if p.val % 2 = 0 then ⟨(p.val + 1) % 16, Nat.mod_lt _ (by decide)⟩
  else ⟨p.val - 1, Nat.lt_of_le_of_lt (Nat.sub_le _ _) p.isLt⟩

/-- Pair group of a pair (chapter 00). -/
def pairGroup (p : PairNo) : Nat := p.val / 2

/-- Toggle of a housing and group (R1). -/
def State.toggleOf (s : State) (h g : Nat) : Option Bool := tableGet (s.housing h).toggle g none

def State.setToggle (s : State) (h g : Nat) (t : Option Bool) : State :=
  s.setHousing h (fun e => { e with toggle := tableMap e.toggle g (fun _ => t) })

/-! ### The Signature Table -/

/-- Entry of pair `p` at position `k`, 1 to 192 (R76). -/
def State.sigAt (s : State) (p : PairNo) (k : Nat) : SigEntry :=
  tableGet s.sig.entries[p] (k - 1) SigEntry.powerOn

def State.setSig (s : State) (p : PairNo) (k : Nat) (f : SigEntry → SigEntry) : State :=
  { s with
    sig := { s.sig with
      entries := tableMap s.sig.entries p.val (fun row => tableMap row (k - 1) f) } }

def State.frozen (s : State) (p : PairNo) : Bool := s.sig.freeze[p]

/-! ### The Job Scheduler -/

def State.setJobs (s : State) (jobs : List Job) : State :=
  { s with sched := { s.sched with jobs := jobs } }

/-- The job in a slot that holds a number (R116). -/
def State.job? (s : State) (n : Nat) : Option Job := s.sched.jobs.find? (fun j => j.number = n)

/-- The jobs that hold a number, changed by `f`. -/
def State.setJob (s : State) (n : Nat) (f : Job → Job) : State :=
  s.setJobs (s.sched.jobs.map (fun j => if j.number = n then f j else j))

/-- Frees the slot and the number of a job (R115, R116). -/
def State.freeJob (s : State) (n : Nat) : State :=
  s.setJobs (s.sched.jobs.filter (fun j => j.number ≠ n))

/-- The job that holds the probe path (R122). -/
def State.active? (s : State) : Option Job := s.sched.jobs.find? (fun j => j.state = .active)

/-- A job sits in one of its port's four slots (R115): a port's job of any kind but DARK. -/
def Job.inPortSlot (p : Port) (j : Job) : Bool := j.requester = .port p && j.kind ≠ .dark

/-- A job sits in a service slot (R115). -/
def Job.inServiceSlot (j : Job) : Bool := j.kind = .dark || j.kind = .confirm

def State.portSlotsUsed (s : State) (p : Port) : Nat := s.sched.jobs.countP (Job.inPortSlot p)

def State.serviceSlotsUsed (s : State) : Nat := s.sched.jobs.countP Job.inServiceSlot

/-- The pair has a job that is not ENDED (R8, R14). -/
def State.pairBusy (s : State) (p : PairNo) : Bool :=
  s.sched.jobs.any (fun j => j.pair = some p && j.state ≠ .ended)

/-- The next job number (R116): the first above the last assigned, 255 going back to 1, that no job in
a slot holds. -/
def nextNumber (last : Nat) (jobs : List Job) : Nat :=
  (((List.range 255).map (fun i => (last + i) % 255 + 1)).find?
    (fun n => jobs.all (fun j => j.number ≠ n))).getD 1

/-- Puts a new job in a slot: it takes the next number and is the youngest (R116, R117). -/
def State.addJob (s : State) (j : Job) : State :=
  let n := nextNumber s.sched.lastNumber s.sched.jobs
  { s with sched := { s.sched with jobs := s.sched.jobs ++ [{ j with number := n }], lastNumber := n } }

/-- A new QUEUED job record (R117); the caller fills in what its kind has. A job with no range, a DARK job among
them, has progress 0 (DESIGN CHOICE, log 28). -/
def Job.fresh (requester : Requester) (kind : JobKind) (cls : JobClass) (pair : Option PairNo)
    (range : Option (Nat × Nat)) (q w : Nat) : Job :=
  { number := 0, requester := requester, kind := kind, cls := cls, pair := pair, range := range
    q := q, w := w, track := false, cmd := none, state := .queued
    progress := (range.map Prod.fst).getD 0, passes := 0, preempts := 0, outcome := none
    displaced := false, dark := none, everActive := false, cancelPending := false }

/-- The command fields of a job, changed by `f`. -/
def State.setCmd (s : State) (n : Nat) (f : CommandFields → CommandFields) : State :=
  s.setJob n (fun j => { j with cmd := j.cmd.map f })

/-- A measuring kind (R117). -/
def JobKind.measuring : JobKind → Bool
  | .measure | .survey | .patrol | .confirm | .synth => true
  | .command | .dark => false

/-- A job of these kinds takes its port's result list over (R131). -/
def Job.listBearing (j : Job) : Bool :=
  match j.kind with
  | .measure | .survey | .synth => true
  | .command => (j.cmd.map (fun c => decide (0 < c.verifySpan))).getD false
  | .dark | .patrol | .confirm => false

def State.setResults (s : State) (p : Port) (f : ResultList → ResultList) : State :=
  { s with sched := { s.sched with results := tableMap s.sched.results p.val f } }

def State.setPatrol (s : State) (p : PairNo) (f : Patrol → Patrol) : State :=
  { s with sched := { s.sched with patrols := tableMap s.sched.patrols p.val f } }

def State.setStats (s : State) (p : PairNo) (f : Stats → Stats) : State :=
  { s with sched := { s.sched with stats := tableMap s.sched.stats p.val f } }

/-- Takeover of a port's result list by a job (R131). -/
def takeOver (j : Job) (s : State) : State :=
  match j.requester with
  | .internal => s
  | .port p =>
    s.setResults p (fun _ =>
      { job := some j.number, kind := some j.kind, pair := j.pair, state := .filling
        truncated := false
        body := if j.kind = .survey then .candidates [] else .echoes [] })

/-- Number of entries of a result body (R131). -/
def ResultBody.count : ResultBody → Nat
  | .echoes l => l.length
  | .candidates l => l.length

/-- A restart of a pair's patrol timer (R128). -/
def restartPatrol (now : Nat) (p : Patrol) : Patrol :=
  { p with timer := if p.interval = 0 then none else some (now + p.interval * 60000) }

/-! ### The fault log -/

/-- A fault is offered to the log (R33). -/
def logFault (r : FaultRecord) (s : State) : State :=
  let log := s.sched.faultLog
  let log' := match log.record with
    | none => { log with record := some r }
    | some _ => { log with overrun := true }
  { s with sched := { s.sched with faultLog := log' } }

/-! ### The concurrence table -/

/-- The open record that names a job (R160). -/
def State.concurOf (s : State) (job : Nat) : Option ConcurRec :=
  s.channel.concur.find? (fun r => r.job = job)

def State.removeConcur (s : State) (job : Nat) : State :=
  { s with channel := { s.channel with concur := s.channel.concur.filter (fun r => r.job ≠ job) } }

/-- The pair is concerned by an open record (R160). -/
def State.concerned (s : State) (p : PairNo) : Bool :=
  s.channel.concur.any (fun r => r.pair = p || r.pair = partner p)

def State.setExchange (s : State) (x : Exchange) : State :=
  { s with channel := { s.channel with exchange := x } }

/-! ### The ports -/

def State.port (s : State) (p : Port) : PortState := s.ports[p]

def State.setPort (s : State) (p : Port) (f : PortState → PortState) : State :=
  { s with ports := tableMap s.ports p.val f }

end Sys2Proof.Machine
end

