-- ==== Sys2Proof/Machine/Flags.lean ====
section
/-! DEFINITION. The flags software sees: notices and the attention line (R175 to R177), the pair
statistics with STATS_HALF (R134), the clip test (R38). -/

namespace Sys2Proof.Machine

/-- The twelve notice kinds, in the order of their bits (R175). -/
inductive Notice where
  | jobEnded
  | findingNew
  | findingConfirmed
  | findingCleared
  | concurAsked
  | overdrive
  | statsHalf
  | listFull
  | darkFailed
  | switchFault
  | engineReset
  | portReady
  deriving DecidableEq, Repr

/-- Bit of a notice kind (R175). -/
def noticeBit : Notice → Nat
  | .jobEnded => 0
  | .findingNew => 1
  | .findingConfirmed => 2
  | .findingCleared => 3
  | .concurAsked => 4
  | .overdrive => 5
  | .statsHalf => 6
  | .listFull => 7
  | .darkFailed => 8
  | .switchFault => 9
  | .engineReset => 10
  | .portReady => 11

/-- The set that holds one notice kind. -/
def noticeMask (k : Notice) : BitVec 12 := 1#12 <<< noticeBit k

/-- A notice kind is made pending on one port (R175). -/
def raiseNotice (k : Notice) (p : Port) (s : State) : State :=
  s.setPort p (fun t => { t with pendingSet := t.pendingSet ||| noticeMask k })

/-- A notice kind is made pending on each of several ports (R175). -/
def raiseAll (k : Notice) (ps : List Port) (s : State) : State :=
  ps.foldl (fun s p => raiseNotice k p s) s

/-- The requesting set: pending and in the mask (R176). -/
def requestingSet (t : PortState) : BitVec 12 := t.pendingSet &&& t.mask

/-- The attention line is asserted, ATTN_N low (R176). -/
def attention (t : PortState) : Bool := requestingSet t ≠ 0#12

/-- The port that gets a pair's notices: its owner, or port 0 (R15, R175). -/
def noticePort (s : State) (p : PairNo) : Port := (s.pair p).owner.getD 0

/-- The three 8-bit statistics of a pair (R134). -/
inductive SmallStat where
  | overdrives
  | replyFails
  | preempts
  deriving DecidableEq, Repr

def readSmallStat (k : SmallStat) (t : Stats) : Nat :=
  match k with
  | .overdrives => t.overdrives
  | .replyFails => t.replyFails
  | .preempts => t.preempts

def writeSmallStat (k : SmallStat) (v : Nat) (t : Stats) : Stats :=
  match k with
  | .overdrives => { t with overdrives := v }
  | .replyFails => { t with replyFails := v }
  | .preempts => { t with preempts := v }

/-- One more in a statistic that saturates. -/
def saturating (limit x : Nat) : Nat := min (x + 1) limit

/-- An 8-bit statistic goes up by 1, saturating at 255; from 127 to 128 it raises STATS_HALF on the
pair's owner or port 0 (R134). -/
def bumpStat (k : SmallStat) (p : PairNo) (s : State) : State :=
  let old := readSmallStat k s.sched.stats[p]
  let s := s.setStats p (fun t => writeSmallStat k (saturating 255 old) t)
  if old = 127 then raiseNotice .statsHalf (noticePort s p) s else s

/-- The passes-completed statistic goes up by 1, saturating at 65535, with no notice (R134). -/
def bumpPasses (p : PairNo) (s : State) : State :=
  s.setStats p (fun t => { t with passes := saturating 65535 t.passes })

/-- A raw sample is a clip (R38). -/
def isClip (raw : Nat) : Bool := raw = 0 || raw = 16383

end Sys2Proof.Machine
end

