-- ==== Sys2Proof/Machine/Generator.lean ====
section
/-! DEFINITION. Shift registers, the pattern ring, tone symbols and the outputs toward the probe
(R19 to R22, R28, R184). -/

namespace Sys2Proof.Machine

/-- Stage `i`, numbered from 1, of a shift register held with stage i in bit i - 1 (R19, R184). -/
def stage {w : Nat} (r : BitVec w) (i : Nat) : Bool := r.getLsbD (i - 1)

/-- Exclusive-or of the tapped stages (R19, step 2). -/
def feedback {w : Nat} (taps : List Nat) (r : BitVec w) : Bool :=
  taps.foldl (fun b i => b ^^ stage r i) false

/-- One step of a register of `n` stages: every stage passes its value up and stage 1 takes the feedback
bit (R19, steps 2 and 3). -/
def shiftStep {w : Nat} (n : Nat) (taps : List Nat) (r : BitVec w) : BitVec w :=
  ((r <<< 1) &&& BitVec.ofNat w (2 ^ n - 1)) ||| BitVec.ofNat w (feedback taps r).toNat

/-- Tapped stages of each order (R19). -/
def chipTaps : Nat → List Nat
  | 11 => [11, 9]
  | 12 => [12, 11, 10, 4]
  | 13 => [13, 12, 11, 8]
  | 14 => [14, 13, 12, 2]
  | 15 => [15, 14]
  | _ => []

/-- The seed of an order: every stage at 1 (R19). -/
def chipSeed (n : Nat) : BitVec 15 := BitVec.ofNat 15 (2 ^ n - 1)

/-- One step of the chip generator (R19). -/
def chipStep (n : Nat) (r : BitVec 15) : BitVec 15 := shiftStep n (chipTaps n) r

/-- The chip a generator of order `n` sends: the value held in stage n (R19, step 1). -/
def chipOut (n : Nat) (r : BitVec 15) : Bool := stage r n

/-- A chip as a reference value, +1 or -1 (R20, R58). -/
def chipSign (c : Bool) : Int := if c then 1 else -1

/-- One step of the noise register (R184). -/
def noiseStep (r : BitVec 16) : BitVec 16 := shiftStep 16 [16, 14, 13, 11] r

/-- The noise term of a register value (R184), rounded toward minus infinity. -/
def noiseTerm (r : BitVec 16) (amp : Nat) : Int := (((r.toNat : Int) - 32768) * amp) / 32768

/-! ### The pattern ring (R21) -/

/-- The ring entry at a position. -/
def ringRead (ring : BitVec 32768) (i : Nat) : Bool := ring.getLsbD i

/-- The ring with the entry at a position written. -/
def ringWrite (ring : BitVec 32768) (i : Nat) (c : Bool) : BitVec 32768 :=
  if c then ring ||| (1#32768 <<< i) else ring &&& ~~~(1#32768 <<< i)

/-- The chip written `lag` chip times before the chip at position `at_` (R21). -/
def ringBack (ring : BitVec 32768) (at_ lag : Nat) : Bool :=
  ringRead ring ((at_ + 32768 - lag % 32768) % 32768)

/-! ### Tone words (R28) -/

/-- The preamble of eight symbols (R28). -/
def preamble : List Bool := [true, false, true, false, true, false, true, false]

/-- MOD_OUT `us` microseconds after the word's start: a symbol 1 is a square wave of 2.5 kHz, a symbol
0 one of 1.25 kHz, each beginning on a bright half-cycle (R28). -/
def toneWave (symbols : List Bool) (us : Nat) : Bool :=
  let half := if symbols.getD (us / 4000) false then 200 else 400
  decide (us < symbols.length * 4000) && decide ((us % 4000) / half % 2 = 0)

/-! ### Outputs (R22, R23) -/

/-- MOD_OUT in a sequencer state; `us` is the time since the word's start, read in TONE alone (R22, log
22). -/
def modOut (q : Sequencer) (us : Nat) : Bool :=
  match q.state with
  | .filling | .steady => chipOut q.genOrder q.gen
  | .tone => toneWave q.tone us
  | .parked | .settling | .dark | .switchFault => false

/-- DRV[7:0] (R22). -/
def drvOut (q : Sequencer) : Nat :=
  match q.state with
  | .filling | .steady | .tone => (q.current.map (fun c => c.2.drive)).getD 0
  | .parked | .settling | .dark | .switchFault => 0

/-- Spacing of the ADC strobes in microseconds, or none where no strobe is given (R22, R29). -/
def strobeUs (q : Sequencer) : Option Nat :=
  match q.state with
  | .filling | .steady => some ((q.current.map (fun c => chipUs c.2.chipCode)).getD 5)
  | .dark => if q.work = .idle then none else some 10
  | .parked | .settling | .tone | .switchFault => none

/-! ### The run of chips (R19, R20) -/

/-- A restart: the seed is loaded in the register of the order given (R19). -/
def restartGen (n : Nat) (q : Sequencer) : Sequencer :=
  { q with gen := chipSeed n, genOrder := n, running := true, runChips := 0, boundaryTaken := false }

/-- A period boundary stands at the chip now held and has not been taken: the register holds the seed
(R20). The restart chip starts no count, so it is left out (R57). -/
def boundaryDue (q : Sequencer) : Bool :=
  q.running && !q.boundaryTaken && decide (0 < q.runChips) && q.gen = chipSeed q.genOrder

def takeBoundary (q : Sequencer) : Sequencer := { q with boundaryTaken := true }

/-- One chip is sent: written to the ring at the write position, which then advances, and the generator
steps (R19, R21). -/
def sendChip (q : Sequencer) : Sequencer :=
  { q with
    ring := ringWrite q.ring q.wp (chipOut q.genOrder q.gen)
    wp := (q.wp + 1) % 32768
    gen := chipStep q.genOrder q.gen
    runChips := q.runChips + 1
    boundaryTaken := false }

end Sys2Proof.Machine
end

