-- ==== Sys2Proof/Machine/Path.lean ====
section
/-! DEFINITION. The sequencer's states and the five orders it takes (R23 to R29, R31, R35). -/

namespace Sys2Proof.Machine

/-- Where an order wants the switch (R23, R26). -/
def orderTarget : Order → Nat
  | .runPair p _ => p.val
  | .sendWord p _ _ => p.val
  | .darkSample | .darkChips _ | .endDark => 16

/-- An order for dark work, or dark work that has ended (R26). -/
def Order.isDark : Order → Bool
  | .darkSample | .darkChips _ | .endDark => true
  | .runPair _ _ | .sendWord _ _ _ => false

/-- FILLING is entered on a pair: the generator restarts with the order of the profile in use (R27). -/
def enterFilling (p : PairNo) (prof : Profile) (s : State) : State :=
  { s with
    seq := restartGen prof.order { s.seq with
      state := .filling, current := some (p, prof), goal := none, tone := [], held := none
      work := .idle, filled := false } }

/-- TONE is entered: preamble and word bits follow each other as 48 symbols (R28). -/
def enterTone (p : PairNo) (prof : Profile) (bits : List Bool) (s : State) : State :=
  { s with
    seq := { s.seq with
      state := .tone, current := some (p, prof), goal := none, tone := preamble ++ bits
      toneStart := s.lineTime, held := none, running := false, work := .idle, filled := false } }

/-- The sequencer's resting state: PARKED, or SWITCH_FAULT while the fault hold is set (R26, R31). -/
def restState (q : Sequencer) : SeqState := if q.faultHold then .switchFault else .parked

/-- Dark work has ended: generator and strobes stop, the profile in use is none (R29). -/
def enterRest (s : State) : State :=
  { s with
    seq := { s.seq with
      state := restState s.seq, current := none, goal := none, running := false, work := .idle
      filled := false }
    intake := { s.intake with acc := none } }

/-- DARK is entered for an order (R29). DARK_SAMPLE starts the dark accumulation (R43); DARK_CHIPS
restarts the generator and, in FIXED mode, reloads the noise register (R184). -/
def enterDark (o : Order) (s : State) : State :=
  let q := { s.seq with
    state := .dark, current := none, goal := none, running := false, filled := false }
  match o with
  | .darkSample =>
    { s with
      seq := { q with work := .sampling }
      intake := { s.intake with acc := some ⟨0, 0, 0⟩ } }
  | .darkChips n =>
    { s with
      seq := restartGen n { q with work := .chips }
      intake := { s.intake with acc := none }
      synth := match s.synth.defn with
        | some d => if d.mode = .fixed then { s.synth with noise := BitVec.ofNat 16 d.seed } else s.synth
        | none => s.synth }
  | .runPair _ _ | .sendWord _ _ _ | .endDark => enterRest s

/-- A move of the switch (R23): the target on SW_POS, one pulse on SW_STB, SETTLING for the settle time
held at this moment. Dark work and chips end with it. -/
def moveSwitch (o : Order) (s : State) : State :=
  { s with
    seq := { s.seq with
      state := .settling, position := orderTarget o, strobes := s.seq.strobes + 1
      settleEnd := s.lineTime + s.params.settle, goal := some o, current := none, running := false
      work := .idle, filled := false }
    intake := { s.intake with acc := none } }

/-- An order is taken, with the effect the sequencer's state gives (R26, log 31). -/
def giveOrder (o : Order) (s : State) : State :=
  match s.seq.state with
  | .parked =>
    match o with
    | .endDark => s
    | .darkSample | .darkChips _ => enterDark o s
    | .runPair _ _ | .sendWord _ _ _ => moveSwitch o s
  | .settling =>
    match o with
    | .endDark =>
      if (s.seq.goal.map Order.isDark).getD false then
        { s with seq := { s.seq with goal := some .endDark } }
      else s
    | .darkSample | .darkChips _ | .runPair _ _ | .sendWord _ _ _ =>
      if orderTarget o = s.seq.position then { s with seq := { s.seq with goal := some o } }
      else moveSwitch o s
  | .filling | .steady =>
    match o with
    | .endDark => s
    | .darkSample | .darkChips _ => moveSwitch o s
    | .runPair p prof =>
      match s.seq.current with
      | some (p', prof') =>
        if p = p' then (if prof = prof' then s else enterFilling p prof s) else moveSwitch o s
      | none => moveSwitch o s
    | .sendWord p prof bits =>
      match s.seq.current with
      | some (p', _) => if p = p' then enterTone p prof bits s else moveSwitch o s
      | none => moveSwitch o s
  | .tone =>
    match o with
    | .endDark => s
    | .darkSample | .darkChips _ | .runPair _ _ | .sendWord _ _ _ =>
      { s with seq := { s.seq with held := some o } }
  | .dark =>
    match o with
    | .endDark => enterRest s
    | .darkSample | .darkChips _ => enterDark o s
    | .runPair _ _ | .sendWord _ _ _ => moveSwitch o s
  | .switchFault =>
    match o with
    | .endDark | .runPair _ _ | .sendWord _ _ _ => s
    | .darkSample | .darkChips _ => if s.seq.position = 16 then enterDark o s else moveSwitch o s

/-- The state a matching settle leads to (R24). -/
def settleInto (o : Order) (s : State) : State :=
  match o with
  | .runPair p prof => enterFilling p prof s
  | .sendWord p prof bits => enterTone p prof bits s
  | .darkSample | .darkChips _ => enterDark o s
  | .endDark => enterRest s

/-- What follows a word's last symbol (R28): the generator restarts with the profile given with the word,
or an order held during the word is acted on instead (R26, log 21). -/
def afterWord (s : State) : State :=
  match s.seq.current, s.seq.held with
  | some (p, prof), none => enterFilling p prof s
  | some (p, _), some o =>
    let s := { s with seq := { s.seq with held := none } }
    match o with
    | .runPair p' prof' => if p' = p then enterFilling p' prof' s else moveSwitch o s
    | .sendWord p' prof' bits => if p' = p then enterTone p' prof' bits s else moveSwitch o s
    | .darkSample | .darkChips _ => moveSwitch o s
    | .endDark => s
  | none, _ => s

/-- The switch at position 16 with a strobe if it was elsewhere, without a settle (R23, R32, R35). -/
def parkSwitch (q : Sequencer) : Sequencer :=
  { q with position := 16, strobes := if q.position = 16 then q.strobes else q.strobes + 1 }

/-- The sequencer after power-on and after an engine reset (R23, R35). -/
def resetSequencer (q : Sequencer) : Sequencer :=
  { Sequencer.parkedReset with strobes := (parkSwitch q).strobes }

end Sys2Proof.Machine
end

