-- ==== Sys2Proof/Machine/Cells.lean ====
section
/-! DEFINITION. The Correlator's lag cells and arithmetic: windows, amplitudes, peaks, noise, levels and
survey candidates (R50 to R54, R58, R61 to R65, R70, R71). -/

namespace Sys2Proof.Machine

/-- Half-width of a window (R51). -/
def halfWidth (w : Nat) : Nat := (w - 1) / 2

/-- Positions a pass covers (R51). -/
def coverage (w : Nat) : Nat := 60 / w

/-- A window lag; one below 0 is placed at that lag plus L (R53). -/
def windowLag (L lag : Nat) (off : Int) : Nat :=
  let x := (lag : Int) + off
  if x < 0 then (x + L).toNat else x.toNat

/-- The W cells of one position, in ascending order of lag (R52). -/
def windowCells (L w : Nat) (position lag : Nat) : List Cell :=
  (List.range w).map (fun m =>
    let off : Int := (m : Int) - (halfWidth w : Int)
    { role := .echo, lag := windowLag L lag off, position := some position, offset := off, acc := 0 })

/-- The four QUIET cells (R54). -/
def quietCells (quietBase : Nat) : List Cell :=
  (List.range 4).map (fun i =>
    { role := .quiet, lag := quietBase + i, position := none, offset := 0, acc := 0 })

/-- The 64 cells from the ECHO cells, IDLE up to cell 59, and the last four cells (R50, R52). -/
def placeCells (echo last : List Cell) : Vector Cell 64 :=
  tableOf 64 Cell.cleared ((echo ++ List.replicate 60 Cell.cleared).take 60 ++ last)

/-- Cells of a measurement or synthetic pass over positions and their lags (R52, R54). -/
def measureCells (L w quietBase : Nat) (positions : List (Nat × Nat)) : Vector Cell 64 :=
  placeCells (positions.flatMap (fun p => windowCells L w p.1 p.2)) (quietCells quietBase)

/-- Cells of a survey block over lags `g` to `last` (R70). -/
def surveyCells (g last : Nat) : Vector Cell 64 :=
  placeCells ((List.range (last + 1 - g)).map (fun i =>
    { role := .echo, lag := g + i, position := none, offset := 0, acc := 0 })) []

def clearedCells : Vector Cell 64 := Vector.replicate 64 Cell.cleared

/-- A corrected sample is applied to a cell that is not IDLE: times the chip written its lag before the
chip at ring position `at_` (R58). -/
def applySample (ring : BitVec 32768) (at_ : Nat) (x : Int) (c : Cell) : Cell :=
  match c.role with
  | .idle => c
  | .echo | .quiet => { c with acc := c.acc + x * chipSign (ringBack ring at_ c.lag) }

/-- A corrected sample is applied to every cell (R58). -/
def accumulate (ring : BitVec 32768) (at_ : Nat) (x : Int) (cells : Vector Cell 64) : Vector Cell 64 :=
  cells.map (applySample ring at_ x)

/-- Amplitude of a total after `2^q` periods at order `n`: a shift right by n - 1 + q places that rounds
a half toward plus infinity (R61). -/
def amplitude (n q : Nat) (total : Int) : Int :=
  let s := n - 1 + q
  (total + 2 ^ (s - 1)) / 2 ^ s

/-- The peak of a window given as offsets and amplitudes in ascending order of offset: the largest
amplitude, the lowest offset among equals (R63); so too where the window wraps below lag 0 and the lowest
offset has the highest lag (DESIGN CHOICE, log 36). -/
def peakOf : List (Int × Int) → Int × Int
  | [] => (0, 0)
  | c :: rest => rest.foldl (fun best d => if best.2 < d.2 then d else best) c

/-- The EDGE flag (R63). -/
def edgeFlag (w : Nat) (off : Int) : Bool :=
  decide (1 ≤ halfWidth w) && (off = -(halfWidth w : Int) || off = (halfWidth w : Int))

/-- The noise floor from the four QUIET cells' amplitudes (R64). -/
def noiseFloor (n q : Nat) (cells : Vector Cell 64) : Nat :=
  (((cells.toList.drop 60).map (fun c => (amplitude n q c.acc).natAbs)).sum) / 4

/-- The qualification threshold (R64) and the candidate threshold (R71). -/
def threshold (noise snrQ : Nat) : Nat := noise * snrQ / 8

/-- An echo qualifies (R64). -/
def qualifies (amp : Int) (thr : Nat) : Bool := decide (1 ≤ amp) && decide ((thr : Int) < amp)

/-- 1000 log10(e) rounded to nearest, a half up (R65): the largest v with v - 1/2 at most 1000 log10(e),
that is with 10^(2v-1) at most e^2000, found bit by bit. -/
def levelOf (e : Nat) : Nat :=
  [4096, 2048, 1024, 512, 256, 128, 64, 32, 16, 8, 4, 2, 1].foldl
    (fun v b => if 10 ^ (2 * (v + b) - 1) ≤ e ^ 2000 then v + b else v) 0

/-- Offsets and amplitudes of the ECHO cells of one position (R63). -/
def windowAmps (n q : Nat) (cells : Vector Cell 64) (position : Nat) : List (Int × Int) :=
  (cells.toList.filter (fun c => c.role = .echo && c.position = some position)).map
    (fun c => (c.offset, amplitude n q c.acc))

/-- The echo record of one position at step 1 of the evaluation (R66, R67). -/
def echoRecord (rec : PassRecord) (cells : Vector Cell 64) (overdrive : Bool) (stamp : Nat)
    (housing : Option Nat) (position : Nat) : EchoRecord :=
  let peak := peakOf (windowAmps rec.order rec.q cells position)
  let thr := threshold (noiseFloor rec.order rec.q cells) rec.params.snrQ
  let ok := qualifies peak.2 thr
  { position := position, housing := housing, offset := peak.1, amp := peak.2
    level := if ok then some (levelOf peak.2.toNat) else none, dev := none
    status := if ok then .pending else .lost, cls := none, edge := edgeFlag rec.w peak.1
    overdrive := overdrive, stamp := stamp }

/-- Block noise of a survey block (R71). -/
def blockNoise (amps : List Int) : Nat := (amps.map Int.natAbs).sum / amps.length

/-- A cell of a block is a candidate beside its neighbours, where it has them (R71). -/
def isCandidate (lower : Option Int) (e : Int) (higher : Option Int) (thr : Nat) : Bool :=
  (match lower with
   | some l => decide (l ≤ e)
   | none => true) &&
  (match higher with
   | some h => decide (h < e)
   | none => true) &&
  decide ((thr : Int) < e)

/-- Candidates among the lags and amplitudes from a cell on, given the amplitude below it (R71). -/
def candidatesFrom (thr : Nat) : Option Int → List (Nat × Int) → List Candidate
  | _, [] => []
  | lower, (lag, e) :: rest =>
    let tail := candidatesFrom thr (some e) rest
    if isCandidate lower e (rest.head?.map Prod.snd) thr then ⟨lag, e⟩ :: tail else tail

/-- The candidates of a survey block in ascending order of lag (R71). -/
def surveyCandidates (rec : PassRecord) (cells : Vector Cell 64) : List Candidate :=
  let amps := (cells.toList.filter (fun c => c.role = .echo)).map
    (fun c => (c.lag, amplitude rec.order rec.q c.acc))
  candidatesFrom (threshold (blockNoise (amps.map Prod.snd)) rec.params.snrQ) none amps

end Sys2Proof.Machine
end

