-- ==== Sys2Proof/Machine/Words.lean ====
section
/-! DEFINITION. Command words (R138, R140, R141, R150) and the reading of a reply (R144 to R147). -/

namespace Sys2Proof.Machine

/-- Code of an opcode (R138). -/
def opcodeCode : Opcode → Nat
  | .nop => 0
  | .queryPumps => 1
  | .selectPump => 2
  | .mute => 3
  | .unmute => 4
  | .setLoopback => 5
  | .trimGain => 6
  | .queryTemp => 7

/-- Opcode of a code; none for the codes a submission is refused for (R138). -/
def opcodeOf : Nat → Option Opcode
  | 0 => some .nop
  | 1 => some .queryPumps
  | 2 => some .selectPump
  | 3 => some .mute
  | 4 => some .unmute
  | 5 => some .setLoopback
  | 6 => some .trimGain
  | 7 => some .queryTemp
  | _ => none

/-- The action reaches both pairs of the group (R138). -/
def sharedEffect : Opcode → Bool
  | .selectPump | .trimGain => true
  | .nop | .queryPumps | .mute | .unmute | .setLoopback | .queryTemp => false

/-- Period T_p in microseconds (R20). -/
def periodUs (prof : Profile) : Nat := seqLength prof.order * chipUs prof.chipCode

/-- Slot units at an averaging exponent (R140). -/
def slotUnitsAt (prof : Profile) (r : Nat) : Nat := ((2 ^ r + 2) * periodUs prof + 15999) / 16000

/-- The r used and its slot units: r is lowered until they fit in 255 (R140). -/
def fitSlots (prof : Profile) : Nat → Option (Nat × Nat)
  | 0 => if slotUnitsAt prof 0 ≤ 255 then some (0, slotUnitsAt prof 0) else none
  | r + 1 =>
    if slotUnitsAt prof (r + 1) ≤ 255 then some (r + 1, slotUnitsAt prof (r + 1)) else fitSlots prof r

/-- The `width` low bits of a number, most significant first (R141). -/
def bitsMsb (width v : Nat) : List Bool := (List.range width).map (fun i => v.testBit (width - 1 - i))

/-- Opcode a word carries: 0 for the NOP prefix (R141, R149). -/
def wordOpcode (w : CmdWord) (op : Opcode) : Nat :=
  match w with
  | .nopPrefix => 0
  | .word1 | .word2 => opcodeCode op

/-- MORE: 1 on word 1 of TRIM_GAIN (R141). -/
def wordMore (w : CmdWord) (op : Opcode) : Bool := w = .word1 && op = .trimGain

/-- Argument byte of a word (R138, R149). -/
def wordArgument (w : CmdWord) (op : Opcode) (arg : BitVec 16) : Nat :=
  match w with
  | .nopPrefix => 0
  | .word1 => if op = .trimGain then arg.toNat / 256 else arg.toNat % 256
  | .word2 => arg.toNat % 256

/-- The 34 content bits of a command word (R141). -/
def contentBits (p : PairNo) (c : CommandFields) (w : CmdWord) (toggle : Bool) : List Bool :=
  bitsMsb 8 c.housing ++ bitsMsb 3 (pairGroup p) ++ bitsMsb 1 (p.val % 2) ++
  bitsMsb 4 (wordOpcode w c.opcode) ++ [wordMore w c.opcode] ++ [toggle] ++
  bitsMsb 8 (wordArgument w c.opcode c.argument) ++ bitsMsb 8 c.slotUnits

/-- One step of the check: feedback is the highest place with the bit; the register shifts up, and the
two lowest places are inverted where the feedback is 1 (R141, steps 2 to 4). -/
def crcStep (reg : BitVec 6) (bit : Bool) : BitVec 6 :=
  if reg.getLsbD 5 ^^ bit then (reg <<< 1) ^^^ 0b000011#6 else reg <<< 1

/-- The check of some content bits (R141). -/
def crc6 (bits : List Bool) : BitVec 6 := bits.foldl crcStep 0b111111#6

/-- The 40 bits of a command word (R141). -/
def wordBits (p : PairNo) (c : CommandFields) (w : CmdWord) (toggle : Bool) : List Bool :=
  let content := contentBits p c w toggle
  content ++ bitsMsb 6 (crc6 content).toNat

/-! ### Slot times, in chips after the word end (R74, R144) -/

/-- A time in microseconds as chips. -/
def usToChips (us chip : Nat) : Nat := us / chip

/-- Observed start of slot `j`: d + 3000 ms + j × T_slot, d being λ chips (R74). -/
def slotStartChip (lag chip slotUnits j : Nat) : Nat :=
  lag + usToChips (3000000 + j * slotUnits * 16000) chip

/-! ### Reading a reply -/

def slotAt (slots : List SlotResult) (j : Nat) : Option SlotResult := slots.find? (fun r => r.slot = j)

/-- A reply is readable (R145). -/
def readable (r0 r1 : SlotResult) : Bool := r0.qualifies && decide (r0.amp ≤ (r0.amp - r1.amp) * 8)

/-- The decision level (R146). -/
def decisionLevel (r0 r1 : SlotResult) : Int := (r0.amp + r1.amp) / 2

/-- The bit of a slot (R146). -/
def slotBit (level : Int) (r : SlotResult) : Bool :=
  if r.qualifies then decide (r.amp < level) else true

/-- The reply's bits from the ten slot results, or none where it is not readable (R145, R146). -/
def readReply (slots : List SlotResult) : Option Reply :=
  match slotAt slots 0, slotAt slots 1 with
  | some r0, some r1 =>
    if readable r0 r1 then
      let bit := fun j => ((slotAt slots j).map (slotBit (decisionLevel r0 r1))).getD true
      some
        { t := bit 2, a := bit 3, c := bit 4
          v := 16 * (bit 5).toNat + 8 * (bit 6).toNat + 4 * (bit 7).toNat + 2 * (bit 8).toNat +
            (bit 9).toNat }
    else none
  | _, _ => none

/-- Outcome of a word from its reply (R147): the prefix is judged on T and A alone. -/
def judgeWord (w : CmdWord) (toggle : Bool) (reply : Option Reply) : WordOutcome :=
  match reply with
  | none => .retry
  | some r =>
    if !r.a then .retry
    else if r.t ≠ toggle then .retry
    else if w = .nopPrefix then .succeeded
    else if r.c then .succeeded
    else .refused

/-- A retry with the tries spent is exhaustion (R148). -/
def spendTries (retryMax tries : Nat) (o : WordOutcome) : WordOutcome :=
  if o = .retry ∧ retryMax + 1 ≤ tries then .exhausted else o

/-- The step after a word has succeeded (R147, R149, R150). -/
def stepAfter (w : CmdWord) (op : Opcode) : CmdStep :=
  match w with
  | .nopPrefix => .word .word1
  | .word1 => if op = .trimGain then .word .word2 else .verify
  | .word2 => .verify

end Sys2Proof.Machine
end

