-- ==== Sys2Proof/Machine/Driver.lean ====
section
/-! DEFINITION. The arbiter and the job driver: ends, grants, pass records, words, cuts and switch faults
(R30, R43, R55, R119 to R127, R135, R142, R149). -/

namespace Sys2Proof.Machine

/-! ### Ends (R120, R132) -/

/-- The state a job's outcome gives the list that serves it (R132). -/
def listEnd (o : JobOutcome) : ListState := if o = .complete then .complete else .partialEnd

/-- The list a job holds in FILLING takes its end state (R132, log 29). -/
def closeList (n : Nat) (o : JobOutcome) (l : ResultList) : ResultList :=
  if l.job = some n ∧ l.state = .filling then { l with state := listEnd o } else l

/-- A job ends (R120): the outcome is written and JOB_ENDED is made pending on its port; an internal
job's slot is freed. -/
def endJob (n : Nat) (o : JobOutcome) (s : State) : State :=
  match s.job? n with
  | none => s
  | some j =>
    match j.requester with
    | .internal => s.freeJob n
    | .port p =>
      raiseNotice .jobEnded p
        ((s.setJob n (fun j => { j with state := .ended, outcome := some o })).setResults p
          (closeList n o))

def suspendJob (n : Nat) (s : State) : State := s.setJob n (fun j => { j with state := .suspended })

/-- The pass record is discarded and the cells cleared: IDLE (R57, R59). -/
def dropPass (s : State) : State := { s with corr := Correlator.idleReset }

/-! ### Eligibility and choice (R121, R122) -/

/-- A job is eligible (R121). -/
def eligible (hold : Bool) (j : Job) : Bool :=
  (j.state = .queued || j.state = .suspended) && (j.kind = .dark || !hold)

def State.eligibleJobs (s : State) : List Job := s.sched.jobs.filter (eligible s.seq.faultHold)

def State.urgentEligible (s : State) : Bool := s.eligibleJobs.any (fun j => j.cls = .urgent)

/-- The identity after another in the rotation (R122). -/
def nextRequester : Requester → Requester
  | .port p => if p = 3 then .internal else .port (p + 1)
  | .internal => .port 0

/-- The five identities from the one after the last granted (R122). -/
def rotation (last : Requester) : List Requester :=
  let a := nextRequester last
  let b := nextRequester a
  let c := nextRequester b
  let d := nextRequester c
  [a, b, c, d, nextRequester d]

/-- The arbiter's choice: class, then requester in rotation, then greatest age (R122). -/
def chooseJob (s : State) : Option Job :=
  let pool := if s.urgentEligible then s.eligibleJobs.filter (fun j => j.cls = .urgent)
    else s.eligibleJobs
  let last := if s.urgentEligible then s.sched.lastUrgent else s.sched.lastRoutine
  (rotation last).findSome? (fun r => pool.find? (fun j => j.requester = r))

/-- A granted job becomes ACTIVE; its class's last-granted requester is its own (R122), and a
list-bearing job takes its list over the first time (R131). -/
def activate (j : Job) (s : State) : State :=
  let s := s.setJob j.number (fun j => { j with state := .active, passes := 0, everActive := true })
  let s := { s with sched := match j.cls with
    | .urgent => { s.sched with lastUrgent := j.requester }
    | .routine => { s.sched with lastRoutine := j.requester } }
  if j.listBearing && !j.everActive then takeOver j s else s

/-! ### Pass records (R55) -/

/-- Kind of a job's passes (R55). -/
def passKind : JobKind → PassKind
  | .measure => .measure
  | .survey => .survey
  | .patrol => .patrol
  | .confirm => .confirm
  | .command => .verify
  | .synth => .synth
  | .dark => .measure

/-- A record that latches the offset and the parameters held at this moment (R42, R55). -/
def newRecord (s : State) (j : Job) (first last order : Nat) : PassRecord :=
  { job := j.number, pair := j.pair, kind := passKind j.kind, track := j.track, first := first
    last := last, order := order, q := j.q, w := j.w, offset := s.intake.offset, params := s.params
    clips := 0, periodsLeft := 2 ^ j.q }

/-- The record is held, the cells are set and the Correlator is ARMED (R55). -/
def armPass (rec : PassRecord) (cells : Vector Cell 64) (s : State) : State :=
  { s with corr := { state := .armed, pass := some rec, slot := none, cells := cells } }

/-- First and last position of a job's next pass (R52, R156). -/
def passRange (j : Job) : Nat × Nat :=
  let range := j.range.getD (1, 1)
  if j.kind = .command then range
  else (j.progress, min (j.progress + coverage j.w - 1) range.2)

/-- First and last lag of a survey's next block (R70). -/
def blockRange (j : Job) : Nat × Nat := (j.progress, min (j.progress + 59) (j.range.getD (0, 0)).2)

/-- Positions of a pass with their route lags (R52). -/
def routeLags (pr : Pair) (first last : Nat) : List (Nat × Nat) :=
  (List.range' first (last + 1 - first)).map (fun k => (k, (pr.lagAt k).getD 0))

/-- Positions of a synthetic pass: position i stands at the lag of echo i (R185). -/
def synthLags (d : SynthDef) : List (Nat × Nat) :=
  (List.range d.echoes.length).map (fun i => (i + 1, ((d.echoes[i]?).map SynthEcho.lag).getD 0))

/-- The Correlator builds a job's next pass record (R55), by R52 and R54, R70 or R185. -/
def buildPass (j : Job) (s : State) : State :=
  match j.pair with
  | some p =>
    let pr := s.pair p
    let L := seqLength pr.profile.order
    if j.kind = .survey then
      let r := blockRange j
      armPass (newRecord s j r.1 r.2 pr.profile.order) (surveyCells r.1 r.2) s
    else
      let r := passRange j
      armPass (newRecord s j r.1 r.2 pr.profile.order)
        (measureCells L j.w pr.quietBase (routeLags pr r.1 r.2)) s
  | none =>
    match s.synth.defn with
    | some d =>
      armPass (newRecord s j 1 d.echoes.length d.order)
        (measureCells (seqLength d.order) j.w d.quietBase (synthLags d)) s
    | none => s

/-- A pass of a measuring job or a verify pass is started (R123): record and order. -/
def runPass (j : Job) (s : State) : State :=
  match j.pair with
  | some p => giveOrder (.runPair p (s.pair p).profile) (buildPass j s)
  | none => giveOrder (.darkChips ((s.synth.defn.map SynthDef.order).getD 11)) (buildPass j s)

/-! ### Words (R142, R143, R149, R151) -/

/-- The reply record when a word enters SENDING: a new entry at its first try (R151). -/
def noteSending (w : CmdWord) (toggle : Bool) (tries : Nat) (l : List ReplyEntry) : List ReplyEntry :=
  if l.any (fun e => e.word = w) then
    l.map (fun e => if e.word = w then { e with tries := tries } else e)
  else l ++ [{ word := w, toggle := toggle, tries := tries, reply := none }]

/-- One command word of a job is sent: the exchange enters SENDING and the sequencer takes SEND_WORD
(R142, R143). -/
def startWord (j : Job) (w : CmdWord) (toggle : Bool) (tries : Nat) (s : State) : State :=
  match j.pair, j.cmd with
  | some p, some c =>
    let s := s.setCmd j.number (fun c =>
      { c with next := .word w, wordStarted := true, reply := noteSending w toggle tries c.reply })
    let s := s.setExchange
      { Exchange.none with phase := .sending, job := j.number, word := w, toggle := toggle, tries := tries }
    giveOrder (.sendWord p (s.pair p).profile (wordBits p c w toggle)) s
  | _, _ => s

/-- Toggle of a job's housing and group (R149). -/
def jobToggle (j : Job) (s : State) : Option Bool :=
  match j.pair, j.cmd with
  | some p, some c => s.toggleOf c.housing (pairGroup p)
  | _, _ => none

/-- The toggle of a job's housing and group is written (R147, R148, R157). -/
def writeJobToggle (j : Job) (t : Option Bool) (s : State) : State :=
  match j.pair, j.cmd with
  | some p, some c => s.setToggle c.housing (pairGroup p) t
  | _, _ => s

/-- The first word of a job: the NOP prefix where the toggle is UNKNOWN, else word 1 with the opposite of
the recorded toggle (R149). -/
def sendFirst (j : Job) (s : State) : State :=
  match jobToggle j s with
  | none => startWord j .nopPrefix false 1 s
  | some t => startWord j .word1 (!t) 1 s

/-- A later word of a job, with the opposite of the recorded toggle (R149). -/
def sendNext (j : Job) (w : CmdWord) (s : State) : State :=
  startWord j w (!((jobToggle j s).getD false)) 1 s

/-- The sequencer is in FILLING or STEADY on a pair (R142). -/
def runsOn (q : Sequencer) (p : PairNo) : Bool :=
  (q.state = .filling || q.state = .steady) && (q.current.map Prod.fst) = some p

/-- The work of a granted COMMAND job: its verify pass, or its first word once the probe is on the pair
(R123, R142, R156). -/
def startCommand (j : Job) (s : State) : State :=
  match j.pair, j.cmd with
  | some p, some c =>
    match c.next with
    | .verify => runPass j s
    | .word _ =>
      if runsOn s.seq p then sendFirst j s else giveOrder (.runPair p (s.pair p).profile) s
  | _, _ => s

/-- When the sequencer enters FILLING on the pair of an ACTIVE COMMAND job before its first word, the
driver gives SEND_WORD (R142). -/
def afterSettle (s : State) : State :=
  match s.active? with
  | some j =>
    match j.pair, j.cmd with
    | some p, some c =>
      if s.seq.state = .filling && runsOn s.seq p && !c.wordStarted then sendFirst j s else s
    | _, _ => s
  | none => s

/-! ### Grants (R43, R122, R123) -/

/-- A dark grant outside MANUAL latches dd and gives DARK_SAMPLE (R43). -/
def startDark (s : State) : State :=
  giveOrder .darkSample { s with intake := { s.intake with dd := s.params.dd } }

/-- The work of a job just granted (R123). -/
def startWork (j : Job) (s : State) : State :=
  match j.kind with
  | .measure | .survey | .patrol | .confirm | .synth => runPass j s
  | .command => startCommand j s
  | .dark => startDark s

/-- A DARK job granted in MANUAL ends COMPLETE at once, HELD (R43). -/
def endHeld (n : Nat) (s : State) : State :=
  endJob n .complete
    (s.setJob n (fun j => { j with dark := some ⟨.held, s.intake.offset, none⟩ }))

/-- Grants until a job holds the path or none is eligible; a HELD calibration frees the path at once. -/
def grantLoop : Nat → State → State
  | 0, s => s
  | fuel + 1, s =>
    match chooseJob s with
    | none => s
    | some j =>
      let s := activate j s
      if j.kind = .dark ∧ s.intake.darkState = .manual then grantLoop fuel (endHeld j.number s)
      else startWork j s

/-- The arbiter's decision wherever the path is free (R122). -/
def arbitrate (s : State) : State :=
  match s.active? with
  | some _ => s
  | none => grantLoop s.sched.jobs.length s

/-! ### The boundary that stands (R20, R58, R59) -/

/-- Which event a period boundary is (R20, R27, R29, R58, R74). -/
inductive Boundary where
  | fillEnd
  | accumulationEnd
  | slotStart
  | slotResult
  | plain
  deriving DecidableEq, Repr

/-- The sequencer is filling, on a pair or for a synthetic run (R27, R29). -/
def isFilling (q : Sequencer) : Bool :=
  q.state = .filling || (q.state = .dark && q.work = .chips && !q.filled)

/-- Which event a boundary is for a slot (R74). -/
def slotBoundary (q : Sequencer) (su : SlotSetup) : Boundary :=
  match su.periodsLeft with
  | none =>
    if slotStartChip su.lag su.chipUs su.slotUnits su.slot ≤ q.runChips then .slotStart else .plain
  | some k => if k ≤ 1 then .slotResult else .plain

/-- The event that the boundary now standing is, if one stands (R20). -/
def boundaryKind (s : State) : Option Boundary :=
  if boundaryDue s.seq then
    some (
      if isFilling s.seq then .fillEnd
      else match s.corr.state, s.corr.pass, s.corr.slot with
        | .accumulate, some r, _ => if r.periodsLeft ≤ 1 then .accumulationEnd else .plain
        | .slot, _, some su => slotBoundary s.seq su
        | _, _, _ => .plain)
  else none

/-- The pass whose last period ends on the boundary that stands (R58). Its
accumulation has ended: the pass is no longer cut (R59, R60, R126, log 32). -/
def endingPass (s : State) : Option PassRecord :=
  if boundaryKind s = some .accumulationEnd then s.corr.pass else none

/-! ### Preemption (R126, R127) -/

/-- The job's work can be cut by an URGENT job: a ROUTINE measuring job's pass until its accumulation ends,
or a ROUTINE COMMAND job before its first word, below preempt_max (R60, R126, R127). -/
def cuttable (s : State) (j : Job) : Bool :=
  j.cls = .routine && decide (j.preempts < s.params.preemptMax) && (endingPass s).isNone &&
    (j.kind.measuring || (j.cmd.map (fun c => !c.wordStarted)).getD false)

/-- A cut (R126): the pass is discarded, the job suspended, its count and its pair's statistic raised. -/
def cutJob (j : Job) (s : State) : State :=
  let s := (dropPass s).setJob j.number (fun j =>
    { j with state := .suspended, preempts := saturating 255 j.preempts })
  match j.pair with
  | some p => bumpStat .preempts p s
  | none => s

/-- A job has become eligible (R122, R126): a free path is granted; a path held by work that can be cut
is taken for an URGENT job. -/
def becameEligible (urgent : Bool) (s : State) : State :=
  match s.active? with
  | none => arbitrate s
  | some j => if urgent && cuttable s j then arbitrate (cutJob j s) else s

/-! ### Switch faults (R30, R135) -/

/-- What every switch fault does (R30): the hold, the log record, the notices. -/
def takeFault (s : State) : State :=
  let a := s.active?
  let pair : Option PairNo := if h : s.seq.position < 16 then some ⟨s.seq.position, h⟩ else none
  let s := logFault
    { kind := .switchFault, time := s.lineTime, job := a.map Job.number
      requester := a.map Job.requester, pair := pair } s
  let s := { s with seq := { s.seq with faultHold := true } }
  let s := raiseNotice .switchFault 0 s
  match a.map Job.requester with
  | some (.port p) => raiseNotice .switchFault p s
  | some .internal => s
  | none => s

/-- The ACTIVE job at a switch fault (R135): SUSPENDED with its progress as it was; a cancel that waits for
the end of its pass then ends it, as a cancel ends any SUSPENDED job (R130). -/
def faultJob (j : Job) (s : State) : State :=
  if j.cancelPending then endJob j.number .cancelled s else suspendJob j.number s

/-- A switch fault on a pair position (R30): SWITCH_FAULT, the pass discarded, the ACTIVE job suspended
(R135). The arbiter then grants dark work. -/
def faultOnPair (s : State) : State :=
  let s := takeFault s
  let s := { s with seq := { s.seq with
    state := .switchFault, current := none, goal := none, running := false } }
  let s := dropPass s
  match s.active? with
  | some j => faultJob j s
  | none => s

/-- The feedback passes a check of R24: it equals the commanded position, or the hold is set. -/
def feedbackOk (q : Sequencer) (fb : BitVec 5) : Bool := fb.toNat = q.position || q.faultHold

end Sys2Proof.Machine
end

