-- ==== Sys2Proof/Machine/Format.lean ====
section
/-! DEFINITION. The layouts of R181: how the fields and records of a response lie in its bytes. Where R181
leaves a layout open, the log entry named at the definition says what the model fixes. -/

namespace Sys2Proof.Machine

/-! ### Fields (R181) -/

def u8 (v : Nat) : List Byte := [BitVec.ofNat 8 v]

/-- Two bytes, most significant first. -/
def u16 (v : Nat) : List Byte := [BitVec.ofNat 8 (v / 256), BitVec.ofNat 8 v]

/-- Two bytes in two's complement. -/
def i16 (v : Int) : List Byte := u16 (BitVec.ofInt 16 v).toNat

/-- Four bytes, most significant first. -/
def u32 (v : Nat) : List Byte := u16 (v / 65536) ++ u16 (v % 65536)

/-- A line time: six bytes. -/
def u48 (v : Nat) : List Byte := u16 (v / 4294967296) ++ u32 (v % 4294967296)

/-- Yes is 1 and no is 0. -/
def yesNo (b : Bool) : List Byte := u8 b.toNat

/-- A field that may be none: a presence byte, then the value's bytes, 0 where there is none (log 11). -/
def optField {α : Type} (enc : α → List Byte) (width : Nat) : Option α → List Byte
  | some v => u8 1 ++ enc v
  | none => u8 0 ++ List.replicate width 0#8

/-- A list: its entry count in one byte, then the entries. -/
def listOf {α : Type} (enc : α → List Byte) (l : List α) : List Byte := u8 l.length ++ l.flatMap enc

/-! ### Enumerated fields, numbered from 1 in the order the guide lists their values -/

def requesterCode : Requester → Nat
  | .port p => p.val + 1
  | .internal => 5

def presenceCode : Presence → Nat
  | .absent => 1
  | .present => 2

def pumpCode : PumpSel → Nat
  | .unknown => 1
  | .primary => 2
  | .spare => 3
  | .both => 4

def toggleCode : Option Bool → Nat
  | none => 1
  | some false => 2
  | some true => 3

/-- "clear, set" (R1). -/
def muteCode (b : Bool) : Nat := if b then 2 else 1

/-- "0 to 7, UNKNOWN" (R1), numbered in that order (log 12). -/
def loopbackCode : Option (Fin 8) → Nat
  | some v => v.val + 1
  | none => 9

/-- "set or clear" (R87, R76). -/
def freezeCode (b : Bool) : Nat := if b then 1 else 2

def pairStateCode : PairState → Nat
  | .unrouted => 1
  | .edit => 2
  | .routed => 3

def seqStateCode : SeqState → Nat
  | .parked => 1
  | .settling => 2
  | .filling => 3
  | .steady => 4
  | .tone => 5
  | .dark => 6
  | .switchFault => 7

def darkStateCode : DarkState → Nat
  | .uncalibrated => 1
  | .calibrated => 2
  | .manual => 3

def corrStateCode : CorrState → Nat
  | .idle => 1
  | .armed => 2
  | .accumulate => 3
  | .evaluate => 4
  | .slot => 5

def passKindCode : PassKind → Nat
  | .measure => 1
  | .patrol => 2
  | .confirm => 3
  | .survey => 4
  | .verify => 5
  | .synth => 6

def sigStateCode : SigState → Nat
  | .empty => 1
  | .learning => 2
  | .tracking => 3

def classCode : FindingClass → Nat
  | .break_ => 1
  | .gainStep => 2
  | .loopback => 3
  | .echoLoss => 4
  | .drift => 5

def classOf : Nat → Option FindingClass
  | 1 => some .break_
  | 2 => some .gainStep
  | 3 => some .loopback
  | 4 => some .echoLoss
  | 5 => some .drift
  | _ => none

def findingStateCode : FindingState → Nat
  | .suspect => 1
  | .confirmed => 2
  | .isolated => 3
  | .cleared => 4

/-- Status of an echo record in its layout; `pending` never leaves an evaluation. -/
def echoStatusCode : EchoStatus → Nat
  | .valid => 1
  | .lost => 2
  | .unbased => 3
  | .pending => 0

def jobKindCode : JobKind → Nat
  | .measure => 1
  | .survey => 2
  | .command => 3
  | .dark => 4
  | .synth => 5
  | .patrol => 6
  | .confirm => 7

def jobClassCode : JobClass → Nat
  | .urgent => 1
  | .routine => 2

def jobStateCode : JobState → Nat
  | .queued => 1
  | .waitConcur => 2
  | .active => 3
  | .suspended => 4
  | .ended => 5

def outcomeCode : JobOutcome → Nat
  | .complete => 1
  | .cancelled => 2
  | .declined => 3
  | .concurExpired => 4
  | .noReply => 5
  | .refused => 6

def basisCode : Basis → Nat
  | .notNeeded => 1
  | .asked => 2
  | .given => 3
  | .lapsed => 4

def wordCode : CmdWord → Nat
  | .nopPrefix => 1
  | .word1 => 2
  | .word2 => 3

/-- A command job's progress in a status: its next word (R117), or 4 where no word is left to send (DESIGN
CHOICE, log 13). -/
def stepCode : CmdStep → Nat
  | .word w => wordCode w
  | .verify => 4

def phaseCode : ExPhase → Nat
  | .idle => 1
  | .sending => 2
  | .reply => 3
  | .decided => 4

def calCode : CalResult → Nat
  | .accepted => 1
  | .rejected => 2
  | .held => 3

def listStateCode : ListState → Nat
  | .filling => 1
  | .complete => 2
  | .partialEnd => 3

def faultKindCode : FaultKind → Nat
  | .switchFault => 1
  | .darkRejected => 2

def roleCode : Role → Nat
  | .station => 1
  | .tenant => 2

def noiseModeCode : NoiseMode → Nat
  | .fixed => 1
  | .running => 2

/-! ### Records laid out in R181 -/

/-- A bit of a packed byte. -/
def flag (b : Bool) (at_ : Nat) : Nat := if b then 2 ^ at_ else 0

/-- Echo record, 16 bytes. -/
def encodeEcho (r : EchoRecord) : List Byte :=
  u8 r.position ++ u8 (r.housing.getD 0) ++
  u8 (echoStatusCode r.status * 16 + (r.cls.map classCode).getD 0) ++
  u8 (flag r.edge 7 + flag r.overdrive 6 + flag r.level.isSome 5 + flag r.dev.isSome 4 +
    (BitVec.ofInt 3 r.offset).toNat) ++
  i16 r.amp ++ u16 (r.level.getD 0) ++ i16 (r.dev.getD 0) ++ u48 r.stamp

/-- Finding record, 16 bytes; its times are in whole seconds, rounded down. -/
def encodeFinding (f : Finding) : List Byte :=
  u8 (f.pair.val * 16 + classCode f.cls) ++
  u8 (findingStateCode f.state * 16 + flag f.magnitude.isSome 0) ++
  u8 f.location ++ u8 f.housing ++ i16 (f.magnitude.getD 0) ++ u8 f.seen ++ u8 f.clean ++
  u32 (f.firstSeen / 1000) ++ u32 (f.lastSeen / 1000)

/-- Survey candidate, 4 bytes. -/
def encodeCandidate (c : Candidate) : List Byte := u16 c.lag ++ i16 c.amp

/-- Last level of a signature entry: presence byte 2 for LOST. -/
def encodeLastLevel : LastLevel → List Byte
  | .none => u8 0 ++ u16 0
  | .lost => u8 2 ++ u16 0
  | .level v => u8 1 ++ u16 v

/-- Signature entry with its position and housing, 20 bytes (R91). -/
def encodeSig (position housing : Nat) (e : SigEntry) : List Byte :=
  u8 position ++ u8 housing ++ u8 (sigStateCode e.state) ++ optField u16 2 e.base ++ u8 e.learn ++
  u8 e.drift ++ encodeLastLevel e.lastLevel ++ optField i16 2 e.lastDev ++ u48 e.lastStamp

/-! ### Bodies whose layout follows the field rules of R181 -/

/-- Reply record entry (R151, log 13). -/
def encodeReplyEntry (e : ReplyEntry) : List Byte :=
  u8 (wordCode e.word) ++ u8 e.toggle.toNat ++ u8 e.tries ++
  optField (fun r : Reply => u8 r.t.toNat ++ u8 r.a.toNat ++ u8 r.c.toNat ++ u8 r.v) 4 e.reply

/-- Command fields of a job's status (R117, R159, log 13); the argument takes two bytes for every opcode
(DEDUCED, log 43). -/
def encodeCommandFields (c : CommandFields) : List Byte :=
  u8 c.housing ++ u8 (opcodeCode c.opcode) ++ u16 c.argument.toNat ++ u8 c.verifySpan ++ u8 c.r ++
  u8 (basisCode c.basis) ++ optField (fun p : Port => u8 p.val) 1 c.askedPort

/-- Calibration result of a DARK job's status (R44); the clip count takes four bytes (DESIGN CHOICE, log 13). -/
def encodeDarkReport (d : DarkReport) : List Byte :=
  u8 (calCode d.result) ++ u16 d.offset ++ optField u32 4 d.clips

/-- Progress of a job: next position, next lag or next word (R117); a DARK job's is 0 (DESIGN CHOICE, log
28). -/
def jobProgress (j : Job) : Nat :=
  match j.cmd with
  | some c => stepCode c.next
  | none => j.progress

/-- Every field of R117 of a job of the given age (R120, log 10, log 13). -/
def encodeJob (age : Nat) (j : Job) : List Byte :=
  u8 j.number ++ u8 (requesterCode j.requester) ++ u8 (jobKindCode j.kind) ++
  u8 (jobClassCode j.cls) ++ optField (fun p : PairNo => u8 p.val) 1 j.pair ++
  optField (fun r : Nat × Nat => u16 r.1 ++ u16 r.2) 4 j.range ++ u8 j.q ++ u8 j.w ++
  yesNo j.track ++ optField encodeCommandFields 9 j.cmd ++ u8 (jobStateCode j.state) ++
  u16 (jobProgress j) ++ u8 j.passes ++ u8 j.preempts ++ u8 age ++
  optField (fun o : JobOutcome => u8 (outcomeCode o)) 1 j.outcome ++ yesNo j.displaced ++
  optField encodeDarkReport 8 j.dark ++
  listOf encodeReplyEntry ((j.cmd.map CommandFields.reply).getD [])

/-- A fault log record (R33). -/
def encodeFault (r : FaultRecord) : List Byte :=
  u8 (faultKindCode r.kind) ++ u48 r.time ++ optField u8 1 r.job ++
  optField (fun q : Requester => u8 (requesterCode q)) 1 r.requester ++
  optField (fun p : PairNo => u8 p.val) 1 r.pair

/-- A concurrence record as a port sees it (R166): its part is 1 REQUESTER, 2 ASKED or 3 NEITHER. The argument
takes two bytes for both opcodes (DEDUCED, log 43), and the time left six (log 15); it is 0 where the deadline
has passed and CONCUR_DEADLINE has not been taken (DESIGN CHOICE, log 44). -/
def encodeConcur (port : Port) (now : Nat) (r : ConcurRec) : List Byte :=
  u8 r.job ++ u8 r.requester.val ++ u8 r.asked.val ++ u8 r.pair.val ++ u8 (pairGroup r.pair) ++
  u8 r.housing ++ u8 (opcodeCode r.opcode) ++ u16 r.argument.toNat ++ u48 r.deadline ++
  u8 (if r.requester = port then 1 else if r.asked = port then 2 else 3) ++ u48 (r.deadline - now)

/-- A housing field as returned: withheld fields carry 255 (log 12). -/
def shown (visible : Bool) (code : Nat) : List Byte := u8 (if visible then code else 255)

/-- A housing entry, with the groups and pairs the reader may see (R4): field by field in the order of R1, each
over its groups or pairs, with no counts (DESIGN CHOICE, log 12). -/
def encodeHousing (group pair : Nat → Bool) (h : Housing) : List Byte :=
  u8 (presenceCode h.presence) ++
  (List.range 8).flatMap (fun g => shown (group g) (pumpCode (tableGet h.pump g .unknown))) ++
  (List.range 8).flatMap (fun g => shown (group g) (toggleCode (tableGet h.toggle g none))) ++
  (List.range 16).flatMap (fun p => shown (pair p) (muteCode (tableGet h.outMute p false))) ++
  (List.range 16).flatMap (fun p => shown (pair p) (muteCode (tableGet h.retMute p false))) ++
  (List.range 16).flatMap (fun p => shown (pair p) (loopbackCode (tableGet h.loopback p none)))

/-- The nineteen engine parameters, each in the width of its range (R174, R181, log 15). -/
def encodeParams (p : Params) : List Byte :=
  u8 p.settle ++ u16 p.clipLimit ++ u8 p.snrQ ++ u16 p.stable ++ u16 p.wide ++ u8 p.step ++
  u8 p.learnN ++ u8 p.driftN ++ u16 p.stepThr ++ u8 p.confirmN ++ u8 p.clearN ++ u16 p.suspectTtl ++
  u8 p.qConfirmAdd ++ u8 p.slice ++ u8 p.preemptMax ++ u16 p.concurTimeout ++ u8 p.retryMax ++
  u8 p.darkEvery ++ u8 p.dd

/-- A synthetic definition, in the order of R182. -/
def encodeSynth (d : SynthDef) : List Byte :=
  u8 d.order ++ u16 d.quietBase ++ u16 d.dc ++ u16 d.noise ++ u16 d.seed ++
  u8 (noiseModeCode d.mode) ++ listOf (fun e : SynthEcho => u16 e.lag ++ u16 e.amp) d.echoes

end Sys2Proof.Machine
end

