-- ==== Sys2Proof/Machine/Operands.lean ====
section
/-! DEFINITION. What every request has in common: taking it, answering it, refusing it, the access rules
and the clamps of its operands (R15, R17, R51, R118, R168 to R174). -/

namespace Sys2Proof.Machine

/-- The ten status codes (R171). -/
inductive Status where
  | ok
  | accepted
  | denied
  | busy
  | invalid
  | quota
  | full
  | noSuch
  | late
  | malformed
  deriving DecidableEq, Repr

def statusCode : Status → Nat
  | .ok => 1
  | .accepted => 2
  | .denied => 3
  | .busy => 4
  | .invalid => 5
  | .quota => 6
  | .full => 7
  | .noSuch => 8
  | .late => 9
  | .malformed => 10

/-- A response before it is laid out in bytes. -/
structure Resp where
  status : Status
  adjusted : Bool
  body : List Byte
  deriving DecidableEq, Repr

/-- A refusal with the detail its rule names (R171). -/
def refuse (st : Status) (detail : List Byte) : Resp := ⟨st, false, detail⟩

/-- A request carried out: its body, and after it, where a field was moved, the request's body as used
(R172). -/
def reply (st : Status) (adjusted : Bool) (body used : List Byte) : Resp :=
  ⟨st, adjusted, if adjusted then body ++ used else body⟩

/-- The bytes of a response frame (R169, R171). -/
def respBytes (r : Resp) : List Byte :=
  u8 (statusCode r.status + flag r.adjusted 7) ++ u16 r.body.length ++ r.body

/-- A port can take a request that arrives: PRST_N is high (R178), and it is not HANDLING another (R168). -/
def State.canTake (s : State) (p : Port) : Bool := !(s.port p).prstLow && (s.port p).frame ≠ .handling

/-- The response is formed and the port enters RESPONDING, the CS_N period of the request at its end (R168,
R169). -/
def holdResponse (p : Port) (r : Resp) (s : State) : State :=
  s.setPort p (fun t =>
    { t with frame := .responding, csLow := false, received := [], response := respBytes r })

/-- A request arrives on a port, is taken and is answered (R168, log 16). A held response is discarded by it
(R169); while the port is held in reset or HANDLING, the request is lost and has no effect. -/
def takeRequest (p : Port) (s : State) (f : State → State × Resp) :
    Host.Outcome State Fault Refusal :=
  if s.canTake p then .next (holdResponse p (f s).2 (f s).1) else .next s

/-! ### Access (R15, R17, R170) -/

def isStation (s : State) (p : Port) : Bool := (s.port p).role = .station

def owns (s : State) (port : Port) (p : PairNo) : Bool := (s.pair p).owner = some port

/-- The owner or the station (R15). -/
def ownerOrStation (s : State) (port : Port) (p : PairNo) : Bool := owns s port p || isStation s port

/-- A station request: DENIED from a tenant port (R170). -/
def stationOnly (port : Port) (s : State) (k : State × Resp) : State × Resp :=
  if isStation s port then k else (s, refuse .denied [])

/-- A pair number above 15 is answered INVALID (R17). -/
def withPair (b : Byte) (s : State) (k : PairNo → State × Resp) : State × Resp :=
  if h : b.toNat < 16 then k ⟨b.toNat, h⟩ else (s, refuse .invalid [])

/-- A housing number outside 1 to 192 is answered INVALID (R17). -/
def housingNumber (b : Byte) : Bool := decide (1 ≤ b.toNat) && decide (b.toNat ≤ Config.housingCount)

/-- The detail of a refusal for the pair's state. -/
def pairStateDetail (s : State) (p : PairNo) : List Byte := u8 (pairStateCode (s.pair p).state)

/-- The detail of INVALID to a request that names a position, where R17 alone gives one: the pair state in
UNROUTED and in EDIT with N = 0, else none (R6, R17, R171). -/
def noPositionDetail (s : State) (p : PairNo) : List Byte :=
  if (s.pair p).state = .unrouted ∨ (s.pair p).n = 0 then pairStateDetail s p else []

/-! ### Clamps -/

/-- Window clamp of R51. -/
def clampW (w : Nat) : Nat :=
  if 7 < w then 7 else if w = 0 then 1 else if w % 2 = 0 then w + 1 else w

/-- A range clamped to `lo` to `hi`, exchanged if reversed (R70, R89, R118). -/
def clampRange (lo hi a b : Nat) : Nat × Nat :=
  let a' := clamp lo hi a
  let b' := clamp lo hi b
  if b' < a' then (b', a') else (a', b')

/-- A yes-or-no field (R181); other values are malformed (R171). -/
def yesNoByte (b : Byte) : Option Bool :=
  if b.toNat = 1 then some true else if b.toNat = 0 then some false else none

/-- The port already holds an URGENT port job that is not ENDED (R118). -/
def urgentHeld (s : State) (p : Port) : Bool :=
  s.sched.jobs.any (fun j => j.inPortSlot p && j.cls = .urgent && j.state ≠ .ended)

/-- Class of a submission (R118): a second urgent one is accepted as ROUTINE. -/
def classUsed (s : State) (p : Port) (urgent : Bool) : JobClass :=
  if urgent && !urgentHeld s p then .urgent else .routine

/-- The class moved from urgent to routine (R172). -/
def classMoved (s : State) (p : Port) (urgent : Bool) : Bool := urgent && urgentHeld s p

/-! ### Engine parameters by number (R174) -/

def getParam (p : Params) : Nat → Nat
  | 0 => p.settle
  | 1 => p.clipLimit
  | 2 => p.snrQ
  | 3 => p.stable
  | 4 => p.wide
  | 5 => p.step
  | 6 => p.learnN
  | 7 => p.driftN
  | 8 => p.stepThr
  | 9 => p.confirmN
  | 10 => p.clearN
  | 11 => p.suspectTtl
  | 12 => p.qConfirmAdd
  | 13 => p.slice
  | 14 => p.preemptMax
  | 15 => p.concurTimeout
  | 16 => p.retryMax
  | 17 => p.darkEvery
  | _ => p.dd

def putParam (p : Params) (n v : Nat) : Params :=
  match n with
  | 0 => { p with settle := v }
  | 1 => { p with clipLimit := v }
  | 2 => { p with snrQ := v }
  | 3 => { p with stable := v }
  | 4 => { p with wide := v }
  | 5 => { p with step := v }
  | 6 => { p with learnN := v }
  | 7 => { p with driftN := v }
  | 8 => { p with stepThr := v }
  | 9 => { p with confirmN := v }
  | 10 => { p with clearN := v }
  | 11 => { p with suspectTtl := v }
  | 12 => { p with qConfirmAdd := v }
  | 13 => { p with slice := v }
  | 14 => { p with preemptMax := v }
  | 15 => { p with concurTimeout := v }
  | 16 => { p with retryMax := v }
  | 17 => { p with darkEvery := v }
  | _ => { p with dd := v }

/-- Range of a parameter; that of wide begins at the stable now held (R174). -/
def paramRange (p : Params) : Nat → Nat × Nat
  | 0 => (1, 255)
  | 1 => (0, 65535)
  | 2 => (8, 255)
  | 3 => (1, 500)
  | 4 => (p.stable, 1000)
  | 5 => (1, 100)
  | 6 => (1, 16)
  | 7 => (1, 255)
  | 8 => (5, 1000)
  | 9 => (1, 15)
  | 10 => (1, 15)
  | 11 => (1, 1440)
  | 12 => (0, 6)
  | 13 => (1, 64)
  | 14 => (0, 255)
  | 15 => (10, 3600)
  | 16 => (0, 7)
  | 17 => (0, 255)
  | _ => (12, 20)

/-- The value a parameter entry is carried out with (R172, R174). -/
def paramUsed (p : Params) (n v : Nat) : Nat := clamp (paramRange p n).1 (paramRange p n).2 v

/-- The entries applied in list order: the parameters after them and the entries as used (R174). -/
def applyParams : List (Byte × Half) → Params → Params × List (Byte × Half)
  | [], p => (p, [])
  | (n, v) :: rest, p =>
    let u := paramUsed p n.toNat v.toNat
    let next := applyParams rest (putParam p n.toNat u)
    (next.1, (n, BitVec.ofNat 16 u) :: next.2)

/-- wide clamped to the range from the stable then held to 1000 (R174). -/
def settleWide (p : Params) : Params := { p with wide := clamp p.stable 1000 p.wide }

/-- The entries with the wide held at the end in the last of them that names wide (R172, log 18). -/
def settleCopy (wide : Nat) : List (Byte × Half) → List (Byte × Half)
  | [] => []
  | e :: rest =>
    if e.1.toNat = 4 ∧ rest.all (fun f => f.1.toNat ≠ 4) = true then (e.1, BitVec.ofNat 16 wide) :: rest
    else e :: settleCopy wide rest

/-- The entries of SET_PARAMS as used, the final clamp of wide among the moves (R172, R174). -/
def paramEntriesUsed (entries : List (Byte × Half)) (p : Params) : List (Byte × Half) :=
  let a := applyParams entries p
  settleCopy (settleWide a.1).wide a.2

end Sys2Proof.Machine
end

