-- ==== Sys2Proof/Machine/Concurrence.lean ====
section
/-! DEFINITION. Answers to concurrence records, their reading and their expiry (R162, R163, R166). -/

namespace Sys2Proof.Machine

/-- The record is answered yes: the job is QUEUED with basis GIVEN (R162). -/
def consent (port : Port) (n : Nat) (s : State) : State :=
  (s.removeConcur n).setJob n (fun j =>
    { j with
      state := .queued
      cmd := j.cmd.map (fun c => { c with basis := .given, askedPort := some port }) })

/-- After a yes the job takes its turn, and may cut a ROUTINE pass (R126, R162). -/
def consentState (port : Port) (n : Nat) (s : State) : State :=
  let s' := consent port n s
  match s'.job? n with
  | some j => becameEligible (j.cls = .urgent && eligible s'.seq.faultHold j) s'
  | none => s'

/-- The record is answered no: the job ends DECLINED (R162). Its basis stays ASKED (DESIGN CHOICE, log 39). -/
def declineState (n : Nat) (s : State) : State := endJob n .declined (s.removeConcur n)

/-- An answer that finds no open record: LATE only to an expired job that asked this port (R162). -/
def lateAnswer (port : Port) (n : Nat) (s : State) : Resp :=
  match s.job? n with
  | some j =>
    if j.state = .ended ∧ j.outcome = some .concurExpired then
      if j.cmd.bind CommandFields.askedPort = some port then refuse .late [] else refuse .denied []
    else refuse .noSuch []
  | none => refuse .noSuch []

/-- CONCUR with an answer (R162). -/
def reqConcur (port : Port) (job : Byte) (answer : Nat → State → State) (s : State) : State × Resp :=
  match s.concurOf job.toNat with
  | some r =>
    if r.asked = port then (answer job.toNat s, reply .ok false [] []) else (s, refuse .denied [])
  | none => (s, lateAnswer port job.toNat s)

def execConcurYes (port : Port) (job : Byte) (s : State) : Host.Outcome State Fault Refusal :=
  takeRequest port s (reqConcur port job (consentState port))

def execConcurNo (port : Port) (job : Byte) (s : State) : Host.Outcome State Fault Refusal :=
  takeRequest port s (reqConcur port job declineState)

/-- A port may see a record (R166). -/
def seesRecord (s : State) (port : Port) (r : ConcurRec) : Bool :=
  isStation s port || r.requester = port || r.asked = port

/-- The records a port may see, oldest job first (R166). -/
def visibleRecords (s : State) (port : Port) : List ConcurRec :=
  (s.sched.jobs.filterMap (fun j => s.concurOf j.number)).filter (seesRecord s port)

def reqReadConcur (port : Port) (s : State) : State × Resp :=
  (s, reply .ok false
    (u48 s.lineTime ++ listOf (encodeConcur port s.lineTime) (visibleRecords s port)) [])

def execReadConcur (port : Port) (s : State) : Host.Outcome State Fault Refusal :=
  takeRequest port s (reqReadConcur port)

/-- The record of a job has reached its deadline (R163). -/
def deadlineDue (n : Nat) (s : State) : Bool :=
  ((s.concurOf n).map (fun r => decide (r.deadline ≤ s.lineTime))).getD false

/-- Expiry of a record (R163). The job's basis stays ASKED (DESIGN CHOICE, log 39). -/
def deadlineState (n : Nat) (s : State) : State :=
  if deadlineDue n s then endJob n .concurExpired (s.removeConcur n) else s

def execConcurDeadline (job : Byte) (s : State) : Host.Outcome State Fault Refusal :=
  .next (deadlineState job.toNat s)

end Sys2Proof.Machine
end

