-- ==== Sys2Proof/Machine/Dark.lean ====
section
/-! DEFINITION. The dark offset by hand, the decision of a dark calibration, and the synthetic definition
(R44, R45, R47, R182). -/

namespace Sys2Proof.Machine

/-! ### SET_DARK_MODE (R47) -/

/-- The offset and dark state in a response (R47). -/
def darkBody (i : Intake) : List Byte := u16 i.offset ++ u8 (darkStateCode i.darkState)

/-- The offset set by hand (R47). -/
def holdOffset (v : Nat) (i : Intake) : Intake := { i with offset := v, darkState := .manual }

/-- The offset released to automatic working (R47). -/
def releaseOffset (i : Intake) : Intake :=
  match i.darkState with
  | .manual => { i with darkState := if i.everCal then .calibrated else .uncalibrated }
  | .uncalibrated | .calibrated => i

def setIntake (i : Intake) (s : State) : State := { s with intake := i }

def reqSetDarkModeManual (port : Port) (value : Half) (s : State) : State × Resp :=
  stationOnly port s
    (let v := clamp 0 16383 value.toNat
     let i := holdOffset v s.intake
     (setIntake i s, reply .ok (v ≠ value.toNat) (darkBody i) (u8 1 ++ u16 v)))

def execSetDarkModeManual (port : Port) (value : Half) (s : State) :
    Host.Outcome State Fault Refusal :=
  takeRequest port s (reqSetDarkModeManual port value)

def reqSetDarkModeAuto (port : Port) (s : State) : State × Resp :=
  stationOnly port s
    (let i := releaseOffset s.intake
     (setIntake i s, reply .ok false (darkBody i) []))

def execSetDarkModeAuto (port : Port) (s : State) : Host.Outcome State Fault Refusal :=
  takeRequest port s (reqSetDarkModeAuto port)

/-! ### The decision of a calibration (R44, R45) -/

/-- Decision of a calibration from its samples (R44). -/
def decideDark (i : Intake) (a : DarkAcc) : CalResult :=
  if i.darkState = .manual then .held
  else if 2 ^ (i.dd - 6) < a.clips then .rejected
  else .accepted

/-- The mean of the samples, a half rounded up (R44). -/
def darkMean (dd sum : Nat) : Nat := (sum + 2 ^ dd / 2) / 2 ^ dd

/-- The intake after the decision (R44). -/
def intakeAfter (r : CalResult) (a : DarkAcc) (i : Intake) : Intake :=
  match r with
  | .accepted => { i with offset := darkMean i.dd a.sum, darkState := .calibrated, everCal := true }
  | .rejected | .held => i

/-- What a job's status says of its calibration (R44). -/
def darkReport (r : CalResult) (a : DarkAcc) (i : Intake) : DarkReport :=
  { result := r, offset := i.offset
    clips := match r with
      | .held => none
      | .accepted | .rejected => some a.clips }

/-- A rejected calibration is offered to the fault log and raises DARK_FAILED on port 0 (R45). -/
def rejectDark (j : Job) (s : State) : State :=
  raiseNotice .darkFailed 0
    (logFault { kind := .darkRejected, time := s.lineTime, job := some j.number
                requester := some j.requester, pair := none } s)

/-- The D-th sample has been taken (R43). -/
def samplingDone (s : State) : Option DarkAcc :=
  if s.seq.state = .dark ∧ s.seq.work = .sampling then
    s.intake.acc.bind (fun a => if a.count = 2 ^ s.intake.dd then some a else none)
  else none

/-- The calibration is decided, END_DARK is given and the job ends COMPLETE (R44). -/
def decideCalibration (j : Job) (a : DarkAcc) (s : State) : State :=
  let r := decideDark s.intake a
  let i := intakeAfter r a s.intake
  let s := setIntake i s
  let s := if r = .rejected then rejectDark j s else s
  let s := s.setJob j.number (fun j => { j with dark := some (darkReport r a i) })
  arbitrate (endJob j.number .complete (giveOrder .endDark s))

/-- DARK_SAMPLING_END (R44). It is a command of its own after the D-th SAMPLE_STROBE, and the D-th sample's
decision falls here: a SET_DARK_MODE or a tick taken between the two comes before it (DESIGN CHOICE, log
41). -/
def darkEndState (s : State) : State :=
  match samplingDone s, s.active? with
  | some a, some j => if j.kind = .dark then decideCalibration j a s else s
  | _, _ => s

def execDarkSamplingEnd (s : State) : Host.Outcome State Fault Refusal := .next (darkEndState s)

/-! ### SYNTH_DEFINE (R182) -/

/-- The mode byte: 1 FIXED, 2 RUNNING (R182). -/
def modeByte (b : Byte) : Option NoiseMode :=
  if b.toNat = 1 then some .fixed else if b.toNat = 2 then some .running else none

/-- The definition with its fields clamped (R182). -/
def synthUsed (order : Byte) (quietBase dc noise seed : Half) (mode : NoiseMode)
    (echoes : List (Half × Half)) : SynthDef :=
  let n := clamp 11 15 order.toNat
  { order := n, quietBase := clamp 4 (seqLength n - 4) quietBase.toNat, dc := clamp 0 16383 dc.toNat
    noise := clamp 0 4095 noise.toNat, seed := clamp 1 65535 seed.toNat, mode := mode
    echoes := echoes.map (fun e =>
      ⟨clamp 0 (seqLength n - 1) e.1.toNat, clamp 0 8191 e.2.toNat⟩) }

/-- A field of the definition was moved (R172, R182). -/
def synthMoved (order : Byte) (quietBase dc noise seed : Half) (echoes : List (Half × Half))
    (d : SynthDef) : Bool :=
  d.order ≠ order.toNat || d.quietBase ≠ quietBase.toNat || d.dc ≠ dc.toNat ||
    d.noise ≠ noise.toNat || d.seed ≠ seed.toNat ||
    d.echoes ≠ echoes.map (fun e => ⟨e.1.toNat, e.2.toNat⟩)

/-- Index, from 0, of the first echo whose lag is not above the lag before it (R182, log 26). -/
def lagFailure : Nat → List SynthEcho → Option Nat
  | i, a :: b :: rest => if b.lag ≤ a.lag then some (i + 1) else lagFailure (i + 1) (b :: rest)
  | _, _ => none

/-- The checks after clamping: the number a refusal names (R182). -/
def synthFailure (d : SynthDef) : Option Nat :=
  match lagFailure 0 d.echoes with
  | some i => some i
  | none =>
    if d.quietBase ≤ ((d.echoes.getLast?).map SynthEcho.lag).getD 0 + 3 then some d.echoes.length
    else none

/-- A SYNTH job that is not ENDED exists (R182). -/
def synthBusy (s : State) : Bool := s.sched.jobs.any (fun j => j.kind = .synth && j.state ≠ .ended)

/-- The definition held, and the noise register loaded from its seed (R182, R184). -/
def holdDefinition (d : SynthDef) (s : State) : State :=
  { s with synth := { defn := some d, noise := BitVec.ofNat 16 d.seed } }

def reqSynthDefine (port : Port) (order : Byte) (quietBase dc noise seed : Half) (mode : Byte)
    (echoes : List (Half × Half)) (s : State) : State × Resp :=
  match modeByte mode with
  | none => (s, refuse .malformed [])
  | some m =>
    if echoes.length = 0 ∨ 8 < echoes.length then (s, refuse .malformed [])
    else stationOnly port s
      (let d := synthUsed order quietBase dc noise seed m echoes
       match synthFailure d with
       | some i => (s, refuse .invalid (u8 i))
       | none =>
         if synthBusy s then (s, refuse .busy [])
         else
           (holdDefinition d s,
             reply .ok (synthMoved order quietBase dc noise seed echoes d) (encodeSynth d)
               (encodeSynth d)))

def execSynthDefine (port : Port) (order : Byte) (quietBase dc noise seed : Half) (mode : Byte)
    (echoes : List (Half × Half)) (s : State) : Host.Outcome State Fault Refusal :=
  takeRequest port s (reqSynthDefine port order quietBase dc noise seed mode echoes)

end Sys2Proof.Machine
end

