-- ==== Sys2Proof/Machine/Locator.lean ====
section
/-! DEFINITION. The Fault Locator: classification of a pass, detections meeting the finding list, clean
observations, confirmation requests, isolation and expiry (R96 to R110, R113). -/

namespace Sys2Proof.Machine

/-- A detection: a class and a location, with a magnitude where the class has one (R96). -/
structure Detection where
  cls : FindingClass
  location : Nat
  magnitude : Option Int
  deriving DecidableEq, Repr

/-- Deviation of a VALID record. -/
def validDev (r : EchoRecord) : Option Int := if r.status = .valid then r.dev else none

/-- Deviation of the next VALID record above, LOST and UNBASED ones passed over (R100). -/
def nextDev (rest : List EchoRecord) : Option Int := rest.findSome? validDev

/-- Class of a VALID position from its deviation, its reference and the next VALID deviation (R100). -/
def stepClass (thr : Nat) (d ref : Int) (next : Option Int) : Option FindingClass :=
  if (d - ref).natAbs ≤ thr then none
  else match next with
    | none => some .gainStep
    | some j =>
      if (j - d).natAbs ≤ thr then some .gainStep
      else if (j - ref).natAbs ≤ thr then some .loopback
      else some .gainStep

/-- Number of trailing LOST records of a pass (R98). -/
def trailingLost (records : List EchoRecord) : Nat :=
  (records.reverse.takeWhile (fun r => r.status = .lost)).length

/-- First position of a trailing run that is a BREAK run: two or more LOST at the end, or a run that holds
position N (R98). -/
def breakRun (a n : Nat) (records : List EchoRecord) : Option Nat :=
  let len := trailingLost records
  let last := a + records.length - 1
  if 2 ≤ len ∨ (1 ≤ len ∧ last = n) then some (last + 1 - len) else none

/-- The run continues one that began below the pass (R98). -/
def breakSuppressed (a k0 : Nat) (below : LastLevel) : Bool :=
  k0 = a && decide (1 < a) && below = .lost

/-- Classes of the positions below a BREAK run, in ascending order, with their steps (R97, R99, R100).
`ref` is the reference deviation that stands below the first of them. -/
def classesFrom (thr : Nat) (runStart : Option Nat) :
    Int → List EchoRecord → List (Option FindingClass × Option Int)
  | _, [] => []
  | ref, r :: rest =>
    if (runStart.map (fun k0 => decide (k0 ≤ r.position))).getD false then
      (none, none) :: classesFrom thr runStart ref rest
    else match r.status with
      | .lost => (some .echoLoss, none) :: classesFrom thr runStart ref rest
      | .valid =>
        let d := r.dev.getD 0
        match stepClass thr d ref (nextDev rest) with
        | none => (none, none) :: classesFrom thr runStart d rest
        | some .loopback =>
          (some .loopback, some (d - ref)) :: classesFrom thr runStart ref rest
        | some c => (some c, some (d - ref)) :: classesFrom thr runStart d rest
      | .unbased | .pending => (none, none) :: classesFrom thr runStart ref rest

/-- The reference below the first position of a pass (R97, cases 2 and 3). -/
def startReference (a : Nat) (below : SigEntry) : Int :=
  if a ≤ 1 then 0
  else match below.state, below.lastDev with
    | .tracking, some d => d
    | _, _ => 0

/-- Class and magnitude of each position of a pass (R97 to R100). -/
def classify (thr a n : Nat) (below : SigEntry) (records : List EchoRecord) :
    List (Option FindingClass × Option Int) :=
  let run := breakRun a n records
  let classes := classesFrom thr run (startReference a below) records
  match run with
  | none => classes
  | some k0 =>
    if breakSuppressed a k0 below.lastLevel then classes
    else classes.set (k0 - a) (some .break_, none)

/-- Detections at one position: its class, then its DRIFT observation (R96, R101). -/
def detectionsAt (drifts : List (Nat × Int)) (k : Nat) (c : Option FindingClass × Option Int) :
    List Detection :=
  (match c.1 with
   | some cls => [⟨cls, k, c.2⟩]
   | none => []) ++
  (match drifts.find? (fun d => d.1 = k) with
   | some d => [⟨.drift, k, some d.2⟩]
   | none => [])

/-- The detections of a pass in ascending order of location (R96). -/
def detections (drifts : List (Nat × Int)) (records : List EchoRecord)
    (classes : List (Option FindingClass × Option Int)) : List Detection :=
  (records.zip classes).flatMap (fun rc => detectionsAt drifts rc.1.position rc.2)

/-- The class field of a record (R100, R101). -/
def recordClass (drifts : List (Nat × Int)) (r : EchoRecord) (c : Option FindingClass) : EchoRecord :=
  { r with cls := match c with
      | some cls => some cls
      | none => if drifts.any (fun d => d.1 = r.position) then some .drift else none }

/-- A finding stands for a class at a location of a pair (R95). -/
def Finding.isAt (f : Finding) (p : PairNo) (c : FindingClass) (k : Nat) : Bool :=
  f.pair = p && f.cls = c && f.location = k

/-- SUSPECT or CONFIRMED after a sighting brought the seen count to `seen` (R102). -/
def sightedState (confirmN seen : Nat) (st : FindingState) : FindingState :=
  if st = .suspect ∧ confirmN ≤ seen then .confirmed else st

/-- A detection acts on the entry it meets (R102). -/
def sighted (par : Params) (stamp : Nat) (d : Detection) (f : Finding) : Finding :=
  match f.state with
  | .suspect | .confirmed =>
    let seen := min (f.seen + 1) 255
    { f with
      seen := seen, clean := 0, lastSeen := stamp
      magnitude := if d.magnitude.isSome then d.magnitude else f.magnitude
      state := sightedState par.confirmN seen f.state }
  | .cleared =>
    { f with
      seen := 1, clean := 0, lastSeen := stamp, magnitude := d.magnitude
      state := if par.confirmN ≤ 1 then .confirmed else .suspect }
  | .isolated => f

/-- A new finding (R103). -/
def newFinding (par : Params) (p : PairNo) (housing stamp : Nat) (d : Detection) : Finding :=
  { pair := p, cls := d.cls, location := d.location, housing := housing, magnitude := d.magnitude
    state := if par.confirmN ≤ 1 then .confirmed else .suspect
    seen := 1, clean := 0, firstSeen := stamp, lastSeen := stamp }

/-- The list without its oldest CLEARED entry (R104). -/
def evictCleared (l : List Finding) : List Finding := l.eraseP (fun f => f.state = .cleared)

/-- The list with room for a creation, or none where the detection is dropped (R104). -/
def makeRoom (l : List Finding) : Option (List Finding) :=
  if l.length < Config.findingPlaces then some l
  else if l.any (fun f => f.state = .cleared) then some (evictCleared l) else none

/-- Notices of an entry that became a new suspect, confirmed at once where confirm_n is 1 (R102, R103). -/
def raiseNew (par : Params) (p : PairNo) (s : State) : State :=
  let s := raiseNotice .findingNew (noticePort s p) s
  if par.confirmN ≤ 1 then raiseNotice .findingConfirmed (noticePort s p) s else s

/-- A new suspect asks for a closer look: any class but DRIFT, unless confirmed at once (R102, R103). -/
def wantsConfirm (par : Params) (d : Detection) : Bool := decide (1 < par.confirmN) && d.cls ≠ .drift

/-- One detection is applied to the list (R102 to R104). The result says whether a CONFIRM request is
raised for its location. -/
def applyDetection (par : Params) (p : PairNo) (stamp : Nat) (d : Detection) (s : State) :
    State × Bool :=
  match s.findings.find? (fun f => f.isAt p d.cls d.location) with
  | some f =>
    let l := s.findings.map (fun g => if g.isAt p d.cls d.location then sighted par stamp d g else g)
    let s' := { s with findings := l }
    match f.state with
    | .suspect =>
      if (sighted par stamp d f).state = .confirmed then
        (raiseNotice .findingConfirmed (noticePort s' p) s', false)
      else (s', false)
    | .cleared => (raiseNew par p s', wantsConfirm par d)
    | .confirmed | .isolated => (s', false)
  | none =>
    match makeRoom s.findings with
    | some l =>
      let housing := ((s.pair p).housingAt d.location).getD 0
      (raiseNew par p { s with findings := l ++ [newFinding par p housing stamp d] },
        wantsConfirm par d)
    | none => (raiseAll .listFull [0, noticePort s p] s, false)

/-- Sub-step 2: the detections in order, and the locations that raised a CONFIRM request (R96). -/
def applyDetections (par : Params) (p : PairNo) (stamp : Nat) :
    List Detection → State → State × List Nat
  | [], s => (s, [])
  | d :: rest, s =>
    let u := applyDetection par p stamp d s
    let next := applyDetections par p stamp rest u.1
    (next.1, if u.2 then d.location :: next.2 else next.2)

/-- An entry is examined in sub-step 3 (R105). -/
def examined (p : PairNo) (a b : Nat) (found : List Detection) (f : Finding) : Bool :=
  f.pair = p && f.state ≠ .isolated && decide (a ≤ f.location) && decide (f.location ≤ b) &&
    !found.any (fun d => d.cls = f.cls && d.location = f.location)

/-- An examined entry is observed clean: its position is VALID, and for DRIFT within `stable` (R105). -/
def observedClean (stable : Nat) (records : List EchoRecord) (f : Finding) : Bool :=
  match records.find? (fun r => r.position = f.location) with
  | none => false
  | some r =>
    r.status = .valid && (f.cls ≠ .drift || decide ((r.dev.getD 0).natAbs ≤ stable))

/-- A clean observation of an entry: none where it leaves the list (R106). -/
def cleanEntry (clearN : Nat) (f : Finding) : Option Finding :=
  let clean := min (f.clean + 1) 255
  match f.state with
  | .suspect => none
  | .confirmed =>
    some { f with clean := clean, state := if clearN ≤ clean then .cleared else .confirmed }
  | .cleared => some { f with clean := clean }
  | .isolated => some f

/-- Sub-step 3: the clean observations of a pass (R105, R106). -/
def cleanObservations (par : Params) (p : PairNo) (a b : Nat) (records : List EchoRecord)
    (found : List Detection) (s : State) : State :=
  let isClean := fun f => examined p a b found f && observedClean par.stable records f
  let becomesCleared := s.findings.any (fun f =>
    isClean f && f.state = .confirmed && (cleanEntry par.clearN f).any (fun g => g.state = .cleared))
  let kept := s.findings.filterMap (fun f => if isClean f then cleanEntry par.clearN f else some f)
  let s' := { s with findings := kept }
  if becomesCleared then raiseNotice .findingCleared (noticePort s' p) s' else s'

/-- A CONFIRM request (R108): the range around the location, q and W. -/
structure ConfirmRequest where
  pair : PairNo
  first : Nat
  last : Nat
  q : Nat
  w : Nat
  deriving DecidableEq, Repr

def confirmRequest (par : Params) (s : State) (p : PairNo) (k : Nat) : ConfirmRequest :=
  let pat := s.sched.patrols[p]
  { pair := p, first := max (k - 2) 1, last := min (k + 2) (s.pair p).n
    q := min (pat.q + par.qConfirmAdd) 12, w := pat.w }

/-- A job a CONFIRM request may merge into (R109). -/
def mergeable (p : PairNo) (j : Job) : Bool :=
  j.kind = .confirm && j.pair = some p && j.state = .queued && !j.everActive

/-- A request merged into a waiting CONFIRM job (R109, log 30). -/
def mergeConfirm (r : ConfirmRequest) (j : Job) : Job :=
  let range := j.range.getD (r.first, r.last)
  let first := min range.1 r.first
  { j with
    range := some (first, max range.2 r.last), progress := first, q := max j.q r.q, w := max j.w r.w }

/-- The Job Scheduler takes a CONFIRM request (R109): merged, a new job, or not kept. -/
def takeConfirm (r : ConfirmRequest) (s : State) : State :=
  if s.sched.jobs.any (mergeable r.pair) then
    s.setJobs (s.sched.jobs.map (fun j => if mergeable r.pair j then mergeConfirm r j else j))
  else if s.serviceSlotsUsed < Config.serviceSlots then
    s.addJob (Job.fresh .internal .confirm .urgent (some r.pair) (some (r.first, r.last)) r.q r.w)
  else s

/-- Step 3 of an evaluation (R96): the records with their classes, and the state after the four
sub-steps. -/
def locate (rec : PassRecord) (p : PairNo) (stamp : Nat) (records : List EchoRecord)
    (drifts : List (Nat × Int)) (s : State) : State × List EchoRecord :=
  let par := rec.params
  let classes := classify par.stepThr rec.first (s.pair p).n (s.sigAt p (rec.first - 1)) records
  let found := detections drifts records classes
  let u := applyDetections par p stamp found s
  let s' := cleanObservations par p rec.first rec.last records found u.1
  (u.2.foldl (fun s k => takeConfirm (confirmRequest par s p k) s) s',
    (records.zip classes).map (fun rc => recordClass drifts rc.1 rc.2.1))

/-- Findings at a position of a pair are isolated: any class but BREAK, SUSPECT or CONFIRMED (R110). -/
def isolateEntry (p : PairNo) (k : Nat) (f : Finding) : Finding :=
  if f.pair = p ∧ f.location = k ∧ f.cls ≠ .break_ ∧ (f.state = .suspect ∨ f.state = .confirmed) then
    { f with state := .isolated }
  else f

def isolate (p : PairNo) (k : Nat) (s : State) : State :=
  { s with findings := s.findings.map (isolateEntry p k) }

/-- A SUSPECT entry past its time (R107). -/
def expired (now ttl : Nat) (f : Finding) : Bool :=
  f.state = .suspect && decide (ttl * 60000 < now - f.lastSeen)

end Sys2Proof.Machine
end

