-- ==== Sys2Proof/Machine/Signature.lean ====
section
/-! DEFINITION. The Signature Table's part in a pass (R78 to R86), and relearning (R89, R90). -/

namespace Sys2Proof.Machine

/-- How step 2 treats a pass (R68, R78). -/
inductive SigMode where
  | update
  | lookup
  | skip
  deriving DecidableEq, Repr

/-- Step 2 of a pass kind (R68); an OVERDRIVE pass skips it (R69). -/
def sigMode (kind : PassKind) (track overdrive : Bool) : SigMode :=
  if overdrive then .skip
  else match kind with
    | .patrol | .confirm => .update
    | .measure => if track then .update else .lookup
    | .verify => .lookup
    | .survey | .synth => .skip

/-- The running mean of R80. -/
def learnedBase (base count v : Nat) : Nat := (base * count + v + (count + 1) / 2) / (count + 1)

/-- An EMPTY or LEARNING entry learns a level; at learn_n levels it is TRACKING (R80). -/
def learnLevel (p : Params) (v : Nat) (e : SigEntry) : SigEntry :=
  let bc : Nat × Nat :=
    match e.state, e.base with
    | .learning, some b => if 1 ≤ e.learn then (learnedBase b e.learn v, e.learn + 1) else (v, 1)
    | _, _ => (v, 1)
  { e with
    base := some bc.1, learn := bc.2
    state := if p.learnN ≤ bc.2 then .tracking else .learning }

/-- Movement of a base within the stable band: the deviation, limited to `step` (R83). -/
def baseMove (step : Nat) (d : Int) : Int :=
  if (step : Int) < d then step else if d < -(step : Int) then -(step : Int) else d

/-- A TRACKING entry meets a deviation (R83, R84): its base and drift count, and whether a DRIFT
observation is made. -/
def trackLevel (p : Params) (base : Nat) (d : Int) (e : SigEntry) : SigEntry × Bool :=
  if d.natAbs ≤ p.stable then
    ({ e with base := some ((base : Int) + baseMove p.step d).toNat, drift := 0 }, false)
  else if d.natAbs ≤ p.wide then
    if p.driftN ≤ min (e.drift + 1) 255 then ({ e with drift := 0 }, true)
    else ({ e with drift := min (e.drift + 1) 255 }, false)
  else (e, false)

/-- Deviation of a level from a base (R82). -/
def deviation (v base : Nat) : Int := (v : Int) - (base : Int)

/-- A LOST record in an update pass (R79). -/
def storeLost (stamp : Nat) (e : SigEntry) : SigEntry :=
  { e with lastLevel := .lost, lastDev := none, lastStamp := stamp }

/-- One qualifying record of level `v` meets its entry in an update pass (R80, R82 to R85). -/
def updateEntry (p : Params) (frozen : Bool) (stamp v : Nat) (e : SigEntry) :
    SigEntry × Option Int × Bool :=
  match e.state, e.base with
  | .tracking, some base =>
    let d := deviation v base
    let moved := if frozen then (e, false) else trackLevel p base d e
    ({ moved.1 with lastLevel := .level v, lastDev := some d, lastStamp := stamp }, some d, moved.2)
  | _, _ =>
    let e' := if frozen then e else learnLevel p v e
    ({ e' with lastLevel := .level v, lastDev := none, lastStamp := stamp }, none, false)

/-- Deviation a lookup reports (R86). -/
def lookupDev (v : Nat) (e : SigEntry) : Option Int :=
  match e.state, e.base with
  | .tracking, some base => some (deviation v base)
  | _, _ => none

/-- A record with its deviation and status (R66, step 2). -/
def resolveRecord (d : Option Int) (r : EchoRecord) : EchoRecord :=
  { r with dev := d, status := if d.isSome then .valid else .unbased }

/-- One record of step 2: its entry's new value, the completed record, and whether a DRIFT observation is
made (R78). -/
def sigStep (mode : SigMode) (p : Params) (frozen : Bool) (e : SigEntry) (r : EchoRecord) :
    SigEntry × EchoRecord × Bool :=
  match mode, r.level with
  | .update, none => (storeLost r.stamp e, r, false)
  | .update, some v =>
    let u := updateEntry p frozen r.stamp v e
    (u.1, resolveRecord u.2.1 r, u.2.2)
  | .lookup, some v => (e, resolveRecord (lookupDev v e) r, false)
  | .skip, some _ => (e, resolveRecord none r, false)
  | .lookup, none => (e, r, false)
  | .skip, none => (e, r, false)

/-- Step 2 of an evaluation on a pair: the records in position order, each meeting only the entry of its
own position (R78). It returns the completed records and the DRIFT observations as positions with
deviations. -/
def sigPass (mode : SigMode) (p : Params) (pair : PairNo) :
    List EchoRecord → State → State × List EchoRecord × List (Nat × Int)
  | [], s => (s, [], [])
  | r :: rest, s =>
    let u := sigStep mode p (s.frozen pair) (s.sigAt pair r.position) r
    let s' := match mode with
      | .update => s.setSig pair r.position (fun _ => u.1)
      | .lookup | .skip => s
    let next := sigPass mode p pair rest s'
    (next.1, u.2.1 :: next.2.1,
      if u.2.2 then (r.position, u.2.1.dev.getD 0) :: next.2.2 else next.2.2)

/-- An entry returned to learning (R89, R90). -/
def relearnEntry (e : SigEntry) : SigEntry :=
  { e with state := .learning, base := none, learn := 0, drift := 0, lastDev := none }

/-- Positions `first` to `last` of a pair are returned to learning (R89, R90). -/
def relearnRange (p : PairNo) (first last : Nat) (s : State) : State :=
  (List.range' first (last + 1 - first)).foldl (fun s k => s.setSig p k relearnEntry) s

/-- All 192 entries of a pair take their power-on values (R77). -/
def emptySignatures (p : PairNo) (s : State) : State :=
  { s with
    sig := { s.sig with
      entries := tableMap s.sig.entries p.val (fun _ => Vector.replicate 192 SigEntry.powerOn) } }

end Sys2Proof.Machine
end

