-- ==== Sys2Proof/Machine/Evaluate.lean ====
section
/-! DEFINITION. The evaluation of a pass, taken as one operation (R60, R67 to R72), its counters (R40,
R48), and the job driver's decision after it (R124, R125). -/

namespace Sys2Proof.Machine

/-- The pass is OVERDRIVE (R39). -/
def isOverdrive (rec : PassRecord) : Bool := decide (rec.params.clipLimit < rec.clips)

/-- Echo records of step 1, one per covered position (R66). -/
def stepOne (rec : PassRecord) (s : State) : List EchoRecord :=
  (List.range' rec.first (rec.last + 1 - rec.first)).map (fun k =>
    echoRecord rec s.corr.cells (isOverdrive rec) s.lineTime
      (rec.pair.bind (fun p => (s.pair p).housingAt k)) k)

/-! ### Step 4: the result list (R72, R132) -/

/-- Echo records appended to a list. -/
def appendEchoes (records : List EchoRecord) (l : ResultList) : ResultList :=
  match l.body with
  | .echoes old => { l with body := .echoes (old ++ records) }
  | .candidates _ => { l with body := .echoes records }

/-- Candidates appended to a list: those past the 256th are dropped, and the list is TRUNCATED (R72). -/
def appendCandidates (found : List Candidate) (l : ResultList) : ResultList :=
  let old := match l.body with
    | .candidates c => c
    | .echoes _ => []
  let all := old ++ found
  { l with
    body := .candidates (all.take Config.maxCandidates)
    truncated := l.truncated || decide (Config.maxCandidates < all.length) }

/-- The results of a pass go to its requester's list if that list names the job; if not, the job's
results are displaced (R132). An internal job has no list. -/
def deliver (n : Nat) (f : ResultList → ResultList) (s : State) : State :=
  match (s.job? n).map Job.requester with
  | some (.port p) =>
    if (tableGet s.sched.results p.val ResultList.powerOn).job = some n then s.setResults p f
    else s.setJob n (fun j => { j with displaced := true })
  | some .internal => s
  | none => s

/-! ### Step 5: counters (R40, R48, R67) -/

/-- Progress and passes since grant (R67, step 5). A verify pass has no next position. -/
def advanceJob (rec : PassRecord) (s : State) : State :=
  s.setJob rec.job (fun j =>
    { j with
      progress := if rec.kind = .verify then j.progress else rec.last + 1
      passes := saturating 64 j.passes })

/-- The OVERDRIVE notice of a pass (R40): the owner or port 0, and the requester's port. -/
def noticeOverdrive (rec : PassRecord) (s : State) : State :=
  match rec.pair with
  | none => raiseNotice .overdrive 0 s
  | some p =>
    let s' := raiseNotice .overdrive (noticePort s p) s
    match (s.job? rec.job).map Job.requester with
    | some (.port r) => raiseNotice .overdrive r s'
    | some .internal => s'
    | none => s'

/-- Pair statistics of an evaluated pass (R40, R134). -/
def countPass (rec : PassRecord) (s : State) : State :=
  match rec.pair with
  | none => s
  | some p =>
    let s := bumpPasses p s
    if isOverdrive rec then bumpStat .overdrives p s else s

def setRefresh (c : Nat) (s : State) : State := { s with intake := { s.intake with refresh := c } }

/-- A DARK job that has not ENDED exists (R48). -/
def State.darkJobStands (s : State) : Bool :=
  s.sched.jobs.any (fun j => j.kind = .dark && j.state ≠ .ended)

/-- An internal URGENT DARK job is queued in a service slot (R48, R49). -/
def queueDark (s : State) : State := s.addJob (Job.fresh .internal .dark .urgent none none 0 1)

/-- The refresh count after the evaluation of a pass on a pair, with the pass's latched dark_every
(R48, log 19). -/
def refreshCount (darkEvery : Nat) (s : State) : State :=
  if darkEvery = 0 then setRefresh 0 s
  else
    let c := if s.intake.refresh < darkEvery then s.intake.refresh + 1 else s.intake.refresh
    if c < darkEvery then setRefresh c s
    else if s.intake.darkState = .manual ∨ s.darkJobStands = true then setRefresh 0 s
    else if s.serviceSlotsUsed < Config.serviceSlots then queueDark (setRefresh 0 s)
    else setRefresh c s

/-- Step 5 whole (R67). -/
def stepFive (rec : PassRecord) (s : State) : State :=
  let s := countPass rec (advanceJob rec s)
  let s := if isOverdrive rec then noticeOverdrive rec s else s
  match rec.pair with
  | none => s
  | some _ => refreshCount rec.params.darkEvery s

/-! ### The evaluation -/

/-- Steps 2 and 3 on the records of a pass (R67 to R69): the state after them and the completed
records. -/
def stepsTwoThree (rec : PassRecord) (records : List EchoRecord) (s : State) :
    State × List EchoRecord :=
  let mode := sigMode rec.kind rec.track (isOverdrive rec)
  match rec.pair with
  | none => (s, records.map (fun r => (sigStep .skip rec.params false SigEntry.powerOn r).2.1))
  | some p =>
    let u := sigPass mode rec.params p records s
    match mode with
    | .update => locate rec p s.lineTime u.2.1 u.2.2 u.1
    | .lookup | .skip => (u.1, u.2.1)

/-- The evaluation of a pass, steps 1 to 5 and the clearing of the cells (R67). -/
def evaluatePass (rec : PassRecord) (s : State) : State :=
  let s' :=
    if rec.kind = .survey then
      deliver rec.job (appendCandidates (surveyCandidates rec s.corr.cells)) s
    else
      let u := stepsTwoThree rec (stepOne rec s) s
      deliver rec.job (appendEchoes u.2) u.1
  dropPass (stepFive rec s')

/-! ### After the evaluation (R124, R125, R156) -/

/-- The pass covered the job's last work (R123). -/
def workDone (j : Job) : Bool :=
  match j.range with
  | some r => decide (r.2 < j.progress)
  | none => true

/-- Another job is eligible (R124, case 4). -/
def otherEligible (s : State) (n : Nat) : Bool := s.eligibleJobs.any (fun j => j.number ≠ n)

/-- The job ends at the end of its pass; a SYNTH job gives END_DARK (R124, R156, R185, R186). -/
def endAtPassEnd (j : Job) (o : JobOutcome) (s : State) : State :=
  arbitrate (endJob j.number o (if j.kind = .synth then giveOrder .endDark s else s))

/-- The job driver's decision at the end of an evaluation (R124, R156). -/
def afterPass (rec : PassRecord) (s : State) : State :=
  match s.job? rec.job with
  | none => s
  | some j =>
    if j.cancelPending then endAtPassEnd j .cancelled s
    else if j.kind = .command ∨ workDone j = true then endAtPassEnd j .complete s
    else if j.cls = .routine ∧ s.urgentEligible = true then arbitrate (suspendJob j.number s)
    else if j.cls = .routine ∧ rec.params.slice ≤ j.passes ∧ otherEligible s j.number = true then
      arbitrate (suspendJob j.number s)
    else
      let s := if j.cls = .routine ∧ rec.params.slice ≤ j.passes then
          s.setJob j.number (fun j => { j with passes := 0 })
        else s
      runPass j s

end Sys2Proof.Machine
end

