-- ==== Sys2Proof/Machine/Exchange.lean ====
section
/-! DEFINITION. A command exchange from its word end to its end: slot set-up, slot results, word outcomes,
what a completed command changes, and what follows (R73 to R75, R143 to R157). -/

namespace Sys2Proof.Machine

/-- The slot set-up handed to the Correlator at a word end, with the offset and the parameters latched
(R42, R73). -/
def slotSetup (s : State) (p : PairNo) (j : Job) (c : CommandFields) : SlotSetup :=
  let pr := s.pair p
  let k := (pr.positionOf c.housing).getD 0
  { lag := (pr.lagAt k).getD 0, position := k, w := j.w, r := c.r, order := pr.profile.order
    chipUs := chipUs pr.profile.chipCode, quietBase := pr.quietBase, slotUnits := c.slotUnits
    offset := s.intake.offset, params := s.params, slot := 0, periodsLeft := none }

/-- The word-end event at the Command Channel (R73, R143): the exchange enters REPLY, the Correlator
SLOT. -/
def enterReply (s : State) : State :=
  let x := s.channel.exchange
  match if x.phase = .sending then s.job? x.job else none with
  | none => s
  | some j =>
    match j.pair, j.cmd with
    | some p, some c =>
      let su := slotSetup s p j c
      let s := s.setExchange
        { x with
          phase := .reply, wordEnd := s.lineTime, slots := []
          endChip := slotStartChip su.lag su.chipUs su.slotUnits 10 }
      { s with corr := { Correlator.idleReset with state := .slot, slot := some su } }
    | _, _ => s

/-- The cells of a reply slot (R74). -/
def slotCells (su : SlotSetup) : Vector Cell 64 :=
  measureCells (seqLength su.order) su.w su.quietBase [(su.position, su.lag)]

/-- A slot's result from its totals (R74, R75). -/
def slotOutcome (su : SlotSetup) (cells : Vector Cell 64) : SlotResult :=
  let peak := peakOf (windowAmps su.order su.r cells su.position)
  let noise := noiseFloor su.order su.r cells
  { slot := su.slot, amp := peak.2, offset := peak.1, edge := edgeFlag su.w peak.1, noise := noise
    qualifies := qualifies peak.2 (threshold noise su.params.snrQ) }

/-! ### What a completed command changes (R152 to R154) -/

/-- Pairs concerned by a completed SELECT_PUMP or TRIM_GAIN (R152). -/
def pairsConcerned (s : State) (p : PairNo) (h : Nat) : List PairNo :=
  [p, partner p].filter (fun r => (s.pair r).state = .routed && (s.pair r).routesThrough h)

/-- Relearn from the housing's position on, and isolation at it, on one pair (R152). -/
def relearnAndIsolate (h : Nat) (p : PairNo) (s : State) : State :=
  let k := ((s.pair p).positionOf h).getD 0
  isolate p k (relearnRange p k (s.pair p).n s)

/-- Pump selection of an argument (R138, R152). -/
def pumpOf (arg : Nat) : PumpSel :=
  if arg = 1 then .primary else if arg = 2 then .spare else if arg = 3 then .both else .unknown

/-- Effects of a completed SELECT_PUMP or TRIM_GAIN (R152). -/
def completeShared (p : PairNo) (c : CommandFields) (s : State) : State :=
  let s' := if c.opcode = .selectPump then
      s.setHousing c.housing (fun e =>
        { e with pump := tableMap e.pump (pairGroup p) (fun _ => pumpOf c.argument.toNat) })
    else s
  (pairsConcerned s' p c.housing).foldl (fun s r => relearnAndIsolate c.housing r s) s'

/-- Mute flags written by a completed MUTE or UNMUTE: bit 0 of the argument is outbound, bit 1 return
(R138, R153). -/
def writeMutes (p : PairNo) (arg : BitVec 16) (v : Bool) (e : Housing) : Housing :=
  { e with
    outMute := if arg.getLsbD 0 then tableMap e.outMute p.val (fun _ => v) else e.outMute
    retMute := if arg.getLsbD 1 then tableMap e.retMute p.val (fun _ => v) else e.retMute }

/-- Effects of a completed MUTE or UNMUTE (R153). -/
def completeMute (p : PairNo) (c : CommandFields) (muting : Bool) (s : State) : State :=
  let s := s.setHousing c.housing (writeMutes p c.argument muting)
  let k := ((s.pair p).positionOf c.housing).getD 0
  let s := if c.argument.getLsbD 0 then relearnRange p k (s.pair p).n s
    else if c.argument.getLsbD 1 then relearnRange p k k s else s
  if muting then isolate p k s else s

/-- Effects of a completed SET_LOOPBACK (R154). -/
def completeLoopback (p : PairNo) (c : CommandFields) (s : State) : State :=
  let s := s.setHousing c.housing (fun e =>
    { e with loopback := tableMap e.loopback p.val (fun _ => some (Fin.ofNat 8 c.argument.toNat)) })
  let k := ((s.pair p).positionOf c.housing).getD 0
  relearnRange p k k s

/-- Effects of a completed command (R152 to R154). -/
def completeCommand (p : PairNo) (c : CommandFields) (s : State) : State :=
  match c.opcode with
  | .selectPump | .trimGain => completeShared p c s
  | .mute => completeMute p c true s
  | .unmute => completeMute p c false s
  | .setLoopback => completeLoopback p c s
  | .nop | .queryPumps | .queryTemp => s

/-! ### Word outcomes (R147 to R151) -/

/-- The reply record when a word's outcome is decided (R151). -/
def noteReply (w : CmdWord) (r : Option Reply) (l : List ReplyEntry) : List ReplyEntry :=
  l.map (fun e => if e.word = w then { e with reply := r } else e)

/-- The command fields after a succeeded word (R147). -/
def advanceCommand (w : CmdWord) (c : CommandFields) : CommandFields :=
  { c with next := stepAfter w c.opcode, completed := stepAfter w c.opcode = .verify }

/-- A succeeded word: toggle written, progress moved, and the effects of a completed command (R147). -/
def wordSucceeded (j : Job) (p : PairNo) (c : CommandFields) (x : Exchange) (s : State) : State :=
  let s := (writeJobToggle j (some x.toggle) s).setCmd j.number (advanceCommand x.word)
  if stepAfter x.word c.opcode = .verify then completeCommand p c s else s

/-- The tries are spent: toggle UNKNOWN at once, the reply-failure statistic raised (R148), also where a cancel
or a lapse then ends the job (DEDUCED, log 20). -/
def wordExhausted (j : Job) (p : PairNo) (s : State) : State :=
  bumpStat .replyFails p (writeJobToggle j none s)

/-- Slot 9's result has been taken: the word's outcome, and DECIDED (R145 to R148). -/
def decideWord (retryMax : Nat) (s : State) : State :=
  let x := s.channel.exchange
  let reply := readReply x.slots
  let o := spendTries retryMax x.tries (judgeWord x.word x.toggle reply)
  let s := s.setExchange { x with phase := .decided, outcome := some o }
  match s.job? x.job with
  | none => s
  | some j =>
    match j.pair, j.cmd with
    | some p, some c =>
      let s := s.setCmd j.number (fun c => { c with reply := noteReply x.word reply c.reply })
      match o with
      | .retry => s
      | .exhausted => wordExhausted j p s
      | .refused => writeJobToggle j (some x.toggle) s
      | .succeeded => wordSucceeded j p c x s
    | _, _ => s

/-! ### The exchange end (R155, R157, R165) -/

/-- A job ended at an exchange end by a cancel or a lapse: a word left unresolved makes the toggle
UNKNOWN (R157, R165). -/
def endUnresolved (j : Job) (o : Option WordOutcome) (out : JobOutcome) (s : State) : State :=
  let s := if o = some .retry ∨ o = some .exhausted then writeJobToggle j none s else s
  arbitrate (endJob j.number out s)

/-- The job driver's case at the exchange end (R155). -/
def afterExchange (j : Job) (c : CommandFields) (x : Exchange) (s : State) : State :=
  if j.cancelPending then endUnresolved j x.outcome .cancelled s
  else if c.basis = .lapsed ∧ c.completed = false then endUnresolved j x.outcome .declined s
  else match x.outcome with
    | some .retry => startWord j x.word x.toggle (x.tries + 1) s
    | some .exhausted => arbitrate (endJob j.number .noReply s)
    | some .refused => arbitrate (endJob j.number .refused s)
    | some .succeeded =>
      match c.next with
      | .word w => sendNext j w s
      | .verify =>
        if 0 < c.verifySpan then runPass j s else arbitrate (endJob j.number .complete s)
    | none => s

end Sys2Proof.Machine
end

