-- ==== Sys2Proof/Machine/Jobs.lean ====
section
/-! DEFINITION. The requests to the Job Scheduler: submissions, cancels, status, result lists, patrols,
statistics and the fault log (R32, R34, R70, R115 to R120, R128 to R134, R139, R157, R159, R161, R185). -/

namespace Sys2Proof.Machine

/-! ### Submissions in general (R115, R118) -/

/-- Puts an accepted job in a slot (R116, R118). A QUEUED job may be granted or may preempt at once
(R122, R126). -/
def acceptJob (j : Job) (s : State) : State :=
  let s := s.addJob j
  if j.state = .queued then becameEligible (j.cls = .urgent && eligible s.seq.faultHold j) s else s

/-- The answer to an accepted submission: the job number, and the body as used where a field moved. -/
def accepted (moved : Bool) (used : List Byte) (s : State) : Resp :=
  reply .accepted moved (u8 (nextNumber s.sched.lastNumber s.sched.jobs)) used

/-- The port's four slots are in use (R115). -/
def quotaSpent (port : Port) (s : State) : Bool := decide (Config.slotsPerPort ≤ s.portSlotsUsed port)

/-- No service slot is free (R115). -/
def serviceFull (s : State) : Bool := decide (Config.serviceSlots ≤ s.serviceSlotsUsed)

/-! ### SUBMIT_MEASURE (R118) -/

/-- The fields of a measurement as used (R118). -/
structure MeasureUse where
  first : Nat
  last : Nat
  q : Nat
  w : Nat
  cls : JobClass
  moved : Bool
  deriving DecidableEq, Repr

def measureUse (port : Port) (p : PairNo) (first last q w : Byte) (urgent : Bool) (s : State) :
    MeasureUse :=
  let range := clampRange 1 (s.pair p).n first.toNat last.toNat
  let q' := clamp 0 12 q.toNat
  let w' := clampW w.toNat
  { first := range.1, last := range.2, q := q', w := w', cls := classUsed s port urgent
    moved := range ≠ (first.toNat, last.toNat) || q' ≠ q.toNat || w' ≠ w.toNat ||
      classMoved s port urgent }

/-- The job a measurement creates (R117). -/
def measureJob (port : Port) (p : PairNo) (track : Bool) (u : MeasureUse) : Job :=
  { Job.fresh (.port port) .measure u.cls (some p) (some (u.first, u.last)) u.q u.w with track := track }

/-- The body of a measurement as used (R172). -/
def measureCopy (p : PairNo) (track : Bool) (u : MeasureUse) : List Byte :=
  u8 p.val ++ u8 u.first ++ u8 u.last ++ u8 u.q ++ u8 u.w ++ yesNo track ++ yesNo (u.cls = .urgent)

def reqSubmitMeasure (port : Port) (pair first last q w track urgent : Byte) (s : State) :
    State × Resp :=
  match yesNoByte track, yesNoByte urgent with
  | some track, some urgent =>
    withPair pair s fun p =>
      if !owns s port p then (s, refuse .denied [])
      else if (s.pair p).state ≠ .routed then (s, refuse .invalid (noPositionDetail s p))
      else if quotaSpent port s then (s, refuse .quota [])
      else
        let u := measureUse port p first last q w urgent s
        (acceptJob (measureJob port p track u) s, accepted u.moved (measureCopy p track u) s)
  | _, _ => (s, refuse .malformed [])

def execSubmitMeasure (port : Port) (pair first last q w track urgent : Byte) (s : State) :
    Host.Outcome State Fault Refusal :=
  takeRequest port s (reqSubmitMeasure port pair first last q w track urgent)

/-! ### SUBMIT_SURVEY (R70, R118) -/

/-- The fields of a survey as used (R70). -/
structure SurveyUse where
  start : Nat
  stop : Nat
  q : Nat
  cls : JobClass
  moved : Bool
  deriving DecidableEq, Repr

def surveyUse (port : Port) (p : PairNo) (start stop : Half) (q : Byte) (urgent : Bool) (s : State) :
    SurveyUse :=
  let range := clampRange 0 (seqLength (s.pair p).profile.order - 1) start.toNat stop.toNat
  let q' := clamp 0 12 q.toNat
  { start := range.1, stop := range.2, q := q', cls := classUsed s port urgent
    moved := range ≠ (start.toNat, stop.toNat) || q' ≠ q.toNat || classMoved s port urgent }

/-- The job a survey creates; its W plays no part (R70, log 28). -/
def surveyJob (port : Port) (p : PairNo) (u : SurveyUse) : Job :=
  Job.fresh (.port port) .survey u.cls (some p) (some (u.start, u.stop)) u.q 1

/-- The body of a survey as used (R172). -/
def surveyCopy (p : PairNo) (u : SurveyUse) : List Byte :=
  u8 p.val ++ u16 u.start ++ u16 u.stop ++ u8 u.q ++ yesNo (u.cls = .urgent)

def reqSubmitSurvey (port : Port) (pair : Byte) (start stop : Half) (q urgent : Byte) (s : State) :
    State × Resp :=
  match yesNoByte urgent with
  | none => (s, refuse .malformed [])
  | some urgent =>
    withPair pair s fun p =>
      if !ownerOrStation s port p then (s, refuse .denied [])
      else if (s.pair p).state = .unrouted then (s, refuse .invalid [])
      else if quotaSpent port s then (s, refuse .quota [])
      else
        let u := surveyUse port p start stop q urgent s
        (acceptJob (surveyJob port p u) s, accepted u.moved (surveyCopy p u) s)

def execSubmitSurvey (port : Port) (pair : Byte) (start stop : Half) (q urgent : Byte) (s : State) :
    Host.Outcome State Fault Refusal :=
  takeRequest port s (reqSubmitSurvey port pair start stop q urgent)

/-! ### SUBMIT_DARK and SUBMIT_SYNTH (R115, R185) -/

/-- The station's DARK job (R43, R115). -/
def darkJob (port : Port) : Job := Job.fresh (.port port) .dark .urgent none none 0 1

def reqSubmitDark (port : Port) (s : State) : State × Resp :=
  stationOnly port s
    (if serviceFull s then (s, refuse .full [])
     else (acceptJob (darkJob port) s, accepted false [] s))

def execSubmitDark (port : Port) (s : State) : Host.Outcome State Fault Refusal :=
  takeRequest port s (reqSubmitDark port)

/-- The fields of a self-test as used (R185). -/
structure SynthUse where
  q : Nat
  w : Nat
  cls : JobClass
  moved : Bool
  deriving DecidableEq, Repr

def synthUse (port : Port) (q w : Byte) (urgent : Bool) (s : State) : SynthUse :=
  let q' := clamp 0 12 q.toNat
  let w' := clampW w.toNat
  { q := q', w := w', cls := classUsed s port urgent
    moved := q' ≠ q.toNat || w' ≠ w.toNat || classMoved s port urgent }

/-- The SYNTH job; its range is [1, echo count] by R185, where the table of R117 has none (DEDUCED, log 37). -/
def synthJob (port : Port) (count : Nat) (u : SynthUse) : Job :=
  Job.fresh (.port port) .synth u.cls none (some (1, count)) u.q u.w

def synthCopy (u : SynthUse) : List Byte := u8 u.q ++ u8 u.w ++ yesNo (u.cls = .urgent)

def reqSubmitSynth (port : Port) (q w urgent : Byte) (s : State) : State × Resp :=
  match yesNoByte urgent with
  | none => (s, refuse .malformed [])
  | some urgent =>
    stationOnly port s
      (match s.synth.defn with
       | none => (s, refuse .invalid [])
       | some d =>
         if quotaSpent port s then (s, refuse .quota [])
         else
           let u := synthUse port q w urgent s
           (acceptJob (synthJob port d.echoes.length u) s, accepted u.moved (synthCopy u) s))

def execSubmitSynth (port : Port) (q w urgent : Byte) (s : State) : Host.Outcome State Fault Refusal :=
  takeRequest port s (reqSubmitSynth port q w urgent)

/-! ### SUBMIT_COMMAND (R139, R140, R159, R161) -/

/-- The fields after the argument, with their defaults where the body has ended (R139). -/
structure CommandTail where
  v : Nat
  r : Nat
  q : Nat
  w : Nat
  urgent : Bool
  deriving DecidableEq, Repr

def commandTail (rest : List Byte) : Option CommandTail :=
  let field := fun (i d : Nat) => ((rest[i]?).map BitVec.toNat).getD d
  if 5 < rest.length then none
  else
    (yesNoByte ((rest[4]?).getD 0#8)).map (fun u =>
      { v := field 0 0, r := field 1 2, q := field 2 4, w := field 3 3, urgent := u })

/-- The argument a command carries (R138, R139). -/
def commandArgument (op : Opcode) (arg : Half) : Half :=
  match op with
  | .nop | .queryPumps | .queryTemp => 0#16
  | .selectPump | .mute | .unmute => BitVec.ofNat 16 (clamp 1 3 arg.toNat)
  | .setLoopback => BitVec.ofNat 16 (clamp 0 7 arg.toNat)
  | .trimGain => arg

/-- The argument of the body as used: the value given stands where the opcode takes none (R139, R172). -/
def argumentCopy (op : Opcode) (arg : Half) : Half :=
  match op with
  | .nop | .queryPumps | .queryTemp => arg
  | .selectPump | .mute | .unmute | .setLoopback | .trimGain => commandArgument op arg

/-- Whether a command needs concurrence, and whose (R159). -/
def askedOwner (s : State) (port : Port) (p : PairNo) (op : Opcode) : Option Port :=
  if sharedEffect op then
    match (s.pair (partner p)).owner with
    | none => none
    | some o => if o = port then none else some o
  else none

/-- The fields of a command as used (R139, R140). -/
structure CommandUse where
  pair : PairNo
  housing : Nat
  opcode : Opcode
  given : Half
  v : Nat
  r : Nat
  slotUnits : Nat
  q : Nat
  w : Nat
  cls : JobClass
  moved : Bool
  deriving DecidableEq, Repr

def commandUse (port : Port) (p : PairNo) (housing : Byte) (op : Opcode) (arg : Half) (t : CommandTail)
    (r slotUnits : Nat) (s : State) : CommandUse :=
  let w := clampW t.w
  let v := clamp 0 (min 16 (coverage w)) t.v
  let q := clamp 0 12 t.q
  { pair := p, housing := housing.toNat, opcode := op, given := arg, v := v, r := r
    slotUnits := slotUnits, q := q, w := w, cls := classUsed s port t.urgent
    moved := argumentCopy op arg ≠ arg || v ≠ t.v || r ≠ t.r || q ≠ t.q || w ≠ t.w ||
      classMoved s port t.urgent }

/-- Positions of the verify pass (R156); none where the span is 0 (R117). -/
def verifyRange (k n v : Nat) : Option (Nat × Nat) := if v = 0 then none else some (k, min (k + v - 1) n)

/-- The command fields of a new job (R117, R139, R159). -/
def commandFields (u : CommandUse) (asked : Option Port) : CommandFields :=
  { housing := u.housing, opcode := u.opcode, argument := commandArgument u.opcode u.given
    verifySpan := u.v, r := u.r, slotUnits := u.slotUnits
    basis := if asked.isSome then .asked else .notNeeded
    askedPort := asked, next := .word .word1, wordStarted := false, completed := false
    reply := [] }

/-- The job a command creates (R117). -/
def commandJob (port : Port) (k n : Nat) (u : CommandUse) (asked : Option Port) : Job :=
  { Job.fresh (.port port) .command u.cls (some u.pair) (verifyRange k n u.v) u.q u.w with
    cmd := some (commandFields u asked)
    state := if asked.isSome then .waitConcur else .queued }

/-- The body of a command as used: all ten bytes (R172, log 17). -/
def commandCopy (u : CommandUse) : List Byte :=
  u8 u.pair.val ++ u8 u.housing ++ u8 (opcodeCode u.opcode) ++
  u16 (argumentCopy u.opcode u.given).toNat ++ u8 u.v ++ u8 u.r ++ u8 u.q ++ u8 u.w ++
  yesNo (u.cls = .urgent)

/-- The concurrence record of a submission (R161). -/
def askRecord (port asked : Port) (u : CommandUse) (s : State) : ConcurRec :=
  { job := nextNumber s.sched.lastNumber s.sched.jobs, requester := port, asked := asked
    pair := u.pair, housing := u.housing, opcode := u.opcode
    argument := commandArgument u.opcode u.given
    deadline := s.lineTime + s.params.concurTimeout * 1000 }

/-- A record is placed in the table and CONCUR_ASKED is raised on the asked port (R161). -/
def openRecord (r : ConcurRec) (s : State) : State :=
  raiseNotice .concurAsked r.asked
    { s with channel := { s.channel with concur := s.channel.concur ++ [r] } }

/-- An accepted command: a job, and a concurrence record where one is needed (R139, R161). -/
def submitCommandJob (port : Port) (k n : Nat) (u : CommandUse) (s : State) : State :=
  let asked := askedOwner s port u.pair u.opcode
  let s' := acceptJob (commandJob port k n u asked) s
  match asked with
  | some o => openRecord (askRecord port o u s) s'
  | none => s'

/-- The checks of a command after the pair's state, and its acceptance (R139, R140, R161). An opcode byte of 16
to 255 is INVALID like 8 to 15 (DESIGN CHOICE, log 40). -/
def commandChecks (port : Port) (p : PairNo) (housing opcode : Byte) (arg : Half) (t : CommandTail)
    (s : State) : State × Resp :=
  let pr := s.pair p
  match pr.positionOf housing.toNat with
  | none => (s, refuse .invalid (u8 housing.toNat))
  | some k =>
    match opcodeOf opcode.toNat with
    | none => (s, refuse .invalid [])
    | some op =>
      match fitSlots pr.profile (clamp 0 6 t.r) with
      | none => (s, refuse .invalid [])
      | some ru =>
        if quotaSpent port s then (s, refuse .quota [])
        else if (askedOwner s port p op).isSome && decide (Config.concurPlaces ≤ s.channel.concur.length)
        then (s, refuse .full [])
        else
          let u := commandUse port p housing op arg t ru.1 ru.2 s
          (submitCommandJob port k pr.n u s, accepted u.moved (commandCopy u) s)

def reqSubmitCommand (port : Port) (pair housing opcode : Byte) (arg : Half) (rest : List Byte)
    (s : State) : State × Resp :=
  match commandTail rest with
  | none => (s, refuse .malformed [])
  | some t =>
    withPair pair s fun p =>
      if !housingNumber housing then (s, refuse .invalid [])
      else if !owns s port p then (s, refuse .denied [])
      else if (s.pair p).state ≠ .routed then (s, refuse .invalid [])
      else commandChecks port p housing opcode arg t s

def execSubmitCommand (port : Port) (pair housing opcode : Byte) (argument : Half) (rest : List Byte)
    (s : State) : Host.Outcome State Fault Refusal :=
  takeRequest port s (reqSubmitCommand port pair housing opcode argument rest)

/-! ### CANCEL_JOB (R130, R157, R164, R186) -/

/-- A cancel waits for the end of the job's evaluation or exchange (R60, R157). -/
def holdCancel (j : Job) (s : State) : State :=
  s.setJob j.number (fun j => { j with cancelPending := true })

/-- An ACTIVE measuring job, or a verify pass, is cancelled (R130, R157): a pass that accumulates or waits
is cut and the path is free; from its last boundary on, the pass is evaluated first (R60, log 32). A
self-test gives END_DARK as it ends (R186). -/
def cancelPass (j : Job) (s : State) : State :=
  if (endingPass s).isSome then holdCancel j s else endAtPassEnd j .cancelled (dropPass s)

/-- An ACTIVE command job is cancelled (R157): during an exchange the cancel waits for its end. -/
def cancelCommand (j : Job) (s : State) : State :=
  if s.channel.exchange.phase = .idle then cancelPass j s else holdCancel j s

/-- A job is cancelled by its port (R130). A waiting job's basis stays ASKED (DESIGN CHOICE, log 39). -/
def cancelState (j : Job) (s : State) : State :=
  match j.state with
  | .queued | .suspended => endJob j.number .cancelled s
  | .waitConcur => endJob j.number .cancelled (s.removeConcur j.number)
  | .active => if j.kind = .command then cancelCommand j s else cancelPass j s
  | .ended => s

/-- CANCEL_JOB (R130). An ENDED DARK job meets two rows of the refusals, INVALID and INVALID with its outcome; the
row of the DARK job is taken, and the body is empty (DESIGN CHOICE, log 42). -/
def reqCancelJob (port : Port) (job : Byte) (s : State) : State × Resp :=
  match s.job? job.toNat with
  | none => (s, refuse .noSuch [])
  | some j =>
    if j.requester ≠ .port port then (s, refuse .denied [])
    else if j.kind = .dark then (s, refuse .invalid [])
    else if j.state = .ended then
      (s, refuse .invalid (u8 ((j.outcome.map outcomeCode).getD 0)))
    else (cancelState j s, reply .ok false [] [])

def execCancelJob (port : Port) (job : Byte) (s : State) : Host.Outcome State Fault Refusal :=
  takeRequest port s (reqCancelJob port job)

/-! ### JOB_STATUS (R120) -/

/-- Age of a job: its place in the order of acceptance among the jobs in slots, 1 for the oldest
(R117, log 10). -/
def jobAge (n : Nat) (s : State) : Nat := s.sched.jobs.findIdx (fun j => j.number = n) + 1

def reqJobStatus (port : Port) (job : Byte) (s : State) : State × Resp :=
  match s.job? job.toNat with
  | none => (s, refuse .noSuch [])
  | some j =>
    if j.requester ≠ .port port then (s, refuse .denied [])
    else
      (if j.state = .ended then s.freeJob j.number else s,
        reply .ok false (encodeJob (jobAge j.number s) j) [])

def execJobStatus (port : Port) (job : Byte) (s : State) : Host.Outcome State Fault Refusal :=
  takeRequest port s (reqJobStatus port job)

/-! ### READ_RESULTS (R133) -/

/-- Header of a result list (R131). -/
def encodeHeader (l : ResultList) : List Byte :=
  optField u8 1 l.job ++ optField (fun k : JobKind => u8 (jobKindCode k)) 1 l.kind ++
  optField (fun p : PairNo => u8 p.val) 1 l.pair ++ u16 l.body.count ++ u8 (listStateCode l.state) ++
  yesNo l.truncated

/-- Largest count of a read (R133). -/
def maxRead : ResultBody → Nat
  | .echoes _ => 24
  | .candidates _ => 96

/-- Entries of a body from an offset on (R133). -/
def encodeSlice (offset count : Nat) : ResultBody → List Byte
  | .echoes l => listOf encodeEcho ((l.drop offset).take count)
  | .candidates l => listOf encodeCandidate ((l.drop offset).take count)

def reqReadResults (port : Port) (offset count : Byte) (s : State) : State × Resp :=
  let l := tableGet s.sched.results port.val ResultList.powerOn
  let c := clamp 1 (maxRead l.body) count.toNat
  (s, reply .ok (c ≠ count.toNat) (encodeHeader l ++ encodeSlice offset.toNat c l.body)
    (u8 offset.toNat ++ u8 c))

def execReadResults (port : Port) (offset count : Byte) (s : State) :
    Host.Outcome State Fault Refusal :=
  takeRequest port s (reqReadResults port offset count)

/-! ### Patrols (R128, R129) -/

/-- Who may set a pair's patrol (R15): its owner, or the station where it has none. -/
def maySetPatrol (s : State) (port : Port) (p : PairNo) : Bool :=
  owns s port p || (isStation s port && (s.pair p).owner = none)

/-- Patrol settings written (R128). -/
def patrolWritten (s : State) (p : PairNo) (interval q w : Nat) (old : Patrol) : Patrol :=
  let set := { old with interval := interval, q := q, w := w }
  if (s.pair p).state = .routed then restartPatrol s.lineTime set else set

def reqSetPatrol (port : Port) (pair : Byte) (interval : Half) (q w : Byte) (s : State) :
    State × Resp :=
  withPair pair s fun p =>
    if !maySetPatrol s port p then (s, refuse .denied [])
    else
      let i' := clamp 0 1440 interval.toNat
      let q' := clamp 0 12 q.toNat
      let w' := clampW w.toNat
      let moved := i' ≠ interval.toNat || q' ≠ q.toNat || w' ≠ w.toNat
      (s.setPatrol p (patrolWritten s p i' q' w'),
        reply .ok moved (u16 i' ++ u8 q' ++ u8 w') (u8 p.val ++ u16 i' ++ u8 q' ++ u8 w'))

def execSetPatrol (port : Port) (pair : Byte) (interval : Half) (q w : Byte) (s : State) :
    Host.Outcome State Fault Refusal :=
  takeRequest port s (reqSetPatrol port pair interval q w)

/-- A patrol timer expires at this line time, and no lower pair's timer shares the expiry (R129, log
23). -/
def patrolDue (p : PairNo) (s : State) : Bool :=
  match (s.sched.patrols[p]).timer with
  | none => false
  | some t =>
    decide (t ≤ s.lineTime) &&
      !(List.finRange 16).any (fun q => decide (q < p) && (s.sched.patrols[q]).timer = some t)

/-- The patrol slot of a pair is taken (R129). -/
def patrolSlotTaken (p : PairNo) (s : State) : Bool :=
  s.sched.jobs.any (fun j => j.kind = .patrol && j.pair = some p)

/-- The PATROL job of an expiry (R129). -/
def patrolJob (p : PairNo) (s : State) : Job :=
  Job.fresh .internal .patrol .routine (some p) (some (1, (s.pair p).n)) (s.sched.patrols[p]).q
    (s.sched.patrols[p]).w

/-- A patrol timer expires (R129). -/
def patrolExpiryState (p : PairNo) (s : State) : State :=
  if patrolDue p s then
    let s' := s.setPatrol p (fun t =>
      { t with timer := t.timer.map (fun at_ => at_ + t.interval * 60000) })
    if (s.pair p).state = .routed ∧ patrolSlotTaken p s = false then acceptJob (patrolJob p s) s' else s'
  else s

def execPatrolTimerExpiry (pair : PairNo) (s : State) : Host.Outcome State Fault Refusal :=
  .next (patrolExpiryState pair s)

/-! ### READ_PAIR_STATS (R134) -/

/-- Statistics in a response (R134). -/
def encodeStats (t : Stats) : List Byte :=
  u16 t.passes ++ u8 t.overdrives ++ u8 t.replyFails ++ u8 t.preempts

def reqReadPairStats (port : Port) (pair : Byte) (s : State) : State × Resp :=
  withPair pair s fun p =>
    if !ownerOrStation s port p then (s, refuse .denied [])
    else
      (s.setStats p (fun _ => { passes := 0, overdrives := 0, replyFails := 0, preempts := 0 }),
        reply .ok false (encodeStats s.sched.stats[p]) [])

def execReadPairStats (port : Port) (pair : Byte) (s : State) : Host.Outcome State Fault Refusal :=
  takeRequest port s (reqReadPairStats port pair)

/-! ### The fault log and the fault hold (R32, R34) -/

/-- The log is emptied (R34). -/
def emptyFaultLog (s : State) : State :=
  { s with sched := { s.sched with faultLog := { record := none, overrun := false } } }

def reqReadFaultLog (port : Port) (s : State) : State × Resp :=
  stationOnly port s
    (emptyFaultLog s,
      reply .ok false (optField encodeFault 13 s.sched.faultLog.record ++ yesNo s.sched.faultLog.overrun) [])

def execReadFaultLog (port : Port) (s : State) : Host.Outcome State Fault Refusal :=
  takeRequest port s (reqReadFaultLog port)

/-- The sequencer when the fault hold is cleared (R32). -/
def clearHold (q : Sequencer) : Sequencer :=
  if q.state = .switchFault then { parkSwitch q with state := .parked, faultHold := false }
  else { q with faultHold := false }

/-- An URGENT measuring or COMMAND job waits in its slot: with the hold cleared it becomes eligible
(R121). -/
def urgentFreed (s : State) : Bool :=
  s.eligibleJobs.any (fun j => j.cls = .urgent && j.kind ≠ .dark)

/-- CLEAR_SWITCH_FAULT carried out: the waiting jobs become eligible together (R32, R121). -/
def clearFaultState (s : State) : State :=
  let s := { s with seq := clearHold s.seq }
  becameEligible (urgentFreed s) s

def reqClearSwitchFault (port : Port) (s : State) : State × Resp :=
  stationOnly port s
    (if s.seq.faultHold then (clearFaultState s, reply .ok false [] [])
     else (s, refuse .invalid (u8 (seqStateCode s.seq.state))))

def execClearSwitchFault (port : Port) (s : State) : Host.Outcome State Fault Refusal :=
  takeRequest port s (reqClearSwitchFault port)

end Sys2Proof.Machine
end

