-- ==== Sys2Proof/Machine/LineMap.lean ====
section
/-! DEFINITION. Requests on the Line Map: housings, routes and ownership (R3, R4, R8 to R14, R165). -/

namespace Sys2Proof.Machine

/-! ### Housings (R3, R4) -/

/-- A presence byte: 1 ABSENT, 2 PRESENT (R1, R181). -/
def presenceByte (b : Byte) : Option Presence :=
  if b.toNat = 1 then some .absent else if b.toNat = 2 then some .present else none

/-- The lowest pair in EDIT or ROUTED whose route holds a housing, and its position there (R3): the lowest one
where an EDIT route holds it more than once (DESIGN CHOICE, log 33). -/
def heldBy (s : State) (h : Nat) : Option (PairNo × Nat) :=
  (List.finRange 16).findSome? (fun p =>
    if (s.pair p).state = .unrouted then none else ((s.pair p).positionOf h).map (fun k => (p, k)))

/-- A housing's entry when its presence is written (R1, R3). -/
def withPresence (v : Presence) (e : Housing) : Housing :=
  match v, e.presence with
  | .present, _ => { e with presence := .present }
  | .absent, .present => Housing.powerOn
  | .absent, .absent => e

/-- WRITE_HOUSING (R3). ABSENT for a housing that is ABSENT is OK, also where an EDIT route holds it (DESIGN
CHOICE, log 34). -/
def reqWriteHousing (port : Port) (housing presence : Byte) (s : State) : State × Resp :=
  match presenceByte presence with
  | none => (s, refuse .malformed [])
  | some v =>
    stationOnly port s
      (let h := housing.toNat
       if !housingNumber housing then (s, refuse .invalid [])
       else
         match v, (s.housing h).presence, heldBy s h with
         | .absent, .present, some (p, k) => (s, refuse .invalid (u8 p.val ++ u8 k))
         | _, _, _ => (s.setHousing h (withPresence v), reply .ok false [] []))

def execWriteHousing (port : Port) (housing presence : Byte) (s : State) :
    Host.Outcome State Fault Refusal :=
  takeRequest port s (reqWriteHousing port housing presence)

/-- A port sees the fields of a pair in a housing entry (R4). -/
def seesPair (s : State) (port : Port) (p : Nat) : Bool :=
  isStation s port || (if h : p < 16 then owns s port ⟨p, h⟩ else false)

/-- A port sees the fields of a pair group (R4). -/
def seesGroup (s : State) (port : Port) (g : Nat) : Bool :=
  seesPair s port (2 * g) || seesPair s port (2 * g + 1)

/-- A port may read a housing (R4). -/
def mayReadHousing (s : State) (port : Port) (h : Nat) : Bool :=
  isStation s port ||
    (List.finRange 16).any (fun p => owns s port p && (s.pair p).routesThrough h)

def reqReadHousing (port : Port) (housing : Byte) (s : State) : State × Resp :=
  if !housingNumber housing then (s, refuse .invalid [])
  else if !mayReadHousing s port housing.toNat then (s, refuse .denied [])
  else
    (s, reply .ok false
      (encodeHousing (seesGroup s port) (seesPair s port) (s.housing housing.toNat)) [])

def execReadHousing (port : Port) (housing : Byte) (s : State) : Host.Outcome State Fault Refusal :=
  takeRequest port s (reqReadHousing port housing)

/-! ### ROUTE_OPEN (R8, R9) -/

/-- The profile and quiet base of a new route, clamped (R9). -/
def routeUse (order chip drive : Byte) (quietBase : Half) : Profile × Nat :=
  let n := clamp 11 15 order.toNat
  (⟨n, clamp 0 4 chip.toNat, drive.toNat⟩, clamp 4 (seqLength n - 4) quietBase.toNat)

/-- Effects of an accepted ROUTE_OPEN (R8). -/
def openRoute (p : PairNo) (u : Profile × Nat) (s : State) : State :=
  let s := s.setPair p (fun r =>
    { r with state := .edit, profile := u.1, quietBase := u.2, route := [] })
  let s := emptySignatures p s
  let s := { s with findings := s.findings.filter (fun f => f.pair ≠ p) }
  s.setPatrol p (fun t => { t with timer := none })

/-- The body of a ROUTE_OPEN as used (R172). -/
def routeCopy (p : PairNo) (u : Profile × Nat) : List Byte :=
  u8 p.val ++ u8 u.1.order ++ u8 u.1.chipCode ++ u8 u.1.drive ++ u16 u.2

def reqRouteOpen (port : Port) (pair order chip drive : Byte) (quietBase : Half) (s : State) :
    State × Resp :=
  stationOnly port s
    (withPair pair s fun p =>
      if s.pairBusy p || s.concerned p then (s, refuse .busy [])
      else
        let u := routeUse order chip drive quietBase
        let moved := u.1.order ≠ order.toNat || u.1.chipCode ≠ chip.toNat || u.2 ≠ quietBase.toNat
        (openRoute p u s, reply .ok moved [] (routeCopy p u)))

def execRouteOpen (port : Port) (pair order chip drive : Byte) (quietBase : Half) (s : State) :
    Host.Outcome State Fault Refusal :=
  takeRequest port s (reqRouteOpen port pair order chip drive quietBase)

/-! ### ROUTE_ENTRIES (R10) -/

/-- The entries that are written, their lags clamped; entries above position 192 are dropped (R10). -/
def entriesUsed (L first : Nat) (entries : List (Byte × Half)) : List RouteEntry :=
  (entries.take (193 - first)).map (fun e => ⟨e.1.toNat, clamp 0 (L - 1) e.2.toNat⟩)

/-- A route with entries written from a position on (R10). -/
def writeEntries (first : Nat) (entries route : List RouteEntry) : List RouteEntry :=
  route.take (first - 1) ++ entries ++ route.drop (first - 1 + entries.length)

/-- Index of the first entry whose housing number is out of range (R10). -/
def badEntry (entries : List (Byte × Half)) : Option Nat :=
  entries.findIdx? (fun e => !housingNumber e.1)

def encodeRouteEntry (e : RouteEntry) : List Byte := u8 e.housing ++ u16 e.lag

/-- ROUTE_ENTRIES (R10). In an ADJUSTED answer the copied list holds the entries written, and its count is the
number written (DESIGN CHOICE, log 35). -/
def reqRouteEntries (port : Port) (pair first : Byte) (entries : List (Byte × Half)) (s : State) :
    State × Resp :=
  if entries.length = 0 ∨ 48 < entries.length then (s, refuse .malformed [])
  else stationOnly port s
    (withPair pair s fun p =>
      let pr := s.pair p
      if pr.state ≠ .edit then (s, refuse .invalid (pairStateDetail s p))
      else if first.toNat < 1 ∨ pr.n + 1 < first.toNat then (s, refuse .invalid (u8 pr.n))
      else match badEntry entries with
        | some i => (s, refuse .invalid (u8 i))
        | none =>
          let used := entriesUsed (seqLength pr.profile.order) first.toNat entries
          let route := writeEntries first.toNat used pr.route
          let moved := used ≠ entries.map (fun e => ⟨e.1.toNat, e.2.toNat⟩)
          (s.setPair p (fun r => { r with route := route }),
            reply .ok moved (u8 route.length)
              (u8 p.val ++ u8 first.toNat ++ listOf encodeRouteEntry used)))

def execRouteEntries (port : Port) (pair first : Byte) (entries : List (Byte × Half)) (s : State) :
    Host.Outcome State Fault Refusal :=
  takeRequest port s (reqRouteEntries port pair first entries)

/-! ### ROUTE_CLOSE (R11, R12) -/

/-- Reasons of a failed validation, in the order of R11. -/
inductive RouteFailure where
  | emptyRoute
  | absentHousing
  | repeatedHousing
  | lagOrder
  | quietOverlap
  | quietRange
  deriving DecidableEq, Repr

def routeFailureCode : RouteFailure → Nat
  | .emptyRoute => 1
  | .absentHousing => 2
  | .repeatedHousing => 3
  | .lagOrder => 4
  | .quietOverlap => 5
  | .quietRange => 6

/-- The tests of one position, after the entries below it (R11, test 2). -/
def entryFailure (present : Nat → Bool) (below : List RouteEntry) (e : RouteEntry) :
    Option RouteFailure :=
  if !present e.housing then some .absentHousing
  else if below.any (fun b => b.housing = e.housing) then some .repeatedHousing
  else match below.getLast? with
    | some b => if e.lag ≤ b.lag then some .lagOrder else none
    | none => none

/-- The positions from `below.length + 1` on, examined in ascending order (R11, test 2). -/
def positionFailure (present : Nat → Bool) : List RouteEntry → List RouteEntry → Option (RouteFailure × Nat)
  | _, [] => none
  | below, e :: rest =>
    match entryFailure present below e with
    | some f => some (f, below.length + 1)
    | none => positionFailure present (below ++ [e]) rest

/-- Validation of a route: the first failure with its position, or none (R11). -/
def validateRoute (present : Nat → Bool) (pr : Pair) : Option (RouteFailure × Nat) :=
  if pr.n = 0 then some (.emptyRoute, 0)
  else match positionFailure present [] pr.route with
    | some f => some f
    | none =>
      if pr.quietBase ≤ ((pr.lagAt pr.n).getD 0) + 3 then some (.quietOverlap, pr.n)
      else if seqLength pr.profile.order - 1 < pr.quietBase + 3 then some (.quietRange, pr.n)
      else none

/-- Presence of a housing (R1). -/
def housingPresent (s : State) (h : Nat) : Bool := (s.housing h).presence = .present

/-- A route that has passed validation (R12). -/
def closeRoute (p : PairNo) (s : State) : State :=
  (s.setPair p (fun r => { r with state := .routed })).setPatrol p (restartPatrol s.lineTime)

/-- ROUTE_CLOSE (R11), accepted also where an open concurrence record concerns the pair (DEDUCED, log 38). -/
def reqRouteClose (port : Port) (pair : Byte) (s : State) : State × Resp :=
  stationOnly port s
    (withPair pair s fun p =>
      if (s.pair p).state ≠ .edit then (s, refuse .invalid (pairStateDetail s p))
      else match validateRoute (housingPresent s) (s.pair p) with
        | some f => (s, refuse .invalid (u8 (routeFailureCode f.1) ++ u8 f.2))
        | none => (closeRoute p s, reply .ok false (u8 (s.pair p).n) []))

def execRouteClose (port : Port) (pair : Byte) (s : State) : Host.Outcome State Fault Refusal :=
  takeRequest port s (reqRouteClose port pair)

/-! ### READ_ROUTE (R13) -/

/-- A slice of a route (R13). -/
def encodeRouteSlice (pr : Pair) (first count : Nat) : List Byte :=
  let last := min (first + count - 1) pr.n
  listOf (fun k => u8 k ++ u8 ((pr.housingAt k).getD 0) ++ u16 ((pr.lagAt k).getD 0))
    (List.range' first (last + 1 - first))

/-- A pair record in a response (R13). -/
def encodePair (pr : Pair) : List Byte :=
  u8 (pairStateCode pr.state) ++ optField (fun o : Port => u8 o.val) 1 pr.owner ++
  u8 pr.profile.order ++ u8 pr.profile.chipCode ++ u8 pr.profile.drive ++ u16 pr.quietBase ++ u8 pr.n

def reqReadRoute (port : Port) (pair first count : Byte) (s : State) : State × Resp :=
  withPair pair s fun p =>
    if !ownerOrStation s port p then (s, refuse .denied [])
    else
      let f := clamp 1 192 first.toNat
      let c := clamp 1 48 count.toNat
      (s, reply .ok (f ≠ first.toNat || c ≠ count.toNat)
        (encodePair (s.pair p) ++ encodeRouteSlice (s.pair p) f c) (u8 p.val ++ u8 f ++ u8 c))

def execReadRoute (port : Port) (pair first count : Byte) (s : State) :
    Host.Outcome State Fault Refusal :=
  takeRequest port s (reqReadRoute port pair first count)

/-! ### ASSIGN (R14, R165) -/

/-- An owner field: none for none, `some none` for a number that is no port (R14). -/
def ownerField : Option Byte → Option (Option Port)
  | none => some none
  | some b => if h : b.toNat < 4 then some (some ⟨b.toNat, h⟩) else none

/-- A shared-effect COMMAND job whose consent an ASSIGN of `p` may touch: on the partner of `p`, not ENDED,
its command not completed (R165). -/
def consentBearing (p : PairNo) (j : Job) : Bool :=
  j.kind = .command && j.pair = some (partner p) && j.state ≠ .ended &&
    (j.cmd.map (fun c => sharedEffect c.opcode && !c.completed)).getD false

/-- A shared-effect word of a job on the partner pair is being sent (R14). -/
def sharedWordSending (s : State) (p : PairNo) : Bool :=
  let x := s.channel.exchange
  x.phase = .sending && x.word ≠ .nopPrefix &&
    s.sched.jobs.any (fun j => j.number = x.job && j.pair = some (partner p) &&
      (j.cmd.map (fun c => sharedEffect c.opcode)).getD false)

/-- A job's consent covers a new owner of the partner pair (R165). -/
def consentCovers (owner : Option Port) (j : Job) : Bool :=
  match owner with
  | none => true
  | some o =>
    j.requester = .port o ||
      (j.cmd.map (fun c => c.basis = .given && c.askedPort = some o)).getD false

/-- The job stands in an exchange, which runs to its end (R165, log 24). -/
def inExchange (s : State) (n : Nat) : Bool :=
  s.channel.exchange.phase ≠ .idle && s.channel.exchange.job = n

/-- The consent of one job lapses (R165). -/
def lapseJob (j : Job) (s : State) : State :=
  let s := s.setCmd j.number (fun c => { c with basis := .lapsed })
  if inExchange s j.number then s else endJob j.number .declined s

/-- The owner written (R14). -/
def setOwner (p : PairNo) (owner : Option Port) (s : State) : State :=
  s.setPair p (fun r => { r with owner := owner })

/-- An accepted ASSIGN: the owner, the consents that lapse, and a path that a lapse has freed (R14,
R165). -/
def assignState (p : PairNo) (owner : Option Port) (s : State) : State :=
  let lapsing := s.sched.jobs.filter (fun j => consentBearing p j && !consentCovers owner j)
  arbitrate (lapsing.foldl (fun s j => lapseJob j s) (setOwner p owner s))

def reqAssign (port : Port) (pair : Byte) (owner : Option Byte) (s : State) : State × Resp :=
  stationOnly port s
    (withPair pair s fun p =>
      match ownerField owner with
      | none => (s, refuse .invalid [])
      | some o =>
        if s.pairBusy p || s.concerned p || sharedWordSending s p then (s, refuse .busy [])
        else if (s.pair p).owner = o then (s, reply .ok false [] [])
        else (assignState p o s, reply .ok false [] []))

def execAssign (port : Port) (pair : Byte) (owner : Option Byte) (s : State) :
    Host.Outcome State Fault Refusal :=
  takeRequest port s (reqAssign port pair owner)

end Sys2Proof.Machine
end

