-- ==== Sys2Proof/Machine/Frames.lean ====
section
/-! DEFINITION. Request frames (R168, R170, R181): the catalogue of request kinds, the body of each kind, the
frame check that reads a request from the bytes on MOSI, and the frame that carries a request. -/

namespace Sys2Proof.Machine

/-- The request kinds of the catalogue (R170). -/
inductive RequestKind where
  | identify
  | readStatus
  | readNotices
  | setNoticeMask
  | clearNotices
  | submitMeasure
  | submitSurvey
  | submitCommand
  | submitDark
  | submitSynth
  | cancelJob
  | jobStatus
  | readResults
  | concur
  | readConcur
  | readSignature
  | writeSignature
  | relearn
  | freeze
  | readFindings
  | dismiss
  | setPatrol
  | readPairStats
  | writeHousing
  | readHousing
  | routeOpen
  | routeEntries
  | routeClose
  | readRoute
  | assign
  | setParams
  | setDarkMode
  | readFaultLog
  | clearSwitchFault
  | engineReset
  | synthDefine
  deriving DecidableEq, Repr

/-- The catalogue, in the order of its codes 1 to 36 (R170). -/
def catalogue : List RequestKind :=
  [.identify, .readStatus, .readNotices, .setNoticeMask, .clearNotices, .submitMeasure] ++
  [.submitSurvey, .submitCommand, .submitDark, .submitSynth, .cancelJob, .jobStatus] ++
  [.readResults, .concur, .readConcur, .readSignature, .writeSignature, .relearn] ++
  [.freeze, .readFindings, .dismiss, .setPatrol, .readPairStats, .writeHousing] ++
  [.readHousing, .routeOpen, .routeEntries, .routeClose, .readRoute, .assign] ++
  [.setParams, .setDarkMode, .readFaultLog, .clearSwitchFault, .engineReset, .synthDefine]

/-- Code of a request kind (R170). -/
def kindCode (k : RequestKind) : Nat := catalogue.idxOf k + 1

/-- Request kind of a kind byte: none for 0 and for 37 to 255 (R170). -/
def kindOf (b : Byte) : Option RequestKind := if b.toNat = 0 then none else catalogue[b.toNat - 1]?

/-! ### Fields of a body (R181) -/

/-- A field of two bytes, most significant first. -/
def half (hi lo : Byte) : Half := hi ++ lo

/-- Fields of two bytes, to the end of a body. -/
def readHalves : List Byte → Option (List Half)
  | [] => some []
  | hi :: lo :: rest => (readHalves rest).map (half hi lo :: ·)
  | [_] => none

/-- Entries of one byte and two bytes, to the end of a body (R10, R174). -/
def readEntries : List Byte → Option (List (Byte × Half))
  | [] => some []
  | n :: hi :: lo :: rest => (readEntries rest).map ((n, half hi lo) :: ·)
  | [_] => none
  | [_, _] => none

/-- Entries of two fields of two bytes, to the end of a body (R182). -/
def readEchoes : List Byte → Option (List (Half × Half))
  | [] => some []
  | a :: b :: c :: d :: rest => (readEchoes rest).map ((half a b, half c d) :: ·)
  | [_] => none
  | [_, _] => none
  | [_, _, _] => none

/-- A list that its body holds must have as many entries as its count says (R181). -/
def counted {α : Type} (n : Byte) (l : Option (List α)) : Option (List α) :=
  l.filter (fun l => l.length = n.toNat)

/-- A field that may be none: its presence byte and its value byte, which plays no part where there is none
(R181, log 11). -/
def optByte (presence value : Byte) : Option (Option Byte) :=
  (yesNoByte presence).map (fun there => if there then some value else none)

def body0 (i : Instr) : List Byte → Option Instr
  | [] => some i
  | _ => none

def body1 (f : Byte → Instr) : List Byte → Option Instr
  | [a] => some (f a)
  | _ => none

def body2 (f : Byte → Byte → Instr) : List Byte → Option Instr
  | [a, b] => some (f a b)
  | _ => none

def body3 (f : Byte → Byte → Byte → Instr) : List Byte → Option Instr
  | [a, b, c] => some (f a b c)
  | _ => none

/-! ### Bodies with fields of several widths (R181) -/

def readMask (port : Port) : List Byte → Option Instr
  | [hi, lo] => some (.setNoticeMask port (half hi lo))
  | _ => none

def readMeasure (port : Port) : List Byte → Option Instr
  | [pair, first, last, q, w, track, urgent] => some (.submitMeasure port pair first last q w track urgent)
  | _ => none

def readSurvey (port : Port) : List Byte → Option Instr
  | [pair, a, b, c, d, q, urgent] => some (.submitSurvey port pair (half a b) (half c d) q urgent)
  | _ => none

/-- The body of SUBMIT_COMMAND may end after the argument or after any later field (R139, R181). -/
def readCommand (port : Port) : List Byte → Option Instr
  | pair :: housing :: opcode :: hi :: lo :: rest =>
    if rest.length ≤ 5 then some (.submitCommand port pair housing opcode (half hi lo) rest) else none
  | _ => none

/-- CONCUR(job, yes or no): another answer is MALFORMED (R162). -/
def readConcurAnswer (port : Port) : List Byte → Option Instr
  | [job, answer] => (yesNoByte answer).map (fun yes => if yes then .concurYes port job else .concurNo port job)
  | _ => none

def readBases (port : Port) : List Byte → Option Instr
  | pair :: first :: n :: rest => (counted n (readHalves rest)).map (.writeSignature port pair first)
  | _ => none

/-- The selector of READ_FINDINGS is a pair number that is none for ALL (R112, log 15). -/
def readSelector (port : Port) : List Byte → Option Instr
  | [presence, pair, skip] =>
    (optByte presence pair).map (fun p => .readFindings port ((p.map Selector.pair).getD .all) skip)
  | _ => none

def readPatrol (port : Port) : List Byte → Option Instr
  | [pair, hi, lo, q, w] => some (.setPatrol port pair (half hi lo) q w)
  | _ => none

def readRouteOpen (port : Port) : List Byte → Option Instr
  | [pair, order, chip, drive, hi, lo] => some (.routeOpen port pair order chip drive (half hi lo))
  | _ => none

def readRouteEntries (port : Port) : List Byte → Option Instr
  | pair :: first :: n :: rest => (counted n (readEntries rest)).map (.routeEntries port pair first)
  | _ => none

def readOwner (port : Port) : List Byte → Option Instr
  | [pair, presence, owner] => (optByte presence owner).map (.assign port pair)
  | _ => none

def readParams (port : Port) : List Byte → Option Instr
  | n :: rest => (counted n (readEntries rest)).map (.setParams port)
  | _ => none

/-- The two forms of SET_DARK_MODE: 1 MANUAL with its value, 2 AUTO (R47, R181). -/
def readDarkMode (port : Port) : List Byte → Option Instr
  | [mode, hi, lo] => if mode.toNat = 1 then some (.setDarkModeManual port (half hi lo)) else none
  | [mode] => if mode.toNat = 2 then some (.setDarkModeAuto port) else none
  | _ => none

def readSynth (port : Port) : List Byte → Option Instr
  | o :: qh :: ql :: dh :: dl :: nh :: nl :: sh :: sl :: mode :: n :: rest =>
    (counted n (readEchoes rest)).map
      (.synthDefine port o (half qh ql) (half dh dl) (half nh nl) (half sh sl) mode)
  | _ => none

/-- The request that a body of a kind spells, or none where its length is no form of the kind, or its
presence, answer or mode byte no value of its set (R168, R171, R181). The other enumerated fields stand in
the request as bytes, and the request itself checks them. -/
def decodeBody (port : Port) : RequestKind → List Byte → Option Instr
  | .identify => body0 (.identify port)
  | .readStatus => body0 (.readStatus port)
  | .readNotices => body0 (.readNotices port)
  | .setNoticeMask => readMask port
  | .clearNotices => body0 (.clearNotices port)
  | .submitMeasure => readMeasure port
  | .submitSurvey => readSurvey port
  | .submitCommand => readCommand port
  | .submitDark => body0 (.submitDark port)
  | .submitSynth => body3 (.submitSynth port)
  | .cancelJob => body1 (.cancelJob port)
  | .jobStatus => body1 (.jobStatus port)
  | .readResults => body2 (.readResults port)
  | .concur => readConcurAnswer port
  | .readConcur => body0 (.readConcur port)
  | .readSignature => body3 (.readSignature port)
  | .writeSignature => readBases port
  | .relearn => body3 (.relearn port)
  | .freeze => body2 (.freeze port)
  | .readFindings => readSelector port
  | .dismiss => body3 (.dismiss port)
  | .setPatrol => readPatrol port
  | .readPairStats => body1 (.readPairStats port)
  | .writeHousing => body2 (.writeHousing port)
  | .readHousing => body1 (.readHousing port)
  | .routeOpen => readRouteOpen port
  | .routeEntries => readRouteEntries port
  | .routeClose => body1 (.routeClose port)
  | .readRoute => body3 (.readRoute port)
  | .assign => readOwner port
  | .setParams => readParams port
  | .setDarkMode => readDarkMode port
  | .readFaultLog => body0 (.readFaultLog port)
  | .clearSwitchFault => body0 (.clearSwitchFault port)
  | .engineReset => body0 (.engineReset port)
  | .synthDefine => readSynth port

/-! ### The frame check (R168) -/

/-- Body length that a frame's two length bytes declare. -/
def declaredLength (hi lo : Byte) : Nat := (half hi lo).toNat

/-- Kind byte and body of a frame whose declared body is at most 512 bytes long and has arrived; bytes after
it are ignored (R168). -/
def frameParts : List Byte → Option (Byte × List Byte)
  | kind :: hi :: lo :: rest =>
    let n := declaredLength hi lo
    if n ≤ Config.maxBody ∧ n ≤ rest.length then some (kind, rest.take n) else none
  | _ => none

/-- The request a frame spells, or none where it is answered MALFORMED (R168, R170). -/
def decodeFrame (frame : PortFrame) : Option Instr :=
  (frameParts frame.bytes).bind (fun f => (kindOf f.1).bind (fun k => decodeBody frame.port k f.2))

/-- The command of the table that a frame is: its request, or FRAME_MALFORMED. -/
def frameCommand (frame : PortFrame) : Instr := (decodeFrame frame).getD (.frameMalformed frame)

/-- A frame begins with a byte that is not zero (R168). -/
def beginsFrame (bytes : List Byte) : Bool := (bytes.head?.map (fun b => decide (b ≠ 0#8))).getD false

/-- The frame check fails (R168). -/
def malformedFrame (frame : PortFrame) : Bool := beginsFrame frame.bytes && (decodeFrame frame).isNone

/-- Reception of a frame has ended: its length bytes declare more than 512, or its body has arrived
(R168). -/
def frameEnded : List Byte → Bool
  | _ :: hi :: lo :: rest =>
    decide (Config.maxBody < declaredLength hi lo) || decide (declaredLength hi lo ≤ rest.length)
  | _ => false

/-! ### The frame that carries a request -/

/-- A field of two bytes as sent. -/
def sendHalf (h : Half) : List Byte := u16 h.toNat

def sendEntry (e : Byte × Half) : List Byte := e.1 :: sendHalf e.2

def sendEcho (e : Half × Half) : List Byte := sendHalf e.1 ++ sendHalf e.2

/-- A field of one byte that may be none, as sent (log 11). -/
def sendOptByte (o : Option Byte) : List Byte := optField (fun b => [b]) 1 o

/-- The kind of a request and its body, fields in the order of its rule (R181); none for a command that is
no request. -/
def requestBody : Instr → Option (RequestKind × List Byte)
  | .identify _ => some (.identify, [])
  | .readStatus _ => some (.readStatus, [])
  | .readNotices _ => some (.readNotices, [])
  | .setNoticeMask _ mask => some (.setNoticeMask, sendHalf mask)
  | .clearNotices _ => some (.clearNotices, [])
  | .submitMeasure _ pair first last q w track urgent =>
    some (.submitMeasure, [pair, first, last, q, w, track, urgent])
  | .submitSurvey _ pair start stop q urgent =>
    some (.submitSurvey, pair :: (sendHalf start ++ sendHalf stop ++ [q, urgent]))
  | .submitCommand _ pair housing opcode argument rest =>
    some (.submitCommand, [pair, housing, opcode] ++ sendHalf argument ++ rest)
  | .submitDark _ => some (.submitDark, [])
  | .submitSynth _ q w urgent => some (.submitSynth, [q, w, urgent])
  | .cancelJob _ job => some (.cancelJob, [job])
  | .jobStatus _ job => some (.jobStatus, [job])
  | .readResults _ offset count => some (.readResults, [offset, count])
  | .concurYes _ job => some (.concur, [job, 1#8])
  | .concurNo _ job => some (.concur, [job, 0#8])
  | .readConcur _ => some (.readConcur, [])
  | .readSignature _ pair first count => some (.readSignature, [pair, first, count])
  | .writeSignature _ pair first values => some (.writeSignature, [pair, first] ++ listOf sendHalf values)
  | .relearn _ pair first last => some (.relearn, [pair, first, last])
  | .freeze _ pair flag => some (.freeze, [pair, flag])
  | .readFindings _ (.pair n) skip => some (.readFindings, sendOptByte (some n) ++ [skip])
  | .readFindings _ .all skip => some (.readFindings, sendOptByte none ++ [skip])
  | .dismiss _ pair cls location => some (.dismiss, [pair, cls, location])
  | .setPatrol _ pair interval q w => some (.setPatrol, pair :: (sendHalf interval ++ [q, w]))
  | .readPairStats _ pair => some (.readPairStats, [pair])
  | .writeHousing _ housing presence => some (.writeHousing, [housing, presence])
  | .readHousing _ housing => some (.readHousing, [housing])
  | .routeOpen _ pair order chip drive quietBase =>
    some (.routeOpen, [pair, order, chip, drive] ++ sendHalf quietBase)
  | .routeEntries _ pair first entries => some (.routeEntries, [pair, first] ++ listOf sendEntry entries)
  | .routeClose _ pair => some (.routeClose, [pair])
  | .readRoute _ pair first count => some (.readRoute, [pair, first, count])
  | .assign _ pair owner => some (.assign, pair :: sendOptByte owner)
  | .setParams _ entries => some (.setParams, listOf sendEntry entries)
  | .setDarkModeManual _ value => some (.setDarkMode, 1#8 :: sendHalf value)
  | .setDarkModeAuto _ => some (.setDarkMode, [2#8])
  | .readFaultLog _ => some (.readFaultLog, [])
  | .clearSwitchFault _ => some (.clearSwitchFault, [])
  | .engineReset _ => some (.engineReset, [])
  | .synthDefine _ order quietBase dc noise seed mode echoes =>
    some (.synthDefine, [order] ++ sendHalf quietBase ++ sendHalf dc ++ sendHalf noise ++ sendHalf seed ++
      [mode] ++ listOf sendEcho echoes)
  | .powerOn _ | .engineResetPin | .portReset _ | .portResetRelease _ _ | .frameMalformed _
  | .settleEnd _ | .fillEnd | .periodBoundary | .accumulationEnd _ | .darkSamplingEnd | .wordEnd
  | .slotStart | .slotResult | .exchangeEnd | .patrolTimerExpiry _ | .suspectExpiryCheck
  | .concurDeadline _ | .sampleStrobe _ | .lineTimeTick | .responseReadOut _ _ => none

/-- The frame that carries a request: kind byte, body length, body (R168). -/
def requestFrame (i : Instr) : Option (List Byte) :=
  (requestBody i).map (fun b => u8 (kindCode b.1) ++ u16 b.2.length ++ b.2)

end Sys2Proof.Machine
end

