-- ==== Sys2Proof/Machine/Ports.lean ====
section
/-! DEFINITION. The port itself and the engine parameters: malformed frames, identity, status, notices,
parameters, and the bytes clocked on the port's lines (R168, R169, R173, R174, R176, R177). -/

namespace Sys2Proof.Machine

/-- FRAME_MALFORMED (R168): a frame that fails the frame check is answered MALFORMED. A frame that passes it,
or that begins with a zero byte, is none of this event and changes nothing (log 2). -/
def execFrameMalformed (frame : PortFrame) (s : State) : Host.Outcome State Fault Refusal :=
  if malformedFrame frame then takeRequest frame.port s (fun s => (s, refuse .malformed [])) else .next s

/-! ### Identity and status (R173) -/

/-- Body of IDENTIFY (R173). -/
def identityBody (port : Port) (role : Role) : List Byte :=
  u8 Config.vendorCode ++ u16 Config.partCode ++ u8 Config.revision ++ u8 port.val ++
  u8 (roleCode role) ++ u16 Config.maxBody

def reqIdentify (port : Port) (s : State) : State × Resp :=
  (s, reply .ok false (identityBody port (s.port port).role) [])

def execIdentify (port : Port) (s : State) : Host.Outcome State Fault Refusal :=
  takeRequest port s (reqIdentify port)

/-- The pass record as READ_STATUS carries it: job, kind, pair, positions and periods remaining (R56). -/
def encodePass (r : PassRecord) : List Byte :=
  u8 r.job ++ u8 (passKindCode r.kind) ++ optField (fun p : PairNo => u8 p.val) 1 r.pair ++
  u16 r.first ++ u16 r.last ++ u16 r.periodsLeft

/-- The current pair and profile in use (R25). -/
def encodeCurrent (c : PairNo × Profile) : List Byte :=
  u8 c.1.val ++ u8 c.2.order ++ u8 c.2.chipCode ++ u8 c.2.drive

/-- Job and word of an exchange that is not IDLE (R143). -/
def exchangeWord (x : Exchange) : Option (Nat × CmdWord) :=
  if x.phase = .idle then none else some (x.job, x.word)

/-- Body of READ_STATUS (R173, log 14). -/
def statusBody (port : Port) (s : State) : List Byte :=
  u48 s.lineTime ++ u8 (seqStateCode s.seq.state) ++ u8 s.seq.position ++
  optField encodeCurrent 4 s.seq.current ++ yesNo s.seq.faultHold ++
  u8 (corrStateCode s.corr.state) ++ optField encodePass 10 s.corr.pass ++
  u8 (phaseCode s.channel.exchange.phase) ++
  optField (fun x : Nat × CmdWord => u8 x.1 ++ u8 (wordCode x.2)) 2 (exchangeWord s.channel.exchange) ++
  optField u8 1 (s.active?.map Job.number) ++
  u16 s.intake.offset ++ u8 (darkStateCode s.intake.darkState) ++ u8 s.intake.refresh ++
  u8 (Config.serviceSlots - s.serviceSlotsUsed) ++ u8 (s.portSlotsUsed port) ++
  u16 (s.port port).pendingSet.toNat ++ u16 (s.port port).mask.toNat

def reqReadStatus (port : Port) (s : State) : State × Resp :=
  (s, reply .ok false (statusBody port s) [])

def execReadStatus (port : Port) (s : State) : Host.Outcome State Fault Refusal :=
  takeRequest port s (reqReadStatus port)

/-! ### Notices (R176, R177) -/

/-- READ_NOTICES (R177): the requesting kinds leave the pending set. -/
def reqReadNotices (port : Port) (s : State) : State × Resp :=
  let t := s.port port
  (s.setPort port (fun t => { t with pendingSet := t.pendingSet &&& ~~~requestingSet t }),
    reply .ok false (u16 t.pendingSet.toNat ++ u16 (requestingSet t).toNat ++ u16 t.mask.toNat) [])

def execReadNotices (port : Port) (s : State) : Host.Outcome State Fault Refusal :=
  takeRequest port s (reqReadNotices port)

/-- SET_NOTICE_MASK (R176): bits 12 to 15 of the field are ignored. -/
def reqSetNoticeMask (port : Port) (mask : Half) (s : State) : State × Resp :=
  let m : BitVec 12 := mask.setWidth 12
  (s.setPort port (fun t => { t with mask := m }),
    reply .ok false (u16 m.toNat ++ u16 (s.port port).pendingSet.toNat) [])

def execSetNoticeMask (port : Port) (mask : Half) (s : State) : Host.Outcome State Fault Refusal :=
  takeRequest port s (reqSetNoticeMask port mask)

/-- CLEAR_NOTICES (R177): the pending set is emptied, masked kinds included. -/
def reqClearNotices (port : Port) (s : State) : State × Resp :=
  (s.setPort port (fun t => { t with pendingSet := 0#12 }),
    reply .ok false (u16 (s.port port).pendingSet.toNat) [])

def execClearNotices (port : Port) (s : State) : Host.Outcome State Fault Refusal :=
  takeRequest port s (reqClearNotices port)

/-! ### Engine parameters (R174) -/

/-- A parameter entry in a body. -/
def encodeParamEntry (e : Byte × Half) : List Byte := [e.1] ++ u16 e.2.toNat

/-- The body does not fit SET_PARAMS: more than nineteen entries, or a number above 18 (R174). -/
def paramsMalformed (entries : List (Byte × Half)) : Bool :=
  decide (19 < entries.length) || entries.any (fun e => decide (18 < e.1.toNat))

/-- A write of 0 to dark_every sets the refresh count to 0 (R48, R174). -/
def clearsRefresh (used : List (Byte × Half)) : Bool :=
  used.any (fun e => e.1.toNat = 17 && e.2.toNat = 0)

/-- The parameters after a list of entries (R174). -/
def paramsAfter (entries : List (Byte × Half)) (p : Params) : Params :=
  settleWide (applyParams entries p).1

/-- The state with a new set of parameters and the refresh count that the write leaves (R48, R174). -/
def writeParams (entries : List (Byte × Half)) (s : State) : State :=
  { s with
    params := paramsAfter entries s.params
    intake := { s.intake with
      refresh := if clearsRefresh (applyParams entries s.params).2 then 0 else s.intake.refresh } }

/-- SET_PARAMS (R174). A final clamp of wide makes the answer ADJUSTED; it shows in the nineteen values, and in
the copy where an entry names wide (R172, log 18). -/
def reqSetParams (port : Port) (entries : List (Byte × Half)) (s : State) : State × Resp :=
  if paramsMalformed entries then (s, refuse .malformed [])
  else stationOnly port s
    (let a := applyParams entries s.params
     let used := paramEntriesUsed entries s.params
     let moved := used ≠ entries || settleWide a.1 ≠ a.1
     (writeParams entries s,
       reply .ok moved (encodeParams (paramsAfter entries s.params)) (listOf encodeParamEntry used)))

def execSetParams (port : Port) (entries : List (Byte × Half)) (s : State) :
    Host.Outcome State Fault Refusal :=
  takeRequest port s (reqSetParams port entries)

/-! ### Bytes on SCK, MOSI and MISO (R168, R169) -/

/-- MISO carries a byte; the bytes of one command are kept (log 27). -/
def putMiso (b : Byte) (t : PortState) : PortState := { t with miso := t.miso ++ [b] }

/-- The first byte of a CS_N period on a port with no response: a byte other than zero is the kind byte of a
request, and after a zero byte the period is ignored (R168). -/
def beginFrame (b : Byte) (t : PortState) : PortState :=
  if b = 0#8 then t else { t with frame := .receiving, received := [b], response := [] }

/-- A byte of a frame in reception: after the last one the port enters HANDLING (R168). -/
def receiveByte (b : Byte) (t : PortState) : PortState :=
  let got := t.received ++ [b]
  { t with received := got, frame := if frameEnded got then .handling else .receiving }

/-- The next unread byte of the response is shifted out; after the last one the port is IDLE (R169). -/
def shiftOut (t : PortState) : PortState :=
  { putMiso (t.response.headD 0#8) t with
    response := t.response.tail, frame := if t.response.length ≤ 1 then .idle else .responding }

/-- One byte is clocked on SCK, with `b` on MOSI (R168, R169). The kind byte of a new request shifts a byte
of the response out before it is discarded (log 16). -/
def clockByte (t : PortState) (b : Byte) : PortState :=
  let first := !t.csLow
  let t := { t with csLow := true }
  match t.frame with
  | .idle => putMiso 0#8 (if first then beginFrame b t else t)
  | .receiving => putMiso 0#8 (receiveByte b t)
  | .handling => putMiso 0#8 t
  | .responding => if first then beginFrame b (shiftOut t) else shiftOut t

/-- CS_N rises: a frame cut short enters HANDLING, where it is answered MALFORMED; a response keeps its read
position (R168, R169). -/
def riseCs (t : PortState) : PortState :=
  { t with csLow := false, frame := if t.frame = .receiving then .handling else t.frame }

/-- Bytes are clocked on a port, and CS_N may rise after them. A port held in reset ignores both, and MISO
carries filler (R178). -/
def clockPort (c : Clocking) (t : PortState) : PortState :=
  if t.prstLow then { t with miso := List.replicate c.mosi.length 0#8 }
  else
    let t := c.mosi.foldl clockByte { t with miso := [] }
    if c.rise then riseCs t else t

end Sys2Proof.Machine
end

