-- ==== Sys2Proof/Machine/Records.lean ====
section
/-! DEFINITION. Requests on the Signature Table and the finding list, and the expiry check (R87 to R89,
R91, R107, R111, R112). -/

namespace Sys2Proof.Machine

/-! ### READ_SIGNATURE (R91) -/

/-- A slice of a pair's entries (R91). -/
def encodeSigSlice (s : State) (p : PairNo) (first count : Nat) : List Byte :=
  let last := min (first + count - 1) (s.pair p).n
  listOf (fun k => encodeSig k (((s.pair p).housingAt k).getD 0) (s.sigAt p k))
    (List.range' first (last + 1 - first))

def reqReadSignature (port : Port) (pair first count : Byte) (s : State) : State × Resp :=
  withPair pair s fun p =>
    if !ownerOrStation s port p then (s, refuse .denied [])
    else if (s.pair p).state ≠ .routed then (s, refuse .invalid (pairStateDetail s p))
    else
      let n := (s.pair p).n
      let f := clamp 1 n first.toNat
      let c := clamp 1 24 count.toNat
      (s, reply .ok (f ≠ first.toNat || c ≠ count.toNat)
        (u8 n ++ u8 (freezeCode (s.frozen p)) ++ encodeSigSlice s p f c) (u8 p.val ++ u8 f ++ u8 c))

def execReadSignature (port : Port) (pair first count : Byte) (s : State) :
    Host.Outcome State Fault Refusal :=
  takeRequest port s (reqReadSignature port pair first count)

/-! ### WRITE_SIGNATURE (R88) -/

/-- An entry written by hand (R88). -/
def writtenEntry (base : Nat) (e : SigEntry) : SigEntry :=
  { e with state := .tracking, base := some base, learn := 0, drift := 0, lastDev := none }

/-- Bases written into consecutive positions (R88). -/
def writeBases (p : PairNo) : Nat → List Nat → State → State
  | _, [], s => s
  | k, v :: rest, s => writeBases p (k + 1) rest (s.setSig p k (writtenEntry v))

/-- The values of a list that are written, clamped (R88). -/
def basesUsed (n first : Nat) (values : List Half) : List Nat :=
  (values.take (n + 1 - first)).map (fun v => clamp 0 4515 v.toNat)

/-- WRITE_SIGNATURE (R88). In an ADJUSTED answer the copied list holds the values written (DESIGN CHOICE, log
35). -/
def reqWriteSignature (port : Port) (pair first : Byte) (values : List Half) (s : State) :
    State × Resp :=
  if values.length = 0 ∨ 48 < values.length then (s, refuse .malformed [])
  else withPair pair s fun p =>
    let n := (s.pair p).n
    if !ownerOrStation s port p then (s, refuse .denied [])
    else if (s.pair p).state ≠ .routed then (s, refuse .invalid (pairStateDetail s p))
    else if first.toNat < 1 ∨ n < first.toNat then (s, refuse .invalid (u8 n))
    else
      let used := basesUsed n first.toNat values
      (writeBases p first.toNat used s,
        reply .ok (used ≠ values.map BitVec.toNat) (u8 used.length)
          (u8 p.val ++ u8 first.toNat ++ listOf u16 used))

def execWriteSignature (port : Port) (pair first : Byte) (values : List Half) (s : State) :
    Host.Outcome State Fault Refusal :=
  takeRequest port s (reqWriteSignature port pair first values)

/-! ### RELEARN and FREEZE (R87, R89) -/

def reqRelearn (port : Port) (pair first last : Byte) (s : State) : State × Resp :=
  withPair pair s fun p =>
    if !owns s port p then (s, refuse .denied [])
    else if (s.pair p).state ≠ .routed then (s, refuse .invalid (pairStateDetail s p))
    else
      let r := clampRange 1 (s.pair p).n first.toNat last.toNat
      (relearnRange p r.1 r.2 s,
        reply .ok (r ≠ (first.toNat, last.toNat)) (u8 r.1 ++ u8 r.2) (u8 p.val ++ u8 r.1 ++ u8 r.2))

def execRelearn (port : Port) (pair first last : Byte) (s : State) : Host.Outcome State Fault Refusal :=
  takeRequest port s (reqRelearn port pair first last)

/-- The pair's freeze flag written (R87). -/
def setFreeze (p : PairNo) (b : Bool) (s : State) : State :=
  { s with sig := { s.sig with freeze := tableMap s.sig.freeze p.val (fun _ => b) } }

/-- The flag byte: 1 set, 2 clear (R87, R181). -/
def freezeByte (b : Byte) : Option Bool :=
  if b.toNat = 1 then some true else if b.toNat = 2 then some false else none

def reqFreeze (port : Port) (pair flag : Byte) (s : State) : State × Resp :=
  match freezeByte flag with
  | none => (s, refuse .malformed [])
  | some b =>
    withPair pair s fun p =>
      if !owns s port p then (s, refuse .denied [])
      else (setFreeze p b s, reply .ok false (u8 (freezeCode b)) [])

def execFreeze (port : Port) (pair flag : Byte) (s : State) : Host.Outcome State Fault Refusal :=
  takeRequest port s (reqFreeze port pair flag)

/-! ### READ_FINDINGS and DISMISS (R111, R112) -/

/-- The selector as carried in a copy: a field that may hold no pair number (log 15). -/
def encodeSelector : Selector → List Byte
  | .pair n => u8 1 ++ u8 n.toNat
  | .all => u8 0 ++ u8 0

/-- Entries that ALL selects for a port (R112). -/
def allSelected (s : State) (port : Port) : List Finding :=
  if isStation s port then s.findings else s.findings.filter (fun f => owns s port f.pair)

/-- The answer to READ_FINDINGS from the entries the selector matches (R112). -/
def findingsResp (selector : Selector) (skip : Byte) (found : List Finding) (s : State) : Resp :=
  let k := clamp 0 31 skip.toNat
  reply .ok (k ≠ skip.toNat)
    (u8 found.length ++ u8 s.findings.length ++ listOf encodeFinding ((found.drop k).take 24))
    (encodeSelector selector ++ u8 k)

def reqReadFindings (port : Port) (selector : Selector) (skip : Byte) (s : State) : State × Resp :=
  match selector with
  | .all => (s, findingsResp selector skip (allSelected s port) s)
  | .pair n =>
    withPair n s fun p =>
      if !ownerOrStation s port p then (s, refuse .denied [])
      else (s, findingsResp selector skip (s.findings.filter (fun f => f.pair = p)) s)

def execReadFindings (port : Port) (selector : Selector) (skip : Byte) (s : State) :
    Host.Outcome State Fault Refusal :=
  takeRequest port s (reqReadFindings port selector skip)

/-- The finding removed from the list (R111). -/
def dismiss (p : PairNo) (c : FindingClass) (k : Nat) (s : State) : State :=
  { s with findings := s.findings.filter (fun f => !f.isAt p c k) }

def reqDismiss (port : Port) (pair cls location : Byte) (s : State) : State × Resp :=
  match classOf cls.toNat with
  | none => (s, refuse .malformed [])
  | some c =>
    withPair pair s fun p =>
      if !ownerOrStation s port p then (s, refuse .denied [])
      else if (s.pair p).state ≠ .routed then (s, refuse .invalid (pairStateDetail s p))
      else if s.findings.any (fun f => f.isAt p c location.toNat) then
        (dismiss p c location.toNat s, reply .ok false [] [])
      else (s, refuse .noSuch [])

def execDismiss (port : Port) (pair cls location : Byte) (s : State) :
    Host.Outcome State Fault Refusal :=
  takeRequest port s (reqDismiss port pair cls location)

/-! ### The expiry check (R107) -/

/-- A check falls at each whole second of line time (R107). -/
def expiryDue (s : State) : Bool := s.lineTime % 1000 = 0

/-- The check removes every expired SUSPECT (R107). -/
def expiryState (s : State) : State :=
  if expiryDue s then
    { s with findings := s.findings.filter (fun f => !expired s.lineTime s.params.suspectTtl f) }
  else s

def execSuspectExpiryCheck (s : State) : Host.Outcome State Fault Refusal := .next (expiryState s)

end Sys2Proof.Machine
end

