-- ==== Sys2Proof/Machine/Resets.lean ====
section
/-! DEFINITION. The resets: power-on, engine reset, port reset and its release (R35, R49, R136, R137, R170,
R178 to R180). -/

namespace Sys2Proof.Machine

/-! ### Power-on (R180) -/

/-- A port at power-on with its strap's role (R170, R180). The level of PRST_N is a line of the card, so
POWER_ON leaves it as it is (log 6). -/
def portAtPowerOn (straps : BitVec 4) (s : State) (p : Port) : PortState :=
  PortState.powerOn (Role.ofStrap p (straps.getLsbD p.val)) (s.port p).prstLow

/-- Every block at its power-on values (R180). SW_STB is pulsed where the switch was not at 16 (R23), so the
count of its pulses carries on (log 22). -/
def clearedFrom (straps : BitVec 4) (s : State) : State :=
  { State.cleared
      ⟨#[portAtPowerOn straps s 0, portAtPowerOn straps s 1, portAtPowerOn straps s 2,
         portAtPowerOn straps s 3], rfl⟩ s.pending with
    seq := resetSequencer s.seq }

/-- Power-on (R180): every block takes its power-on values, then the start-up DARK job is queued and the
arbiter decides (R49, R122). -/
def powerOnState (straps : BitVec 4) (s : State) : State := arbitrate (queueDark (clearedFrom straps s))

def execPowerOn (straps : BitVec 4) (s : State) : Host.Outcome State Fault Refusal :=
  .next (powerOnState straps s)

/-! ### Engine reset (R179) -/

/-- Every toggle of a housing becomes UNKNOWN (R1). -/
def forgetToggles (h : Housing) : Housing := { h with toggle := Vector.replicate 8 none }

/-- A list in FILLING becomes PARTIAL (R137). -/
def interruptList (l : ResultList) : ResultList :=
  if l.state = .filling then { l with state := .partialEnd } else l

/-- The patrol timers after an engine reset: restarted on every ROUTED pair (R128). -/
def resetPatrols (s : State) : Vector Patrol 16 :=
  Vector.ofFn (fun p => if (s.pair p).state = .routed then restartPatrol s.lineTime s.sched.patrols[p]
    else s.sched.patrols[p])

/-- The scheduler after an engine reset (R137). -/
def resetScheduler (s : State) : Scheduler :=
  { s.sched with
    jobs := [], lastUrgent := .internal, lastRoutine := .internal, patrols := resetPatrols s
    results := s.sched.results.map interruptList }

/-- The noise register after an engine reset: loaded from the held seed (R182). -/
def resetSynth (l : SynthLine) : SynthLine :=
  match l.defn with
  | some d => { l with noise := BitVec.ofNat 16 d.seed }
  | none => l

/-- The blocks after an engine reset, before a DARK job is queued (R1, R35, R41, R56, R137, R143, R167,
R182). -/
def clearWork (s : State) : State :=
  { s with
    lineMap := { s.lineMap with housings := s.lineMap.housings.map forgetToggles }
    seq := resetSequencer s.seq
    intake := { s.intake with refresh := 0, acc := none }
    corr := Correlator.idleReset
    sched := resetScheduler s
    channel := { exchange := Exchange.none, concur := [] }
    synth := resetSynth s.synth }

/-- An engine reset (R179): ENGINE_RESET is raised on all four ports, and while the dark state is
UNCALIBRATED an internal DARK job is queued (R49) and the arbiter decides. -/
def engineResetState (s : State) : State :=
  let s := raiseAll .engineReset [0, 1, 2, 3] (clearWork s)
  if s.intake.darkState = .uncalibrated then arbitrate (queueDark s) else s

def execEngineResetPin (s : State) : Host.Outcome State Fault Refusal := .next (engineResetState s)

/-- ENGINE_RESET (R179): a station request; its body is the line time of the reset. -/
def reqEngineReset (port : Port) (s : State) : State × Resp :=
  stationOnly port s (engineResetState s, reply .ok false (u48 s.lineTime) [])

def execEngineReset (port : Port) (s : State) : Host.Outcome State Fault Refusal :=
  takeRequest port s (reqEngineReset port)

/-! ### Port reset (R136, R178) -/

/-- A job that a reset of its requester's port removes: every one but an ACTIVE one (R136). -/
def removedByReset (p : Port) (j : Job) : Bool := j.requester = .port p && j.state ≠ .active

/-- The scheduler and the concurrence table after a port reset (R136, R164). -/
def dropPortJobs (p : Port) (s : State) : State :=
  let gone := (s.sched.jobs.filter (removedByReset p)).map Job.number
  let s := s.setJobs (s.sched.jobs.filter (fun j => !removedByReset p j))
  let s := { s with channel := { s.channel with
    concur := s.channel.concur.filter (fun r => !gone.contains r.job) } }
  s.setResults p (fun l => if (l.job.map (fun n => gone.contains n)).getD false then interruptList l else l)

/-- The port after its own reset (R169, R178): it ignores CS_N and SCK, so no period of CS_N runs (log 16). -/
def resetPort (t : PortState) : PortState :=
  { t with
    frame := .idle, csLow := false, received := [], response := [], pendingSet := 0#12, mask := 0#12
    prstLow := true }

/-- A port reset (R178): the port, then its jobs, and the arbiter decides if the path is free (R136, log
25). A line that is low already does not fall (log 2). -/
def portResetState (p : Port) (s : State) : State :=
  if (s.port p).prstLow then s else arbitrate (dropPortJobs p (s.setPort p resetPort))

def execPortReset (port : Port) (s : State) : Host.Outcome State Fault Refusal :=
  .next (portResetState port s)

/-- The release of PRST_N (R178): the role is fixed again from the strap and PORT_READY is raised. -/
def portReleaseState (p : Port) (strap : Bool) (s : State) : State :=
  if (s.port p).prstLow then
    raiseNotice .portReady p
      (s.setPort p (fun t => { t with prstLow := false, role := Role.ofStrap p strap }))
  else s

def execPortResetRelease (port : Port) (strap : Bool) (s : State) : Host.Outcome State Fault Refusal :=
  .next (portReleaseState port strap s)

end Sys2Proof.Machine
end

