-- ==== Sys2Proof/Machine/Handling.lean ====
section
/-! DEFINITION. The bytes clocked on a port: the request they spell is taken as the port enters HANDLING, and
HANDLING ends when no command waits (R168, log 1). -/

namespace Sys2Proof.Machine

/-- The meaning of the request that a frame spells (R170), by its command; the other commands have no
frame. -/
def requestMeaning (i : Instr) (s : State) : Host.Outcome State Fault Refusal :=
  match i with
  | .frameMalformed frame => execFrameMalformed frame s
  | .identify port => execIdentify port s
  | .readStatus port => execReadStatus port s
  | .readNotices port => execReadNotices port s
  | .setNoticeMask port mask => execSetNoticeMask port mask s
  | .clearNotices port => execClearNotices port s
  | .submitMeasure port pair first last q w track urgent =>
    execSubmitMeasure port pair first last q w track urgent s
  | .submitSurvey port pair start stop q urgent => execSubmitSurvey port pair start stop q urgent s
  | .submitCommand port pair housing opcode argument rest =>
    execSubmitCommand port pair housing opcode argument rest s
  | .submitDark port => execSubmitDark port s
  | .submitSynth port q w urgent => execSubmitSynth port q w urgent s
  | .cancelJob port job => execCancelJob port job s
  | .jobStatus port job => execJobStatus port job s
  | .readResults port offset count => execReadResults port offset count s
  | .concurYes port job => execConcurYes port job s
  | .concurNo port job => execConcurNo port job s
  | .readConcur port => execReadConcur port s
  | .readSignature port pair first count => execReadSignature port pair first count s
  | .writeSignature port pair first values => execWriteSignature port pair first values s
  | .relearn port pair first last => execRelearn port pair first last s
  | .freeze port pair flag => execFreeze port pair flag s
  | .readFindings port selector skip => execReadFindings port selector skip s
  | .dismiss port pair cls location => execDismiss port pair cls location s
  | .setPatrol port pair interval q w => execSetPatrol port pair interval q w s
  | .readPairStats port pair => execReadPairStats port pair s
  | .writeHousing port housing presence => execWriteHousing port housing presence s
  | .readHousing port housing => execReadHousing port housing s
  | .routeOpen port pair order chip drive quietBase => execRouteOpen port pair order chip drive quietBase s
  | .routeEntries port pair first entries => execRouteEntries port pair first entries s
  | .routeClose port pair => execRouteClose port pair s
  | .readRoute port pair first count => execReadRoute port pair first count s
  | .assign port pair owner => execAssign port pair owner s
  | .setParams port entries => execSetParams port entries s
  | .setDarkModeManual port value => execSetDarkModeManual port value s
  | .setDarkModeAuto port => execSetDarkModeAuto port s
  | .readFaultLog port => execReadFaultLog port s
  | .clearSwitchFault port => execClearSwitchFault port s
  | .engineReset port => execEngineReset port s
  | .synthDefine port order quietBase dc noise seed mode echoes =>
    execSynthDefine port order quietBase dc noise seed mode echoes s
  | .powerOn _ | .engineResetPin | .portReset _ | .portResetRelease _ _ | .settleEnd _ | .fillEnd |
  .periodBoundary | .accumulationEnd _ | .darkSamplingEnd | .wordEnd | .slotStart | .slotResult |
  .exchangeEnd | .patrolTimerExpiry _ | .suspectExpiryCheck | .concurDeadline _ | .sampleStrobe _ |
  .lineTimeTick | .responseReadOut _ _ => .next s

/-- The state in which a received frame is taken: the port stands ready for the request. -/
def readyPort (p : Port) (s : State) : State := s.setPort p (fun t => { t with frame := .idle })

/-- HANDLING holds the response just formed, and the CS_N period in which the frame came goes on (R168). -/
def enterHandling (p : Port) (low : Bool) (s : State) : State :=
  s.setPort p (fun t => { t with frame := .handling, csLow := low })

/-- A port enters HANDLING: its frame is checked, and the request it spells is taken at that moment (R168,
R170). -/
def takeFrame (p : Port) (s : State) : Host.Outcome State Fault Refusal :=
  match requestMeaning (frameCommand ⟨p, (s.port p).received⟩) (readyPort p s) with
  | .next t => .next (enterHandling p (s.port p).csLow t)
  | .fault f => .fault f
  | .refused r => .refused r

/-- Bytes clocked on a port end the reception of a frame (R168). -/
def endsFrame (clocked : Clocking) (t : PortState) : Bool :=
  t.frame ≠ .handling && (clockPort clocked t).frame = .handling

/-- RESPONSE_READ_OUT (R168, R169): bytes are clocked, and CS_N may rise after them. What follows a frame in
the same command is ignored on MOSI and meets filler on MISO, so it plays no part in the request. -/
def execResponseReadOut (port : Port) (clocked : Clocking) (s : State) :
    Host.Outcome State Fault Refusal :=
  let t := s.setPort port (clockPort clocked)
  if endsFrame clocked (s.port port) then takeFrame port t else .next t

/-- HANDLING ends: the port enters RESPONDING with the response formed (R168, log 1). -/
def endHandling (t : PortState) : PortState :=
  { t with frame := if t.frame = .handling then .responding else t.frame }

/-- With no command waiting, HANDLING ends on every port that is in it; nothing else happens (log 1). -/
def idleStep (s : State) : Host.Outcome State Fault Refusal :=
  .next { s with ports := s.ports.map endHandling }

end Sys2Proof.Machine
end

