-- ==== Sys2Proof/Machine/Sequence.lean ====
section
/-! DEFINITION. The events of the probe sequence: settle ends, fills, boundaries, the end of a pass, sample
strobes and the millisecond (R18, R24, R27, R29, R36 to R38, R43, R57 to R60, R183, R184). An event that is
not due changes nothing (log 2). -/

namespace Sys2Proof.Machine

/-! ### SETTLE_END (R24) -/

/-- A settle runs to its end at this line time (R23). -/
def settleDue (s : State) : Option Order :=
  if s.seq.state = .settling ∧ s.seq.settleEnd ≤ s.lineTime then s.seq.goal else none

/-- The check at a settle end (R24, R30). -/
def settleEndState (fb : BitVec 5) (s : State) : State :=
  match settleDue s with
  | none => s
  | some goal =>
    if feedbackOk s.seq fb then afterSettle (settleInto goal s)
    else if s.seq.position < 16 then arbitrate (faultOnPair s)
    else settleInto goal (takeFault s)

def execSettleEnd (feedback : BitVec 5) (s : State) : Host.Outcome State Fault Refusal :=
  .next (settleEndState feedback s)

/-! ### Boundaries (R20) -/

/-- The boundary is taken (R20). -/
def tookBoundary (s : State) : State := { s with seq := takeBoundary s.seq }

def setCorr (c : Correlator) (s : State) : State := { s with corr := c }

/-- A pass ARMED for the run that has reached steady state starts on this boundary (R57). -/
def startsPass (s : State) : Bool :=
  s.corr.state = .armed &&
    (match s.corr.pass with
     | some r =>
       match r.pair with
       | some p => s.seq.state = .steady && s.seq.current.map Prod.fst = some p
       | none => s.seq.state = .dark && s.seq.work = .chips && s.seq.filled
     | none => false)

/-- ACCUMULATE is entered where a pass waits for this boundary (R57). -/
def startPass (s : State) : State :=
  if startsPass s then setCorr { s.corr with state := .accumulate } s else s

/-- The fill has ended: STEADY, or a synthetic run filled (R27, R29). -/
def endFill (s : State) : State :=
  if s.seq.state = .filling then { s with seq := { s.seq with state := .steady } }
  else { s with seq := { s.seq with filled := true } }

def fillEndState (s : State) : State :=
  if boundaryKind s = some .fillEnd then startPass (endFill (tookBoundary s)) else s

def execFillEnd (s : State) : Host.Outcome State Fault Refusal := .next (fillEndState s)

/-- One period of a pass or of a slot has ended (R58, R74). -/
def countPeriod (c : Correlator) : Correlator :=
  match c.state with
  | .accumulate =>
    { c with pass := c.pass.map (fun r => { r with periodsLeft := r.periodsLeft - 1 }) }
  | .slot =>
    { c with slot := c.slot.map (fun u => { u with periodsLeft := u.periodsLeft.map (fun k => k - 1) }) }
  | .idle | .armed | .evaluate => c

/-- A boundary that neither ends a fill or an accumulation nor begins or ends a slot (R57, R58, R74). -/
def periodBoundaryState (s : State) : State :=
  if boundaryKind s = some .plain then
    let s := tookBoundary s
    if s.corr.state = .armed then startPass s else setCorr (countPeriod s.corr) s
  else s

def execPeriodBoundary (s : State) : Host.Outcome State Fault Refusal := .next (periodBoundaryState s)

/-! ### ACCUMULATION_END (R59, R60) -/

/-- The pass is evaluated and the job driver decides (R60, R67, R124, R156). -/
def evaluateAndGoOn (rec : PassRecord) (s : State) : State := afterPass rec (evaluatePass rec s)

/-- The end of a pass: the switch check, then the evaluation or the discard (R24, R30, R59). -/
def accumulationEndState (fb : BitVec 5) (s : State) : State :=
  match endingPass s with
  | none => s
  | some rec =>
    let s := tookBoundary s
    if feedbackOk s.seq fb then evaluateAndGoOn rec s
    else if s.seq.position < 16 then arbitrate (faultOnPair s)
    else evaluateAndGoOn rec (takeFault s)

def execAccumulationEnd (feedback : BitVec 5) (s : State) : Host.Outcome State Fault Refusal :=
  .next (accumulationEndState feedback s)

/-! ### SAMPLE_STROBE (R22, R36) -/

/-- Chips are being sent or run (R21, R22). -/
def chipsRun (q : Sequencer) : Bool :=
  q.running && (q.state = .filling || q.state = .steady || (q.state = .dark && q.work = .chips))

/-- Sum of the echoes of a definition at the chip at a ring position (R183). -/
def echoSum (d : SynthDef) (ring : BitVec 32768) (at_ : Nat) : Nat :=
  (d.echoes.map (fun e => e.amp * (ringBack ring at_ e.lag).toNat)).sum

/-- A raw synthetic sample, clamped to the ADC's range (R183). -/
def synthSample (d : SynthDef) (noise : BitVec 16) (ring : BitVec 32768) (at_ : Nat) : Nat :=
  clamp 0 16383 ((d.dc : Int) + (echoSum d ring at_ : Int) + noiseTerm noise d.noise).toNat

/-- A clip in a pass's count, saturating at 65535 (R38). -/
def countClip (raw : Nat) (r : PassRecord) : PassRecord :=
  if isClip raw then { r with clips := saturating 65535 r.clips } else r

/-- A raw sample at the chip at a ring position is put to its use in the Correlator (R36 to R38, R58,
R74). -/
def takeSample (raw : Nat) (ring : BitVec 32768) (at_ : Nat) (c : Correlator) : Correlator :=
  match c.state, c.pass, c.slot with
  | .accumulate, some r, _ =>
    { c with
      pass := some (countClip raw r)
      cells := accumulate ring at_ ((raw : Int) - r.offset) c.cells }
  | .slot, _, some su =>
    if su.periodsLeft.isSome then
      { c with cells := accumulate ring at_ ((raw : Int) - su.offset) c.cells }
    else c
  | _, _, _ => c

/-- One dark sample (R43). -/
def addDark (raw : Nat) (a : DarkAcc) : DarkAcc :=
  { count := a.count + 1, sum := a.sum + raw, clips := a.clips + (isClip raw).toNat }

/-- A dark sample is taken while fewer than D have been (R43). -/
def darkSample (raw : Nat) (i : Intake) : Intake :=
  { i with acc := i.acc.map (fun a => if a.count < 2 ^ i.dd then addDark raw a else a) }

/-- The synthetic line steps its noise register and gives the raw sample; on a pair the ADC gives it
(R36, R183, R184). -/
def rawSample (adc : BitVec 14) (ring : BitVec 32768) (at_ : Nat) (s : State) : Nat × SynthLine :=
  match s.seq.state, s.synth.defn with
  | .dark, some d =>
    let noise := noiseStep s.synth.noise
    (synthSample d noise ring at_, { s.synth with noise := noise })
  | _, _ => (adc.toNat, s.synth)

/-- The strobe of a chip: the chip is sent, and its sample is put to its use (R19, R21, R36). -/
def chipStrobe (adc : BitVec 14) (s : State) : State :=
  let q := sendChip s.seq
  let raw := rawSample adc q.ring s.seq.wp s
  { s with seq := q, synth := raw.2, corr := takeSample raw.1 q.ring s.seq.wp s.corr }

/-- A strobe: at a chip whose boundary has been taken, or in dark sampling (R22, R29, log 3). -/
def strobeState (adc : BitVec 14) (s : State) : State :=
  if chipsRun s.seq then (if boundaryDue s.seq then s else chipStrobe adc s)
  else if s.seq.state = .dark ∧ s.seq.work = .sampling then
    { s with intake := darkSample adc.toNat s.intake }
  else s

def execSampleStrobe (adc : BitVec 14) (s : State) : Host.Outcome State Fault Refusal :=
  .next (strobeState adc s)

/-! ### LINE_TIME_TICK (R18) -/

def execLineTimeTick (s : State) : Host.Outcome State Fault Refusal :=
  .next { s with lineTime := s.lineTime + 1 }

end Sys2Proof.Machine
end

