-- ==== Sys2Proof/Machine/Slots.lean ====
section
/-! DEFINITION. The events of a command exchange: the word end, reply slots and the exchange end (R28, R73
to R75, R144, R155). An event that is not due changes nothing (log 2). -/

namespace Sys2Proof.Machine

/-! ### WORD_END (R28) -/

/-- The 48th symbol has ended (R28). -/
def wordDue (s : State) : Bool :=
  s.seq.state = .tone && decide (s.seq.toneStart + Config.wordMs ≤ s.lineTime)

/-- The word end: the Command Channel's event first, then the restart or the held order (R28, R73). -/
def wordEndState (s : State) : State := if wordDue s then afterWord (enterReply s) else s

def execWordEnd (s : State) : Host.Outcome State Fault Refusal := .next (wordEndState s)

/-! ### SLOT_START and SLOT_RESULT (R74, R75) -/

/-- The slot whose accumulation the standing boundary begins or ends. -/
def slotAtBoundary (b : Boundary) (s : State) : Option SlotSetup :=
  if boundaryKind s = some b then s.corr.slot else none

/-- A slot's accumulation begins: the cells are cleared and set (R74). -/
def slotStartState (s : State) : State :=
  match slotAtBoundary .slotStart s with
  | none => s
  | some su =>
    setCorr { s.corr with slot := some { su with periodsLeft := some (2 ^ su.r) }, cells := slotCells su }
      (tookBoundary s)

def execSlotStart (s : State) : Host.Outcome State Fault Refusal := .next (slotStartState s)

/-- A slot's result joins the exchange record (R75, R143). -/
def addSlot (r : SlotResult) (s : State) : State :=
  s.setExchange { s.channel.exchange with slots := s.channel.exchange.slots ++ [r] }

/-- A slot's accumulation ends: its result is handed on, and after slot 9 the word is decided (R75,
R145). -/
def slotResultState (s : State) : State :=
  match slotAtBoundary .slotResult s with
  | none => s
  | some su =>
    let s := addSlot (slotOutcome su s.corr.cells) (tookBoundary s)
    if su.slot < 9 then
      setCorr { s.corr with slot := some { su with slot := su.slot + 1, periodsLeft := none } } s
    else decideWord su.params.retryMax (dropPass s)

def execSlotResult (s : State) : Host.Outcome State Fault Refusal := .next (slotResultState s)

/-! ### EXCHANGE_END (R144, R155) -/

/-- The observed end of slot 9 (R144). -/
def exchangeDue (s : State) : Bool :=
  s.channel.exchange.phase = .decided && s.seq.running &&
    decide (s.channel.exchange.endChip ≤ s.seq.runChips)

/-- The record returns to IDLE and the job driver takes its case (R155). -/
def exchangeEndState (s : State) : State :=
  if exchangeDue s then
    let x := s.channel.exchange
    let s := s.setExchange Exchange.none
    match s.job? x.job with
    | none => s
    | some j =>
      match j.cmd with
      | some c => afterExchange j c x s
      | none => s
  else s

def execExchangeEnd (s : State) : Host.Outcome State Fault Refusal := .next (exchangeEndState s)

end Sys2Proof.Machine
end

