-- ==== Sys2Proof/Machine/Dispatch.lean ====
section
/-! DEFINITION. The dispatch: one arm for each command, each one call of its meaning. -/

namespace Sys2Proof.Machine

def exec (i : Instr) (s : State) : Host.Outcome State Fault Refusal :=
  match i with
  | .powerOn straps => Sys2Proof.Machine.execPowerOn straps s
  | .engineResetPin => Sys2Proof.Machine.execEngineResetPin s
  | .portReset port => Sys2Proof.Machine.execPortReset port s
  | .portResetRelease port strap => Sys2Proof.Machine.execPortResetRelease port strap s
  | .frameMalformed frame => Sys2Proof.Machine.execFrameMalformed frame s
  | .identify port => Sys2Proof.Machine.execIdentify port s
  | .readStatus port => Sys2Proof.Machine.execReadStatus port s
  | .readNotices port => Sys2Proof.Machine.execReadNotices port s
  | .setNoticeMask port mask => Sys2Proof.Machine.execSetNoticeMask port mask s
  | .clearNotices port => Sys2Proof.Machine.execClearNotices port s
  | .submitMeasure port pair first last q w track urgent => Sys2Proof.Machine.execSubmitMeasure port pair first last q w track urgent s
  | .submitSurvey port pair start stop q urgent => Sys2Proof.Machine.execSubmitSurvey port pair start stop q urgent s
  | .submitCommand port pair housing opcode argument rest => Sys2Proof.Machine.execSubmitCommand port pair housing opcode argument rest s
  | .submitDark port => Sys2Proof.Machine.execSubmitDark port s
  | .submitSynth port q w urgent => Sys2Proof.Machine.execSubmitSynth port q w urgent s
  | .cancelJob port job => Sys2Proof.Machine.execCancelJob port job s
  | .jobStatus port job => Sys2Proof.Machine.execJobStatus port job s
  | .readResults port offset count => Sys2Proof.Machine.execReadResults port offset count s
  | .concurYes port job => Sys2Proof.Machine.execConcurYes port job s
  | .concurNo port job => Sys2Proof.Machine.execConcurNo port job s
  | .readConcur port => Sys2Proof.Machine.execReadConcur port s
  | .readSignature port pair first count => Sys2Proof.Machine.execReadSignature port pair first count s
  | .writeSignature port pair first values => Sys2Proof.Machine.execWriteSignature port pair first values s
  | .relearn port pair first last => Sys2Proof.Machine.execRelearn port pair first last s
  | .freeze port pair flag => Sys2Proof.Machine.execFreeze port pair flag s
  | .readFindings port selector skip => Sys2Proof.Machine.execReadFindings port selector skip s
  | .dismiss port pair cls location => Sys2Proof.Machine.execDismiss port pair cls location s
  | .setPatrol port pair interval q w => Sys2Proof.Machine.execSetPatrol port pair interval q w s
  | .readPairStats port pair => Sys2Proof.Machine.execReadPairStats port pair s
  | .writeHousing port housing presence => Sys2Proof.Machine.execWriteHousing port housing presence s
  | .readHousing port housing => Sys2Proof.Machine.execReadHousing port housing s
  | .routeOpen port pair order chip drive quietBase => Sys2Proof.Machine.execRouteOpen port pair order chip drive quietBase s
  | .routeEntries port pair first entries => Sys2Proof.Machine.execRouteEntries port pair first entries s
  | .routeClose port pair => Sys2Proof.Machine.execRouteClose port pair s
  | .readRoute port pair first count => Sys2Proof.Machine.execReadRoute port pair first count s
  | .assign port pair owner => Sys2Proof.Machine.execAssign port pair owner s
  | .setParams port entries => Sys2Proof.Machine.execSetParams port entries s
  | .setDarkModeManual port value => Sys2Proof.Machine.execSetDarkModeManual port value s
  | .setDarkModeAuto port => Sys2Proof.Machine.execSetDarkModeAuto port s
  | .readFaultLog port => Sys2Proof.Machine.execReadFaultLog port s
  | .clearSwitchFault port => Sys2Proof.Machine.execClearSwitchFault port s
  | .engineReset port => Sys2Proof.Machine.execEngineReset port s
  | .synthDefine port order quietBase dc noise seed mode echoes => Sys2Proof.Machine.execSynthDefine port order quietBase dc noise seed mode echoes s
  | .settleEnd feedback => Sys2Proof.Machine.execSettleEnd feedback s
  | .fillEnd => Sys2Proof.Machine.execFillEnd s
  | .periodBoundary => Sys2Proof.Machine.execPeriodBoundary s
  | .accumulationEnd feedback => Sys2Proof.Machine.execAccumulationEnd feedback s
  | .darkSamplingEnd => Sys2Proof.Machine.execDarkSamplingEnd s
  | .wordEnd => Sys2Proof.Machine.execWordEnd s
  | .slotStart => Sys2Proof.Machine.execSlotStart s
  | .slotResult => Sys2Proof.Machine.execSlotResult s
  | .exchangeEnd => Sys2Proof.Machine.execExchangeEnd s
  | .patrolTimerExpiry pair => Sys2Proof.Machine.execPatrolTimerExpiry pair s
  | .suspectExpiryCheck => Sys2Proof.Machine.execSuspectExpiryCheck s
  | .concurDeadline job => Sys2Proof.Machine.execConcurDeadline job s
  | .sampleStrobe adc => Sys2Proof.Machine.execSampleStrobe adc s
  | .lineTimeTick => Sys2Proof.Machine.execLineTimeTick s
  | .responseReadOut port clocked => Sys2Proof.Machine.execResponseReadOut port clocked s

end Sys2Proof.Machine
end

