-- ==== Sys2Proof/Machine/Step.lean ====
section
/-! DEFINITION. One step: the command at the front of the queue is taken (log 1). -/

namespace Sys2Proof.Machine

/-- The state without its queue's front command. -/
def State.withPending (s : State) (q : List Instr) : State := { s with pending := q }

/-- One step of the block: the command that has waited longest is carried out, whole; with none waiting, the
ports in HANDLING come to its end (log 1). -/
def step (s : State) : Host.Outcome State Fault Refusal :=
  match s.pending with
  | [] => idleStep s
  | c :: rest => exec c (s.withPending rest)

/-- The state with the command a word spells in front of the queue; unchanged where it spells none, as
every word does here (log 4). -/
def State.withFetchWord (s : State) (nbits w : Nat) : State :=
  match decodeTableWord nbits w with
  | some c => s.withPending (c :: s.pending)
  | none => s

end Sys2Proof.Machine
end

