-- ==== Sys2Proof/Safety.lean ====
section
/-! DEFINITION. What the statements speak of: the laws of the guide as predicates on a state, and which
commands are requests of a port. -/

namespace Sys2Proof

/-- The port a request is taken on; none for the resets, the events and the reading of a response. -/
def Instr.requestPort : Instr → Option Port
  | .frameMalformed ⟨p, _⟩ | .identify p | .readStatus p | .readNotices p | .setNoticeMask p _
  | .clearNotices p | .submitMeasure p _ _ _ _ _ _ _ | .submitSurvey p _ _ _ _ _
  | .submitCommand p _ _ _ _ _ | .submitDark p | .submitSynth p _ _ _ | .cancelJob p _
  | .jobStatus p _ | .readResults p _ _ | .concurYes p _ | .concurNo p _ | .readConcur p
  | .readSignature p _ _ _ | .writeSignature p _ _ _ | .relearn p _ _ _ | .freeze p _ _
  | .readFindings p _ _ | .dismiss p _ _ _ | .setPatrol p _ _ _ _ | .readPairStats p _
  | .writeHousing p _ _ | .readHousing p _ | .routeOpen p _ _ _ _ _ | .routeEntries p _ _ _
  | .routeClose p _ | .readRoute p _ _ _ | .assign p _ _ | .setParams p _ | .setDarkModeManual p _
  | .setDarkModeAuto p | .readFaultLog p | .clearSwitchFault p | .engineReset p
  | .synthDefine p _ _ _ _ _ _ _ => some p
  | .powerOn _ | .engineResetPin | .portReset _ | .portResetRelease _ _ | .settleEnd _ | .fillEnd
  | .periodBoundary | .accumulationEnd _ | .darkSamplingEnd | .wordEnd | .slotStart | .slotResult
  | .exchangeEnd | .patrolTimerExpiry _ | .suspectExpiryCheck | .concurDeadline _ | .sampleStrobe _
  | .lineTimeTick | .responseReadOut _ _ => none

/-- A request marked station in the catalogue whose frame is well formed (R168, R170, R171). -/
def Instr.stationRequest : Instr → Bool
  | .submitDark _ | .routeOpen _ _ _ _ _ _ | .routeClose _ _ | .assign _ _ _ | .setDarkModeManual _ _
  | .setDarkModeAuto _ | .readFaultLog _ | .clearSwitchFault _ | .engineReset _ => true
  | .submitSynth _ _ _ urgent => decide (urgent.toNat ≤ 1)
  | .writeHousing _ _ presence => decide (1 ≤ presence.toNat ∧ presence.toNat ≤ 2)
  | .routeEntries _ _ _ entries => decide (1 ≤ entries.length ∧ entries.length ≤ 48)
  | .setParams _ entries =>
    decide (entries.length ≤ 19) && entries.all (fun e => decide (e.1.toNat ≤ 18))
  | .synthDefine _ _ _ _ _ _ mode echoes =>
    decide (1 ≤ mode.toNat ∧ mode.toNat ≤ 2 ∧ 1 ≤ echoes.length ∧ echoes.length ≤ 8)
  | .powerOn _ | .engineResetPin | .portReset _ | .portResetRelease _ _ | .frameMalformed _
  | .identify _ | .readStatus _ | .readNotices _ | .setNoticeMask _ _ | .clearNotices _
  | .submitMeasure _ _ _ _ _ _ _ _ | .submitSurvey _ _ _ _ _ _ | .submitCommand _ _ _ _ _ _
  | .cancelJob _ _ | .jobStatus _ _ | .readResults _ _ _ | .concurYes _ _ | .concurNo _ _
  | .readConcur _ | .readSignature _ _ _ _ | .writeSignature _ _ _ _ | .relearn _ _ _ _
  | .freeze _ _ _ | .readFindings _ _ _ | .dismiss _ _ _ _ | .setPatrol _ _ _ _ _
  | .readPairStats _ _ | .readHousing _ _ | .readRoute _ _ _ _ | .settleEnd _ | .fillEnd
  | .periodBoundary | .accumulationEnd _ | .darkSamplingEnd | .wordEnd | .slotStart | .slotResult
  | .exchangeEnd | .patrolTimerExpiry _ | .suspectExpiryCheck | .concurDeadline _ | .sampleStrobe _
  | .lineTimeTick | .responseReadOut _ _ => false

namespace Machine

/-- The request a command carries into the machine: for bytes that end a frame, the request the frame spells;
every other command is its own request (R168). -/
def carried (c : Instr) (s : State) : Instr :=
  match c with
  | .responseReadOut p clocked =>
    if endsFrame clocked (s.port p) then frameCommand ⟨p, (clockPort clocked (s.port p)).received⟩
    else c
  | _ => c

/-- Two findings share pair, class and location (R95). -/
def Finding.samePlace (f g : Finding) : Prop := f.pair = g.pair ∧ f.cls = g.cls ∧ f.location = g.location

/-- The law of R95: at most 32 findings, no two at one pair, class and location. -/
def FindingsLaw (s : State) : Prop :=
  s.findings.length ≤ 32 ∧ s.findings.Pairwise (fun f g => ¬ f.samePlace g)

/-- The law of R11 for one pair record: lags strictly increase, and the four quiet lags lie above the
last lag and below L. -/
def RouteLaw (p : Pair) : Prop :=
  p.state = .routed →
    1 ≤ p.n ∧
    (p.route.map RouteEntry.lag).Pairwise (· < ·) ∧
    (p.route.map RouteEntry.housing).Nodup ∧
    (∀ e ∈ p.route, e.lag < p.quietBase) ∧
    p.quietBase + 3 < seqLength p.profile.order

/-- The law of R41: the dark offset lies in 0 to 16383; the sum of an accumulation is bounded by its
count (R43). -/
def DarkLaw (s : State) : Prop :=
  s.intake.offset ≤ 16383 ∧ ∀ a, s.intake.acc = some a → a.sum ≤ a.count * 16383

/-- Every engine parameter lies in its range, and stable is at most wide (R83, R174). -/
def ParamsLaw (p : Params) : Prop :=
  (1 ≤ p.settle ∧ p.settle ≤ 255) ∧ p.clipLimit ≤ 65535 ∧ (8 ≤ p.snrQ ∧ p.snrQ ≤ 255) ∧
  (1 ≤ p.stable ∧ p.stable ≤ 500) ∧ (p.stable ≤ p.wide ∧ p.wide ≤ 1000) ∧
  (1 ≤ p.step ∧ p.step ≤ 100) ∧ (1 ≤ p.learnN ∧ p.learnN ≤ 16) ∧
  (1 ≤ p.driftN ∧ p.driftN ≤ 255) ∧ (5 ≤ p.stepThr ∧ p.stepThr ≤ 1000) ∧
  (1 ≤ p.confirmN ∧ p.confirmN ≤ 15) ∧ (1 ≤ p.clearN ∧ p.clearN ≤ 15) ∧
  (1 ≤ p.suspectTtl ∧ p.suspectTtl ≤ 1440) ∧ p.qConfirmAdd ≤ 6 ∧ (1 ≤ p.slice ∧ p.slice ≤ 64) ∧
  p.preemptMax ≤ 255 ∧ (10 ≤ p.concurTimeout ∧ p.concurTimeout ≤ 3600) ∧ p.retryMax ≤ 7 ∧
  p.darkEvery ≤ 255 ∧ (12 ≤ p.dd ∧ p.dd ≤ 20)

/-- Kind and requester of a job agree with its slot group (R115), and a COMMAND alone has command fields
(R117). -/
def Job.kindLaw (j : Job) : Prop :=
  (j.cmd.isSome = true ↔ j.kind = .command) ∧
  match j.kind with
  | .patrol => j.requester = .internal ∧ j.pair.isSome
  | .confirm => j.requester = .internal
  | .dark => True
  | .measure | .survey | .command | .synth => j.requester ≠ .internal

/-- The laws of the slots and the path: numbers are distinct and in 1 to 255 (R116), no group of slots is
overfull (R115), and at most one job is ACTIVE (R122). -/
def JobsLaw (s : State) : Prop :=
  (s.sched.jobs.map Job.number).Nodup ∧
  (∀ j ∈ s.sched.jobs, 1 ≤ j.number ∧ j.number ≤ 255) ∧
  (∀ j ∈ s.sched.jobs, j.kindLaw) ∧
  (∀ p : Port, s.portSlotsUsed p ≤ 4) ∧
  s.serviceSlotsUsed ≤ 8 ∧
  (∀ p : PairNo, s.sched.jobs.countP (fun j => j.kind = .patrol && j.pair = some p) ≤ 1) ∧
  s.sched.jobs.countP (fun j => j.state = .active) ≤ 1

/-- The law of R160: at most four records, each of one job in WAIT_CONCUR, and each such job with one. -/
def ConcurLaw (s : State) : Prop :=
  s.channel.concur.length ≤ 4 ∧
  (s.channel.concur.map ConcurRec.job).Nodup ∧
  (∀ r ∈ s.channel.concur, ∃ j ∈ s.sched.jobs, j.number = r.job ∧ j.state = .waitConcur ∧
    j.requester = .port r.requester ∧ j.pair = some r.pair) ∧
  (∀ j ∈ s.sched.jobs, j.state = .waitConcur → ∃ r ∈ s.channel.concur, r.job = j.number)

/-- A pass belongs to the ACTIVE job, and a COMMAND's pass is its verify (R55, R122, R156). -/
def PassLaw (s : State) : Prop :=
  ∀ r, s.corr.pass = some r →
    s.channel.exchange.phase = .idle ∧
    ∃ j ∈ s.sched.jobs, j.number = r.job ∧ j.state = .active ∧ j.kind ≠ .dark ∧ j.pair = r.pair ∧
      ∀ c, j.cmd = some c → c.completed = true

/-- An exchange belongs to the ACTIVE job, on whose pair the sequencer stands (R122, R142, R143). -/
def ExchangeLaw (s : State) : Prop :=
  let x := s.channel.exchange
  (x.phase ≠ .idle →
    (∃ j ∈ s.sched.jobs, j.number = x.job ∧ j.state = .active ∧
      (∃ c, j.cmd = some c ∧ c.wordStarted = true ∧
        (c.completed = true → x.phase = .decided ∧ x.outcome = some .succeeded)) ∧
      ∃ p prof, j.pair = some p ∧ s.seq.current = some (p, prof)) ∧
    s.seq.held = none ∧
    (x.phase = .sending → s.seq.state = .tone) ∧
    (x.phase ≠ .sending → s.seq.state = .filling ∨ s.seq.state = .steady)) ∧
  (s.corr.slot ≠ none → x.phase = .reply)

/-- Where a command stands: it has completed exactly when its verify is next, and not before its first
word has started (R117, R147). -/
def CommandFields.standLaw (c : CommandFields) : Prop :=
  (c.completed = true ↔ c.next = .verify) ∧ (c.completed = true → c.wordStarted = true)

/-- One job at a time works the path, and the concurrence table agrees with the slots (R115, R122,
R160). -/
def WorkLaw (s : State) : Prop :=
  JobsLaw s ∧ ConcurLaw s ∧ PassLaw s ∧ ExchangeLaw s ∧
  ∀ j ∈ s.sched.jobs, ∀ c, j.cmd = some c → c.standLaw

/-- Consent stands for every shared-effect job that may still send a word (R160, R161, R165). -/
def ConsentLaw (s : State) : Prop :=
  (∀ r ∈ s.channel.concur, (s.pair (partner r.pair)).owner = some r.asked) ∧
  ∀ j ∈ s.sched.jobs, ∀ c p, j.cmd = some c → j.pair = some p → sharedEffect c.opcode = true →
    j.state ≠ .ended → c.completed = false →
      (c.basis = .lapsed → inExchange s j.number = true) ∧
      (c.basis ≠ .lapsed → j.state ≠ .waitConcur →
        consentCovers (s.pair (partner p)).owner j = true)

/-- The law of R165: while a shared-effect word is being sent, the partner pair has no owner, the owner
that sends it, or the owner that said yes to this job. -/
def SharedWordLaw (s : State) : Prop :=
  ∀ j ∈ s.sched.jobs, ∀ c p, j.cmd = some c → j.pair = some p → sharedEffect c.opcode = true →
    s.channel.exchange.phase = .sending → s.channel.exchange.job = j.number →
    s.channel.exchange.word ≠ .nopPrefix →
    ∀ o, (s.pair (partner p)).owner = some o →
      j.requester = .port o ∨ (c.basis = .given ∧ c.askedPort = some o)

/-- The law of the sequencer: the switch stands where its state says (R23 to R29, R31), and there is a
current pair exactly while it fills, runs or sends (R25). -/
def SequencerLaw (q : Sequencer) : Prop :=
  q.position ≤ 16 ∧ q.wp < 32768 ∧
  match q.state with
  | .parked | .dark => q.position = 16 ∧ q.current = none
  | .settling => q.current = none ∧ ∃ o, q.goal = some o ∧ orderTarget o = q.position
  | .filling | .steady | .tone => ∃ c, q.current = some c ∧ c.1.val = q.position
  | .switchFault => q.faultHold = true ∧ q.current = none

/-- The law of a signature entry (R76, R80, R89): an EMPTY entry has no base, a LEARNING entry has one
from its first level on, a TRACKING entry has one. -/
def SigEntry.law (e : SigEntry) : Prop :=
  e.drift ≤ 255 ∧
  match e.state with
  | .empty => e.base = none ∧ e.learn = 0 ∧ e.drift = 0
  | .learning => e.drift = 0 ∧ (e.base = none ↔ e.learn = 0)
  | .tracking => e.base ≠ none

/-- Route and presence of the housings of every pair in EDIT or ROUTED (R3, R10, R11). -/
def HousingsLaw (s : State) : Prop :=
  ∀ p : PairNo, (s.pair p).state ≠ .unrouted → ∀ e ∈ (s.pair p).route,
    1 ≤ e.housing ∧ e.housing ≤ 192 ∧
    ((s.pair p).state = .routed → (s.housing e.housing).presence = .present)

/-- A response with a status and a body, not ADJUSTED. -/
def plainResp (st : Status) (body : List Byte) : Resp := ⟨st, false, body⟩

end Machine

end Sys2Proof
end

