-- ==== Sys2Proof/WellFormed.lean ====
section
/-! DEFINITION. Which commands can come to the part at all: a request's body must fit the frame
(R168), and a list's entry count one byte (R181). -/

namespace Sys2Proof

/-- Body length in bytes of a request whose body holds a list (R181); the other requests have a fixed
short body. -/
def Instr.listBody : Instr → Option Nat
  | .submitCommand _ _ _ _ _ rest => some (5 + rest.length)
  | .writeSignature _ _ _ values => some (3 + 2 * values.length)
  | .routeEntries _ _ _ entries => some (3 + 3 * entries.length)
  | .setParams _ entries => some (1 + 3 * entries.length)
  | .synthDefine _ _ _ _ _ _ _ echoes => some (11 + 4 * echoes.length)
  | _ => none

/-- Number of entries of a request's list (R181). -/
def Instr.listCount : Instr → Nat
  | .writeSignature _ _ _ values => values.length
  | .routeEntries _ _ _ entries => entries.length
  | .setParams _ entries => entries.length
  | .synthDefine _ _ _ _ _ _ _ echoes => echoes.length
  | _ => 0

/-- The body fits a frame of at most 512 bytes (R168). -/
def Instr.bodyFits (i : Instr) : Bool :=
  match i.listBody with
  | some n => decide (n ≤ Config.maxBody)
  | none => true

/-- The list's count fits its one byte (R181). -/
def Instr.countFits (i : Instr) : Bool := decide (i.listCount ≤ 255)

/-- The body of SUBMIT_COMMAND is 5 to 10 bytes long (R181). -/
def Instr.tailFits : Instr → Bool
  | .submitCommand _ _ _ _ _ rest => decide (rest.length ≤ 5)
  | _ => true

/-- A read-out clocks at least one byte, or ends a CS_N period (R168, R169). -/
def Instr.clocksSomething : Instr → Bool
  | .responseReadOut _ clocked => !clocked.mosi.isEmpty || clocked.rise
  | _ => true

def Instr.wellFormed (i : Instr) : Bool :=
  i.bodyFits && i.countFits && i.tailFits && i.clocksSomething

end Sys2Proof
end

