-- ==== Sys2Proof/Certificates/Slice0/Obligations.lean ====
section
/-! DEFINITION. The statements for the provers. Each is a proposition about the machine of Machine/; rules
R<n> are those of spec/, and "log n" is notes/assumptions/n.md. A request that is carried out leaves
`holdResponse port r t`: the port holds the response r (R168, R169), and t is everything else. -/

section
open Sys2Proof Sys2Proof.Machine

/-! ### The machine as a whole -/

/-- The queue is first in, first out, and no command ends the machine or touches the queue. On an empty queue
HANDLING ends on every port that is in it, and nothing else happens (R168; the length of HANDLING is the
model's choice, log 1). -/
def Obligations.StepTakesFrontCommand : Prop :=
  (∀ (c : Instr) (rest : List Instr) (s : State),
    s.pending = c :: rest → step s = exec c (s.withPending rest)) ∧
  (∀ s : State, s.pending = [] → ∃ t, step s = .next t ∧ t = { s with ports := t.ports } ∧
    ∀ p : Port, t.port p = { s.port p with
      frame := if (s.port p).frame = .handling then .responding else (s.port p).frame }) ∧
  (∀ (c : Instr) (s : State), ∃ t, exec c s = .next t ∧ t.pending = s.pending)

/-- R5, "Writers of each field": owner by ASSIGN; profile and quiet base by ROUTE_OPEN; route by ROUTE_OPEN
and ROUTE_ENTRIES; state by ROUTE_OPEN and ROUTE_CLOSE, as commands or in a frame whose last byte a command
brings (`carried`, R168). Power-on aside, no other command writes them. -/
def Obligations.PairRecordWriters : Prop :=
  ∀ (c : Instr) (s t : State) (p : PairNo), exec c s = .next t → (∀ b, c ≠ .powerOn b) →
    ((∀ a b o, carried c s ≠ .assign a b o) → (t.pair p).owner = (s.pair p).owner) ∧
    ((∀ a b o h d q, carried c s ≠ .routeOpen a b o h d q) →
      (t.pair p).profile = (s.pair p).profile ∧ (t.pair p).quietBase = (s.pair p).quietBase ∧
      ((∀ a b f l, carried c s ≠ .routeEntries a b f l) → (t.pair p).route = (s.pair p).route) ∧
      ((∀ a b, carried c s ≠ .routeClose a b) → (t.pair p).state = (s.pair p).state))

/-- Power-on aside: line time moves by the millisecond alone (R18); parameters by SET_PARAMS (R174); the
freeze flags by FREEZE (R76, R87); the dark offset by an accepted calibration and SET_DARK_MODE(MANUAL)
(R41); a role at the release of its port's reset (R170); the synthetic definition by SYNTH_DEFINE (R182).
A request may be a command or come in a frame (`carried`, R168). -/
def Obligations.SettingsWriters : Prop :=
  ∀ (c : Instr) (s t : State), exec c s = .next t → (∀ b, c ≠ .powerOn b) →
    t.lineTime = (if c = .lineTimeTick then s.lineTime + 1 else s.lineTime) ∧
    ((∀ a l, carried c s ≠ .setParams a l) → t.params = s.params) ∧
    ((∀ a b f, carried c s ≠ .freeze a b f) → t.sig.freeze = s.sig.freeze) ∧
    ((∀ a v, carried c s ≠ .setDarkModeManual a v) → c ≠ .darkSamplingEnd → t.intake.offset = s.intake.offset) ∧
    (∀ p : Port, (∀ b, c ≠ .portResetRelease p b) → (t.port p).role = (s.port p).role) ∧
    ((∀ a b d e f g h i, carried c s ≠ .synthDefine a b d e f g h i) → t.synth.defn = s.synth.defn)

/-! ### Resets -/

/-- POWER_ON from any state gives the state right after reset, with each port's role from its strap (R170,
R180), and pulses SW_STB where the switch was not at 16 (R23; the count of the pulses is the model's, log
22). The level of PRST_N stays (log 6) and the queue is the model's. What reset leaves, by the power-on values
of R1, R5, R35, R41, R49, R50, R56, R76, R95, R116, R122, R128, R131, R134, R143, R160, R168, R174, R176, R180
and R182. -/
def Obligations.PowerOnGivesResetState : Prop :=
  (∀ (straps : BitVec 4) (s : State), ∃ t, exec (.powerOn straps) s = .next t ∧
    t.pending = s.pending ∧
    t.seq.strobes = (if s.seq.position = 16 then s.seq.strobes else s.seq.strobes + 1) ∧
    (∀ p : Port, t.port p =
      { role := if p = 0 ∧ straps.getLsbD 0 = true then .station else .tenant
        pendingSet := 0x800#12, mask := 0#12, frame := .idle, csLow := false, received := []
        response := [], prstLow := (s.port p).prstLow, miso := [] }) ∧
    { t with
      ports := State.reset.ports, pending := [], seq := { t.seq with strobes := 0 } } = State.reset) ∧
  (let s := State.reset
   s.lineTime = 0 ∧ s.params = Params.default ∧
   (∀ h, s.housing h = { presence := .absent, pump := Vector.replicate 8 .unknown
                         toggle := Vector.replicate 8 none, outMute := Vector.replicate 16 false
                         retMute := Vector.replicate 16 false, loopback := Vector.replicate 16 none }) ∧
   (∀ p, s.pair p = { state := .unrouted, owner := none, profile := ⟨11, 0, 0⟩, quietBase := 0, route := [] }) ∧
   s.seq.position = 16 ∧ s.seq.current = none ∧ s.seq.faultHold = false ∧ s.seq.ring = 0#32768 ∧
   s.seq.wp = 0 ∧ s.seq.state = .dark ∧ s.seq.work = .sampling ∧
   s.intake.offset = 8192 ∧ s.intake.darkState = .uncalibrated ∧ s.intake.everCal = false ∧
   s.intake.refresh = 0 ∧ s.intake.acc = some ⟨0, 0, 0⟩ ∧
   s.corr.state = .idle ∧ s.corr.pass = none ∧ s.corr.slot = none ∧
   (∀ c ∈ s.corr.cells.toList, c = ⟨.idle, 0, none, 0, 0⟩) ∧
   (∀ p k, s.sigAt p k = ⟨.empty, none, 0, 0, .none, none, 0⟩) ∧ (∀ p, s.frozen p = false) ∧
   s.findings = [] ∧
   (∃ j, s.sched.jobs = [j] ∧ j.number = 1 ∧ j.requester = .internal ∧ j.kind = .dark ∧ j.cls = .urgent ∧
     j.state = .active) ∧
   s.sched.lastUrgent = .internal ∧ s.sched.lastRoutine = .internal ∧
   (∀ p : PairNo, s.sched.patrols[p] = ⟨0, 4, 3, none⟩) ∧ (∀ p : PairNo, s.sched.stats[p] = ⟨0, 0, 0, 0⟩) ∧
   (∀ p : Port, s.sched.results[p] = ⟨none, none, none, .complete, false, .echoes []⟩) ∧
   s.sched.faultLog = ⟨none, false⟩ ∧
   s.channel.exchange.phase = .idle ∧ s.channel.concur = [] ∧ s.synth.defn = none ∧
   (∀ p : Port, (s.port p).pendingSet = 0x800#12 ∧ (s.port p).mask = 0#12 ∧ (s.port p).frame = .idle ∧
     (s.port p).csLow = false ∧ (s.port p).received = [] ∧ (s.port p).response = []))

/-- An engine reset, on the pin and as the station's request: what it clears, what it keeps, and the DARK
job it queues while the dark state is UNCALIBRATED (R1, R35, R41, R49, R56, R128, R137, R143, R167, R179,
R182). -/
def Obligations.EngineResetClearsWork : Prop :=
  ∀ s : State, ∃ t, exec .engineResetPin s = .next t ∧
    (∀ port, s.canTake port = true → (s.port port).role = .station →
      exec (.engineReset port) s = .next (holdResponse port (plainResp .ok (u48 s.lineTime)) t)) ∧
    (∀ h g, t.toggleOf h g = none) ∧
    (∀ h, (t.housing h).presence = (s.housing h).presence ∧ (t.housing h).pump = (s.housing h).pump ∧
      (t.housing h).outMute = (s.housing h).outMute ∧ (t.housing h).retMute = (s.housing h).retMute ∧
      (t.housing h).loopback = (s.housing h).loopback) ∧
    t.lineMap.pairs = s.lineMap.pairs ∧ t.lineTime = s.lineTime ∧ t.params = s.params ∧ t.sig = s.sig ∧
    t.findings = s.findings ∧ t.pending = s.pending ∧
    t.seq.position = 16 ∧ t.seq.current = none ∧ t.seq.faultHold = false ∧ t.seq.ring = 0#32768 ∧
    t.seq.wp = 0 ∧ t.seq.strobes = (if s.seq.position = 16 then s.seq.strobes else s.seq.strobes + 1) ∧
    t.corr = Correlator.idleReset ∧
    t.channel.exchange.phase = .idle ∧ t.channel.concur = [] ∧
    t.intake.offset = s.intake.offset ∧ t.intake.darkState = s.intake.darkState ∧
    t.intake.everCal = s.intake.everCal ∧ t.intake.refresh = 0 ∧
    (if s.intake.darkState = .uncalibrated then
      t.seq.state = .dark ∧ t.seq.work = .sampling ∧ t.intake.acc = some ⟨0, 0, 0⟩ ∧
      ∃ j, t.sched.jobs = [j] ∧ j.number = nextNumber s.sched.lastNumber [] ∧ j.requester = .internal ∧
        j.kind = .dark ∧ j.cls = .urgent ∧ j.state = .active ∧ t.sched.lastNumber = j.number
    else t.seq.state = .parked ∧ t.intake.acc = none ∧ t.sched.jobs = [] ∧
      t.sched.lastNumber = s.sched.lastNumber) ∧
    t.sched.lastUrgent = .internal ∧ t.sched.lastRoutine = .internal ∧
    (∀ p : PairNo, t.sched.patrols[p].interval = s.sched.patrols[p].interval ∧
      t.sched.patrols[p].q = s.sched.patrols[p].q ∧ t.sched.patrols[p].w = s.sched.patrols[p].w ∧
      ((s.pair p).state = .routed → s.sched.patrols[p].interval ≠ 0 →
        t.sched.patrols[p].timer = some (s.lineTime + s.sched.patrols[p].interval * 60000))) ∧
    t.sched.stats = s.sched.stats ∧ t.sched.faultLog = s.sched.faultLog ∧
    (∀ p : Port, t.sched.results[p] =
      { s.sched.results[p] with
        state := if s.sched.results[p].state = .filling then .partialEnd else s.sched.results[p].state }) ∧
    (∀ p : Port, t.port p = { s.port p with pendingSet := (s.port p).pendingSet ||| 0x400#12 }) ∧
    t.synth.defn = s.synth.defn ∧
    (∀ d, s.synth.defn = some d → t.synth.noise = BitVec.ofNat 16 d.seed)

/-- A port reset acts on its own port and on that port's waiting and ENDED jobs, whose list in FILLING becomes
PARTIAL; job numbers and last grants stay, and the arbiter then decides if the path is free (R116, R122, R136,
R164, R178; log 16, log 25). At the release the role is fixed again and
PORT_READY is pending (R170, R178). -/
def Obligations.PortResetAndRelease : Prop :=
  (∀ (p : Port) (s : State), (s.port p).prstLow = false →
    ∃ u, exec (.portReset p) s = .next (arbitrate u) ∧
      u.port p = { s.port p with
        frame := .idle, csLow := false, received := [], response := [], pendingSet := 0#12, mask := 0#12
        prstLow := true } ∧
      (∀ q, q ≠ p → u.port q = s.port q) ∧
      u.sched.jobs = s.sched.jobs.filter (fun j => j.requester ≠ .port p ∨ j.state = .active) ∧
      (∀ r, r ∈ u.channel.concur ↔ r ∈ s.channel.concur ∧
        ∀ j ∈ s.sched.jobs, j.requester = .port p → j.state ≠ .active → j.number ≠ r.job) ∧
      u.channel.exchange = s.channel.exchange ∧
      (∀ q : Port, q ≠ p → u.sched.results[q] = s.sched.results[q]) ∧
      (let l := s.sched.results[p]
       let loses := ∃ j ∈ s.sched.jobs, j.requester = .port p ∧ j.state ≠ .active ∧ l.job = some j.number
       (loses → l.state = .filling → u.sched.results[p] = { l with state := .partialEnd }) ∧
       (¬ loses ∨ l.state ≠ .filling → u.sched.results[p] = l)) ∧
      u.sched.lastNumber = s.sched.lastNumber ∧ u.sched.lastUrgent = s.sched.lastUrgent ∧
      u.sched.lastRoutine = s.sched.lastRoutine ∧
      u.lineTime = s.lineTime ∧ u.params = s.params ∧ u.lineMap = s.lineMap ∧ u.seq = s.seq ∧
      u.intake = s.intake ∧ u.corr = s.corr ∧ u.sig = s.sig ∧ u.findings = s.findings ∧
      u.sched.patrols = s.sched.patrols ∧ u.sched.stats = s.sched.stats ∧
      u.sched.faultLog = s.sched.faultLog ∧ u.synth = s.synth) ∧
  (∀ (p : Port) (strap : Bool) (s : State), (s.port p).prstLow = true →
    exec (.portResetRelease p strap) s = .next (s.setPort p (fun t =>
      { t with
        prstLow := false, role := if p = 0 ∧ strap = true then .station else .tenant
        pendingSet := t.pendingSet ||| 0x800#12 })))

/-! ### The arbiter -/

/-- The choice of R122: class, then requester in the order port 0, 1, 2, 3, internal from the one after the
last granted round to that one, then greatest age; and some job is chosen whenever one is eligible. -/
def Obligations.ArbiterChoosesByClassRotationAge : Prop :=
  (∀ s : State, chooseJob s = none ↔ s.eligibleJobs = []) ∧
  (∀ (s : State) (j : Job), chooseJob s = some j →
    eligible s.seq.faultHold j = true ∧
    (j.cls = .routine → ∀ k ∈ s.sched.jobs, eligible s.seq.faultHold k = true → k.cls = .routine) ∧
    (∀ k ∈ s.sched.jobs, eligible s.seq.faultHold k = true → k.cls = j.cls →
      let last := match j.cls with
        | .urgent => s.sched.lastUrgent
        | .routine => s.sched.lastRoutine
      let place := fun r : Requester => match r with
        | .port p => p.val
        | .internal => 4
      let turn := fun r : Requester => (place r + 4 - place last) % 5
      turn j.requester ≤ turn k.requester) ∧
    ∃ older younger, s.sched.jobs = older ++ j :: younger ∧
      ∀ k ∈ older, eligible s.seq.faultHold k = true → k.cls = j.cls → k.requester ≠ j.requester)

/-- Decisions about the path: a held path is left alone and a free path goes to the chosen job (R122). An
URGENT arrival cuts a ROUTINE measuring job, or a ROUTINE COMMAND job before its first word, below
preempt_max, with the count that raises STATS_HALF from 127 (R126, R127, R134); it cuts no URGENT job, no
COMMAND after its first word, no dark work (R46) and no pass whose accumulation has ended (R60, log 32). An
accepted job takes the next number that no slot holds, 255 going back to 1, and is the youngest (R116,
R117). -/
def Obligations.PathIsGrantedOrCut : Prop :=
  (∀ (s : State) (j : Job), s.active? = some j → arbitrate s = s) ∧
  (∀ s : State, s.eligibleJobs = [] → arbitrate s = s) ∧
  (∀ (s : State) (j : Job), s.active? = none → chooseJob s = some j →
    ¬ (j.kind = .dark ∧ s.intake.darkState = .manual) → arbitrate s = startWork j (activate j s)) ∧
  (∀ (s : State) (j : Job), s.active? = some j → j.cls = .routine → j.preempts < s.params.preemptMax →
    endingPass s = none → (j.kind.measuring = true ∨ ∃ c, j.cmd = some c ∧ c.wordStarted = false) →
    ∃ u, becameEligible true s = arbitrate u ∧ u.corr = Correlator.idleReset ∧
      u.sched.jobs = s.sched.jobs.map (fun k => if k.number = j.number then
        { k with state := .suspended, preempts := min (k.preempts + 1) 255 } else k) ∧
      (∀ p, j.pair = some p →
        u.sched.stats[p] = { s.sched.stats[p] with
          preempts := min ((s.sched.stats[p]).preempts + 1) 255 } ∧
        ∀ x : Port, (u.port x).pendingSet = (s.port x).pendingSet |||
          (if (s.sched.stats[p]).preempts = 127 ∧ x = ((s.pair p).owner).getD 0 then 0x040#12
          else 0#12)) ∧
      (j.pair = none → u.sched.stats = s.sched.stats ∧ u.ports = s.ports) ∧
      u.seq = s.seq ∧ u.sig = s.sig ∧ u.findings = s.findings ∧ u.sched.results = s.sched.results) ∧
  (∀ (s : State) (j : Job), s.active? = some j →
    (j.cls = .urgent ∨ s.params.preemptMax ≤ j.preempts ∨ endingPass s ≠ none ∨
      (j.kind.measuring = false ∧ ∀ c, j.cmd = some c → c.wordStarted = true)) →
    becameEligible true s = s) ∧
  (∀ (s : State) (j : Job), (s.addJob j).sched.jobs =
      s.sched.jobs ++ [{ j with number := nextNumber s.sched.lastNumber s.sched.jobs }] ∧
    (s.addJob j).sched.lastNumber = nextNumber s.sched.lastNumber s.sched.jobs ∧
    (j.state = .queued → acceptJob j s =
      becameEligible (decide (j.cls = .urgent ∧ (j.kind = .dark ∨ s.seq.faultHold = false))) (s.addJob j)) ∧
    (∀ k, s.active? = some k → (j.cls = .routine ∨ k.cls = .urgent) →
      j.state ≠ .active → acceptJob j s = s.addJob j)) ∧
  (∀ (last : Nat) (jobs : List Job), jobs.length ≤ 254 →
    ∃ i < 255, nextNumber last jobs = (last + i) % 255 + 1 ∧
      (∀ j ∈ jobs, j.number ≠ nextNumber last jobs) ∧
      (∀ i' < i, ∃ j ∈ jobs, j.number = (last + i') % 255 + 1))

/-- When a job ends (R120, R132): a port job is ENDED with its outcome, JOB_ENDED is pending on its port, and
the list it fills becomes COMPLETE or PARTIAL; an internal job's slot is freed, with no notice. -/
def Obligations.EndedJobIsReported : Prop :=
  (∀ (n : Nat) (o : JobOutcome) (s : State) (j : Job) (p : Port), s.job? n = some j →
    j.requester = .port p →
    (endJob n o s).sched.jobs = s.sched.jobs.map (fun k => if k.number = n then
      { k with state := .ended, outcome := some o } else k) ∧
    ((endJob n o s).port p).pendingSet = (s.port p).pendingSet ||| 0x001#12 ∧
    (∀ q, q ≠ p → (endJob n o s).port q = s.port q) ∧
    ((s.sched.results[p]).job = some n → (s.sched.results[p]).state = .filling →
      (endJob n o s).sched.results[p] =
        { s.sched.results[p] with state := if o = .complete then .complete else .partialEnd })) ∧
  (∀ (n : Nat) (o : JobOutcome) (s : State) (j : Job), s.job? n = some j → j.requester = .internal →
    endJob n o s = s.setJobs (s.sched.jobs.filter (fun k => k.number ≠ n)))

/-! ### The ports -/

/-- Reads answer OK and change nothing but the port's own response, with ADJUSTED and the body as used where a
field is clamped (R172): IDENTIFY and READ_STATUS (R173, log 14), READ_RESULTS (R133), READ_CONCUR, oldest job
first (R166, its argument and time left by log 15, log 43 and log 44), READ_ROUTE (R13), READ_HOUSING with the fields a tenant does not see withheld (R4, log 12),
READ_SIGNATURE (R91) and READ_FINDINGS (R112, log 15), each from a port that may make it. The value bytes of a
field that is none are zero, which is the model's reading (log 11). -/
def Obligations.ReadsAnswerAndChangeNothing : Prop :=
  ∀ (port : Port) (s : State), s.canTake port = true →
    let ok := fun body => Host.Outcome.next (φ := Fault) (ρ := Refusal)
      (holdResponse port (plainResp .ok body) s)
    let okUsed := fun (moved : Bool) (body used : List Byte) => Host.Outcome.next (φ := Fault) (ρ := Refusal)
      (holdResponse port ⟨.ok, moved, if moved then body ++ used else body⟩ s)
    let mine := fun q : PairNo => (s.pair q).owner = some port
    exec (.identify port) s = ok
      [76#8, 6#8, 86#8, 1#8, BitVec.ofNat 8 port.val,
        if (s.port port).role = .station then 1#8 else 2#8, 2#8, 0#8] ∧
    exec (.readStatus port) s = ok
      (u48 s.lineTime ++ u8 (seqStateCode s.seq.state) ++ u8 s.seq.position ++
        (match s.seq.current with
          | none => [0#8, 0#8, 0#8, 0#8, 0#8]
          | some (p, prof) => [1#8] ++ u8 p.val ++ u8 prof.order ++ u8 prof.chipCode ++ u8 prof.drive) ++
        [if s.seq.faultHold then 1#8 else 0#8] ++ u8 (corrStateCode s.corr.state) ++
        (match s.corr.pass with
          | none => List.replicate 11 0#8
          | some r => [1#8] ++ u8 r.job ++ u8 (passKindCode r.kind) ++
            (match r.pair with
              | none => [0#8, 0#8]
              | some p => [1#8] ++ u8 p.val) ++ u16 r.first ++ u16 r.last ++ u16 r.periodsLeft) ++
        u8 (phaseCode s.channel.exchange.phase) ++
        (if s.channel.exchange.phase = .idle then [0#8, 0#8, 0#8]
          else [1#8] ++ u8 s.channel.exchange.job ++ u8 (wordCode s.channel.exchange.word)) ++
        (match s.active? with
          | none => [0#8, 0#8]
          | some j => [1#8] ++ u8 j.number) ++
        u16 s.intake.offset ++ u8 (darkStateCode s.intake.darkState) ++ u8 s.intake.refresh ++
        u8 (8 - s.serviceSlotsUsed) ++ u8 (s.portSlotsUsed port) ++
        u16 (s.port port).pendingSet.toNat ++ u16 (s.port port).mask.toNat) ∧
    (∀ (offset count : Byte) (top : Nat) (slice : Nat → List Byte),
      (match (s.sched.results[port]).body with
        | .echoes l => top = 24 ∧ slice = fun c => listOf encodeEcho ((l.drop offset.toNat).take c)
        | .candidates l => top = 96 ∧ slice = fun c => listOf encodeCandidate ((l.drop offset.toNat).take c)) →
      let c := max 1 (min count.toNat top)
      exec (.readResults port offset count) s = okUsed (c ≠ count.toNat)
        (encodeHeader s.sched.results[port] ++ slice c) ([offset] ++ u8 c)) ∧
    (JobsLaw s → ConcurLaw s →
      ∃ l, exec (.readConcur port) s = ok (u48 s.lineTime ++ listOf (encodeConcur port s.lineTime) l) ∧
        (l.map ConcurRec.job).Sublist (s.sched.jobs.map Job.number) ∧
        ∀ r, r ∈ l ↔ r ∈ s.channel.concur ∧
          ((s.port port).role = .station ∨ r.requester = port ∨ r.asked = port)) ∧
    (∀ (b first count : Byte) (p : PairNo), b.toNat = p.val → mine p ∨ (s.port port).role = .station →
      let pr := s.pair p
      let f := max 1 (min first.toNat 192)
      let c := max 1 (min count.toNat 48)
      exec (.readRoute port b first count) s = okUsed (f ≠ first.toNat ∨ c ≠ count.toNat)
        (u8 (pairStateCode pr.state) ++
          (match pr.owner with
            | none => [0#8, 0#8]
            | some x => [1#8] ++ u8 x.val) ++
          u8 pr.profile.order ++ u8 pr.profile.chipCode ++ u8 pr.profile.drive ++ u16 pr.quietBase ++
          u8 pr.route.length ++
          listOf (fun e => u8 e.2 ++ u8 e.1.housing ++ u16 e.1.lag)
            (((pr.route.zipIdx 1).drop (f - 1)).take c))
        ([b] ++ u8 f ++ u8 c)) ∧
    (∀ h : Byte, 1 ≤ h.toNat → h.toNat ≤ 192 →
      ((s.port port).role = .station → exec (.readHousing port h) s =
        ok (encodeHousing (fun _ => true) (fun _ => true) (s.housing h.toNat))) ∧
      ((s.port port).role = .tenant → (∃ p, mine p ∧ ∃ e ∈ (s.pair p).route, e.housing = h.toNat) →
        exec (.readHousing port h) s = ok (encodeHousing
          (fun g => decide (∃ q : PairNo, q.val / 2 = g ∧ (s.pair q).owner = some port))
          (fun q => decide (∃ p : PairNo, p.val = q ∧ (s.pair p).owner = some port))
          (s.housing h.toNat))) ∧
      ((s.port port).role = .tenant →
        (∀ p, mine p → ∀ e ∈ (s.pair p).route, e.housing ≠ h.toNat) →
        exec (.readHousing port h) s = .next (holdResponse port (plainResp .denied []) s))) ∧
    (∀ (b first count : Byte) (p : PairNo), b.toNat = p.val → mine p ∨ (s.port port).role = .station →
      (s.pair p).state = .routed → 1 ≤ (s.pair p).n →
      let pr := s.pair p
      let f := max 1 (min first.toNat pr.n)
      let c := max 1 (min count.toNat 24)
      exec (.readSignature port b first count) s = okUsed (f ≠ first.toNat ∨ c ≠ count.toNat)
        (u8 pr.n ++ [if s.frozen p then 1#8 else 2#8] ++
          listOf (fun e => encodeSig e.2 e.1.housing (s.sigAt p e.2))
            (((pr.route.zipIdx 1).drop (f - 1)).take c))
        ([b] ++ u8 f ++ u8 c)) ∧
    (∀ skip : Byte,
      let k := min skip.toNat 31
      let all := s.findings.filter (fun f => (s.port port).role = .station ∨ (s.pair f.pair).owner = some port)
      exec (.readFindings port .all skip) s = okUsed (31 < skip.toNat)
        (u8 all.length ++ u8 s.findings.length ++ listOf encodeFinding ((all.drop k).take 24))
        ([0#8, 0#8] ++ u8 k)) ∧
    (∀ (b skip : Byte) (p : PairNo), b.toNat = p.val → mine p ∨ (s.port port).role = .station →
      let k := min skip.toNat 31
      let found := s.findings.filter (fun f => f.pair = p)
      exec (.readFindings port (.pair b) skip) s = okUsed (31 < skip.toNat)
        (u8 found.length ++ u8 s.findings.length ++ listOf encodeFinding ((found.drop k).take 24))
        ([1#8, b] ++ u8 k))

/-- R177: READ_NOTICES answers with the pending set, the requesting set and the mask, and the kinds of the
requesting set leave the pending set; CLEAR_NOTICES answers with the pending set and empties it. Nothing
else changes. -/
def Obligations.NoticesAreReadAndCleared : Prop :=
  ∀ (port : Port) (s : State), s.canTake port = true →
    (let pending := (s.port port).pendingSet
     let mask := (s.port port).mask
     exec (.readNotices port) s = .next (holdResponse port
       (plainResp .ok (u16 pending.toNat ++ u16 (pending &&& mask).toNat ++ u16 mask.toNat))
       (s.setPort port (fun t => { t with pendingSet := pending &&& ~~~(pending &&& mask) })))) ∧
    exec (.clearNotices port) s = .next (holdResponse port
      (plainResp .ok (u16 (s.port port).pendingSet.toNat))
      (s.setPort port (fun t => { t with pendingSet := 0#12 })))

/-- R176: SET_NOTICE_MASK replaces the mask with the low twelve bits and changes no pending bit; the
attention line is asserted exactly while a pending notice has its mask bit set. -/
def Obligations.MaskDrivesAttentionLine : Prop :=
  (∀ (port : Port) (m : Half) (s : State), s.canTake port = true →
    ∃ v : BitVec 12, (∀ i < 12, v.getLsbD i = m.getLsbD i) ∧
      exec (.setNoticeMask port m) s = .next (holdResponse port
        (plainResp .ok (u16 v.toNat ++ u16 (s.port port).pendingSet.toNat))
        (s.setPort port (fun t => { t with mask := v })))) ∧
  (∀ t : PortState, attention t = true ↔
    ∃ k : Notice, t.pendingSet.getLsbD (noticeBit k) = true ∧ t.mask.getLsbD (noticeBit k) = true)

/-- SET_PARAMS with an empty list reads the set; with one entry it writes that parameter, clamped to its
range, and no other, but that a raised stable takes wide up with it; a write of 0 to dark_every clears the
refresh count (R48, R174). Where a value moved, the answer is ADJUSTED and ends with the entry as used (R172). Of
two entries, wide and then stable, each in the copy holds the value used, the final clamp of wide included (the
model's reading, log 18). -/
def Obligations.SetParamsWritesOneParameter : Prop :=
  ∀ (port : Port) (s : State), s.canTake port = true → (s.port port).role = .station →
    ParamsLaw s.params →
    exec (.setParams port []) s = .next (holdResponse port (plainResp .ok (encodeParams s.params)) s) ∧
    ∀ (n : Byte) (v : Half), n.toNat ≤ 18 → ∃ t r,
      exec (.setParams port [(n, v)]) s = .next (holdResponse port r t) ∧ r.status = .ok ∧
      { t with params := s.params, intake := s.intake } = s ∧
      t.intake = { s.intake with
        refresh := if n.toNat = 17 ∧ v.toNat = 0 then 0 else s.intake.refresh } ∧
      (let range := paramRange s.params n.toNat
       getParam t.params n.toNat = max range.1 (min v.toNat range.2)) ∧
      (∀ m ≤ 18, m ≠ n.toNat → m ≠ 4 → getParam t.params m = getParam s.params m) ∧
      (n.toNat ≠ 4 → t.params.wide = max s.params.wide t.params.stable) ∧
      (let used := getParam t.params n.toNat
       let moved := used ≠ v.toNat ∨ (n.toNat ≠ 4 ∧ t.params.wide ≠ s.params.wide)
       r.adjusted = decide moved ∧
         r.body = encodeParams t.params ++ if moved then [1#8, n] ++ u16 used else []) ∧
    ∀ wide stable : Half,
      let lower := max 1 (min stable.toNat 500)
      let upper := max lower (max s.params.stable (min wide.toNat 1000))
      let held := { s.params with stable := lower, wide := upper }
      let moved := upper ≠ wide.toNat ∨ lower ≠ stable.toNat
      exec (.setParams port [(4#8, wide), (3#8, stable)]) s = .next (holdResponse port
        ⟨.ok, decide moved, encodeParams held ++
          if moved then [2#8, 4#8] ++ u16 upper ++ [3#8] ++ u16 lower else []⟩
        { s with params := held })

/-- Bytes on SCK and MOSI, and a rise of CS_N (R168, R169). A response shifts out its unread bytes, then
filler, and after the last byte the port is IDLE. The first byte of a CS_N period that is not zero begins a
request frame and discards a held response, one byte of which it shifts out (log 16). The frame ends with its
declared body, at the length bytes where they declare more than 512, or cut short by a rise of CS_N: the port
enters HANDLING, and the request the frame spells is taken in that very step. Bytes after it, and a period
begun with a zero byte, are ignored. With PRST_N low nothing is heard (R178). The model keeps the bytes MISO
carried (log 27). -/
def Obligations.ReadOutShiftsResponse : Prop :=
  ∀ (port : Port) (mosi : List Byte) (rise : Bool) (s : State),
    let x := s.port port
    let n := mosi.length
    let after := fun u : PortState => exec (.responseReadOut port ⟨mosi, rise⟩) s = .next (s.setPort port (fun _ => u))
    let low := !rise && (x.csLow || decide (0 < n))
    let continues := x.csLow = true ∨ (∀ b, mosi.head? = some b → b = 0#8)
    let ends := fun l : List Byte => match l with
      | _ :: hi :: lo :: _ =>
        3 + (if 512 < hi.toNat * 256 + lo.toNat then 0 else hi.toNat * 256 + lo.toNat)
      | _ => l.length + 1
    let got := (if x.frame = .receiving then x.received else []) ++ mosi
    (x.prstLow = true → after { x with miso := List.replicate n 0#8 }) ∧
    (x.prstLow = false → x.frame = .responding → x.response ≠ [] → continues →
      ∃ u, after u ∧ u = { x with
          miso := u.miso, csLow := low, response := x.response.drop n
          frame := if x.response.length ≤ n then .idle else .responding } ∧
        u.miso.length = n ∧ ∀ i < n, u.miso[i]? = some ((x.response[i]?).getD 0#8)) ∧
    (x.prstLow = false → (x.frame = .idle ∧ continues) ∨ x.frame = .handling →
      after { x with miso := List.replicate n 0#8, csLow := low }) ∧
    (x.prstLow = false →
      (((x.frame = .idle ∨ x.frame = .responding) ∧ ¬ continues) ∨
        (x.frame = .receiving ∧ x.csLow = true ∧ x.received.length < ends x.received)) →
      let miso := if x.frame = .responding then [x.response.headD 0#8] ++ List.replicate (n - 1) 0#8
        else List.replicate n 0#8
      let held := if x.frame = .receiving then x.response else []
      let frame := got.take (ends got)
      (got.length < ends got → rise = false →
        after { x with miso := miso, csLow := true, received := got, frame := .receiving, response := held }) ∧
      (ends got ≤ got.length ∨ rise = true →
        ∃ t, exec (frameCommand ⟨port, frame⟩) (s.setPort port (fun _ => { x with
              miso := miso, csLow := !rise, received := frame, frame := .idle, response := held })) =
            .next t ∧
          exec (.responseReadOut port ⟨mosi, rise⟩) s =
            .next (t.setPort port (fun y => { y with frame := .handling, csLow := !rise }))))

/-- A request and its frame agree (R168, R170, R181): every request that the catalogue names has one, whose kind
byte is its code; the frame ends with its last byte and not before; and it is read back as that request, with
every field, whatever bytes follow it. What a frame spells is well formed and is a request of its port, and
the kind bytes 0 and 37 to 255 spell none. The layout of an optional field and of the READ_FINDINGS selector is
the model's reading (log 11, log 15). -/
def Obligations.RequestFramesRoundTrip : Prop :=
  (∀ (i : Instr) (p : Port) (f extra : List Byte), i.wellFormed = true → i.requestPort = some p →
    requestFrame i = some f →
      (∀ m < f.length, frameEnded (f.take m) = false) ∧ frameEnded f = true ∧
      decodeFrame ⟨p, f ++ extra⟩ = some i) ∧
  (∀ (i : Instr) (p : Port), i.requestPort = some p → (∀ fr, i ≠ .frameMalformed fr) →
    ∃ k body, requestBody i = some (k, body) ∧
      requestFrame i = some ([BitVec.ofNat 8 (kindCode k)] ++ u16 body.length ++ body)) ∧
  [RequestKind.identify, .readStatus, .readNotices, .setNoticeMask, .clearNotices, .submitMeasure,
    .submitSurvey, .submitCommand, .submitDark, .submitSynth, .cancelJob, .jobStatus, .readResults, .concur,
    .readConcur, .readSignature, .writeSignature, .relearn, .freeze, .readFindings, .dismiss, .setPatrol,
    .readPairStats, .writeHousing, .readHousing, .routeOpen, .routeEntries, .routeClose, .readRoute, .assign,
    .setParams, .setDarkMode, .readFaultLog, .clearSwitchFault, .engineReset, .synthDefine].map kindCode =
    List.range' 1 36 ∧
  (∀ (frame : PortFrame) (i : Instr), decodeFrame frame = some i →
    i.requestPort = some frame.port ∧ i.wellFormed = true ∧ (∀ fr, i ≠ .frameMalformed fr)) ∧
  (∀ (frame : PortFrame) (kind : Byte), frame.bytes.head? = some kind → kind = 0#8 ∨ 36 < kind.toNat →
    decodeFrame frame = none)

/-- Requests without effect. A frame that fails the frame check (R168): cut short, longer than 512, of a kind
above 36, or with a body length that is no form of its kind (R170, R181); a body with a field outside its set
(R171). Both are answered MALFORMED. A request marked station from a tenant port is DENIED (R170), and a port
whose PRST_N is low takes none (R178). A frame of a zero byte is no request, and the event that names one that
passes the check changes nothing (log 2). The body lengths of ASSIGN and READ_FINDINGS, 3 bytes each, rest on the
value byte that stands after a presence byte 0, which is the model's reading (log 11, log 15). -/
def Obligations.MalformedDeniedOrLostChangesNothing : Prop :=
  (∀ (port : Port) (s : State), s.canTake port = true →
    let malformed := Host.Outcome.next (φ := Fault) (ρ := Refusal)
      (holdResponse port (plainResp .malformed []) s)
    (∀ bytes : List Byte,
      let answer := exec (.frameMalformed ⟨port, bytes⟩) s
      (bytes.head? = none ∨ bytes.head? = some 0#8 ∨ decodeFrame ⟨port, bytes⟩ ≠ none → answer = .next s) ∧
      (1 ≤ bytes.length → bytes.length ≤ 2 → bytes.head? ≠ some 0#8 → answer = malformed) ∧
      ∀ kind hi lo rest, bytes = kind :: hi :: lo :: rest → kind ≠ 0#8 →
        let n := hi.toNat * 256 + lo.toNat
        (512 < n ∨ rest.length < n ∨ 36 < kind.toNat → answer = malformed) ∧
        (∀ form ∈ [(1, 0), (2, 0), (3, 0), (4, 2), (5, 0), (6, 7), (7, 7), (9, 0), (10, 3), (11, 1), (12, 1),
            (13, 2), (14, 2), (15, 0), (16, 3), (18, 3), (19, 2), (20, 3), (21, 3), (22, 5), (23, 1), (24, 2),
            (25, 1), (26, 6), (28, 1), (29, 3), (30, 3), (33, 0), (34, 0), (35, 0)],
          kind.toNat = form.1 → n ≠ form.2 → answer = malformed) ∧
        (kind.toNat = 8 → n < 5 ∨ 10 < n → answer = malformed) ∧
        (kind.toNat = 32 → n ≠ 1 ∧ n ≠ 3 → answer = malformed) ∧
        (∀ form ∈ [(17, 3, 2), (27, 3, 3), (31, 1, 3), (36, 11, 4)], kind.toNat = form.1 →
          n < form.2.1 ∨ (∀ c, rest[form.2.1 - 1]? = some c → n ≠ form.2.1 + form.2.2 * c.toNat) →
          answer = malformed)) ∧
    (∀ a b c d e track urgent, 1 < track.toNat ∨ 1 < urgent.toNat →
      exec (.submitMeasure port a b c d e track urgent) s = malformed) ∧
    (∀ a b c d urgent, 1 < urgent.toNat → exec (.submitSurvey port a b c d urgent) s = malformed) ∧
    (∀ a b c d rest, 5 < rest.length → exec (.submitCommand port a b c d rest) s = malformed) ∧
    (∀ a b c, 5 < c.toNat ∨ c.toNat = 0 → exec (.dismiss port a c b) s = malformed) ∧
    (∀ a flag, 2 < flag.toNat ∨ flag.toNat = 0 → exec (.freeze port a flag) s = malformed) ∧
    (∀ h v, 2 < v.toNat ∨ v.toNat = 0 → exec (.writeHousing port h v) s = malformed) ∧
    (∀ a b l, l.length = 0 ∨ 48 < l.length → exec (.writeSignature port a b l) s = malformed) ∧
    (∀ a b l, l.length = 0 ∨ 48 < l.length → exec (.routeEntries port a b l) s = malformed) ∧
    (∀ l, 19 < l.length ∨ (∃ e ∈ l, 18 < e.1.toNat) → exec (.setParams port l) s = malformed) ∧
    (∀ a b c d e m l, 2 < m.toNat ∨ m.toNat = 0 ∨ l.length = 0 ∨ 8 < l.length →
      exec (.synthDefine port a b c d e m l) s = malformed)) ∧
  (∀ (c : Instr) (port : Port) (s : State), c.requestPort = some port → c.stationRequest = true →
    s.canTake port = true → (s.port port).role = .tenant →
    exec c s = .next (holdResponse port (plainResp .denied []) s)) ∧
  (∀ (c : Instr) (port : Port) (s : State), c.requestPort = some port → (s.port port).prstLow = true →
    exec c s = .next s)

/-- Refusals of a request on a pair, and of a full slot group: DENIED to a port that the table of R15 does not
name, QUOTA with the port's four slots in use, FULL with the eight service slots in use (R115). Nothing
changes. -/
def Obligations.RefusedRequestsChangeNothing : Prop :=
  ∀ (port : Port) (b : Byte) (p : PairNo) (s : State), s.canTake port = true → b.toNat = p.val →
    let refused := fun st => Host.Outcome.next (φ := Fault) (ρ := Refusal)
      (holdResponse port (plainResp st []) s)
    ((s.pair p).owner ≠ some port →
      (∀ first last q w track urgent, track.toNat ≤ 1 → urgent.toNat ≤ 1 →
        exec (.submitMeasure port b first last q w track urgent) s = refused .denied) ∧
      (∀ h o arg, 1 ≤ h.toNat → h.toNat ≤ 192 →
        exec (.submitCommand port b h o arg []) s = refused .denied) ∧
      (∀ first last, exec (.relearn port b first last) s = refused .denied) ∧
      (∀ flag, flag.toNat = 1 ∨ flag.toNat = 2 → exec (.freeze port b flag) s = refused .denied) ∧
      ((s.port port).role = .station → (s.pair p).owner ≠ none →
        ∀ i q w, exec (.setPatrol port b i q w) s = refused .denied) ∧
      ((s.port port).role = .tenant →
        (∀ start stop q urgent, urgent.toNat ≤ 1 →
          exec (.submitSurvey port b start stop q urgent) s = refused .denied) ∧
        (∀ i q w, exec (.setPatrol port b i q w) s = refused .denied) ∧
        (∀ first l, 1 ≤ l.length → l.length ≤ 48 →
          exec (.writeSignature port b first l) s = refused .denied) ∧
        (∀ c l, 1 ≤ c.toNat → c.toNat ≤ 5 → exec (.dismiss port b c l) s = refused .denied) ∧
        (∀ first count, exec (.readRoute port b first count) s = refused .denied) ∧
        (∀ first count, exec (.readSignature port b first count) s = refused .denied) ∧
        (∀ skip, exec (.readFindings port (.pair b) skip) s = refused .denied) ∧
        exec (.readPairStats port b) s = refused .denied)) ∧
    (4 ≤ s.portSlotsUsed port →
      ((s.pair p).owner = some port → (s.pair p).state = .routed →
        ∀ first last q w track urgent, track.toNat ≤ 1 → urgent.toNat ≤ 1 →
          exec (.submitMeasure port b first last q w track urgent) s = refused .quota) ∧
      (ownerOrStation s port p = true → (s.pair p).state ≠ .unrouted →
        ∀ start stop q urgent, urgent.toNat ≤ 1 →
          exec (.submitSurvey port b start stop q urgent) s = refused .quota)) ∧
    (8 ≤ s.serviceSlotsUsed → (s.port port).role = .station →
      exec (.submitDark port) s = refused .full)

/-! ### Jobs -/

/-- An accepted SUBMIT_MEASURE (R51, R116 to R118, R172): the job it makes, with every field clamped, its
number in the response, and the body as used where a field moved. -/
def Obligations.MeasurementIsAccepted : Prop :=
  ∀ (port : Port) (b first last q w track urgent : Byte) (p : PairNo) (s : State),
    s.canTake port = true → b.toNat = p.val → (s.pair p).owner = some port →
    (s.pair p).state = .routed → 1 ≤ (s.pair p).n → s.portSlotsUsed port < 4 →
    track.toNat ≤ 1 → urgent.toNat ≤ 1 →
    let n := (s.pair p).n
    let one := max 1 (min first.toNat n)
    let two := max 1 (min last.toNat n)
    let w' := if 7 < w.toNat then 7 else if w.toNat = 0 then 1
      else if w.toNat % 2 = 0 then w.toNat + 1 else w.toNat
    ∃ r cls, exec (.submitMeasure port b first last q w track urgent) s =
        .next (holdResponse port r (acceptJob
          { number := 0, requester := .port port, kind := .measure, cls := cls, pair := some p
            range := some (min one two, max one two), q := min q.toNat 12, w := w'
            track := decide (track.toNat = 1), cmd := none, state := .queued, progress := min one two
            passes := 0, preempts := 0, outcome := none, displaced := false, dark := none
            everActive := false, cancelPending := false } s)) ∧
      (cls = .urgent ↔ urgent.toNat = 1 ∧ ∀ j ∈ s.sched.jobs, j.requester = .port port → j.kind ≠ .dark →
        j.cls = .urgent → j.state = .ended) ∧
      r.status = .accepted ∧
      (let number := BitVec.ofNat 8 (nextNumber s.sched.lastNumber s.sched.jobs)
       let moved := (min one two, max one two) ≠ (first.toNat, last.toNat) ∨ 12 < q.toNat ∨
         w' ≠ w.toNat ∨ (urgent.toNat = 1 ∧ cls = .routine)
       (r.adjusted = true ↔ moved) ∧ (¬ moved → r.body = [number]) ∧
       (moved → r.body = [number, b, BitVec.ofNat 8 (min one two), BitVec.ofNat 8 (max one two),
         BitVec.ofNat 8 (min q.toNat 12), BitVec.ofNat 8 w', track,
         if cls = .urgent then 1#8 else 0#8]))

/-- An accepted SUBMIT_SURVEY (R70, R116 to R118), from the owner or the station, in EDIT or ROUTED. A
survey's W plays no part, and the model stores 1 (log 28). -/
def Obligations.SurveyIsAccepted : Prop :=
  ∀ (port : Port) (b : Byte) (start stop : Half) (q urgent : Byte) (p : PairNo) (s : State),
    s.canTake port = true → b.toNat = p.val →
    ((s.pair p).owner = some port ∨ (s.port port).role = .station) →
    (s.pair p).state ≠ .unrouted → s.portSlotsUsed port < 4 → urgent.toNat ≤ 1 →
    let top := 2 ^ (s.pair p).profile.order - 2
    let one := min start.toNat top
    let two := min stop.toNat top
    ∃ r cls, exec (.submitSurvey port b start stop q urgent) s =
        .next (holdResponse port r (acceptJob
          { number := 0, requester := .port port, kind := .survey, cls := cls, pair := some p
            range := some (min one two, max one two), q := min q.toNat 12, w := 1
            track := false, cmd := none, state := .queued, progress := min one two
            passes := 0, preempts := 0, outcome := none, displaced := false, dark := none
            everActive := false, cancelPending := false } s)) ∧
      (cls = .urgent ↔ urgent.toNat = 1 ∧ ∀ j ∈ s.sched.jobs, j.requester = .port port → j.kind ≠ .dark →
        j.cls = .urgent → j.state = .ended) ∧
      r.status = .accepted ∧
      r.body.take 1 = [BitVec.ofNat 8 (nextNumber s.sched.lastNumber s.sched.jobs)] ∧
      (r.adjusted = true ↔ (min one two, max one two) ≠ (start.toNat, stop.toNat) ∨ 12 < q.toNat ∨
        (urgent.toNat = 1 ∧ cls = .routine))

/-- An accepted SUBMIT_DARK makes an URGENT DARK job (R115, R118), and an accepted SUBMIT_SYNTH a SYNTH job
over positions 1 to m (R185, log 37). A DARK job's q and W play no part, and it has no next position, lag or
word: the values 0, 1 and progress 0 are the model's choice (log 28). -/
def Obligations.DarkAndSelfTestAreAccepted : Prop :=
  ∀ (port : Port) (s : State), s.canTake port = true → (s.port port).role = .station →
    let number := BitVec.ofNat 8 (nextNumber s.sched.lastNumber s.sched.jobs)
    (s.serviceSlotsUsed < 8 →
      exec (.submitDark port) s = .next (holdResponse port (plainResp .accepted [number]) (acceptJob
        { number := 0, requester := .port port, kind := .dark, cls := .urgent, pair := none
          range := none, q := 0, w := 1, track := false, cmd := none, state := .queued, progress := 0
          passes := 0, preempts := 0, outcome := none, displaced := false, dark := none
          everActive := false, cancelPending := false } s))) ∧
    (∀ (d : SynthDef) (q w urgent : Byte), s.synth.defn = some d → s.portSlotsUsed port < 4 →
      urgent.toNat ≤ 1 →
      ∃ r cls, exec (.submitSynth port q w urgent) s = .next (holdResponse port r (acceptJob
          { number := 0, requester := .port port, kind := .synth, cls := cls, pair := none
            range := some (1, d.echoes.length), q := min q.toNat 12, w := clampW w.toNat, track := false
            cmd := none, state := .queued, progress := 1, passes := 0, preempts := 0, outcome := none
            displaced := false, dark := none, everActive := false, cancelPending := false } s)) ∧
        (cls = .urgent ↔ urgent.toNat = 1 ∧ ∀ j ∈ s.sched.jobs, j.requester = .port port →
          j.kind ≠ .dark → j.cls = .urgent → j.state = .ended) ∧
        r.status = .accepted ∧ r.body.take 1 = [number]) ∧
    (∀ (q w urgent : Byte), s.synth.defn = none → urgent.toNat ≤ 1 →
      exec (.submitSynth port q w urgent) s = .next (holdResponse port (plainResp .invalid []) s))

/-- An accepted SUBMIT_COMMAND that needs no concurrence (R118, R138 to R140, R159): the job, its class,
argument, span, r and slot units; a profile too slow for any r is INVALID. A body that ends early takes the
defaults of R139, and its whole answer is that of the ten bytes: the copy in an ADJUSTED answer holds all ten,
which is the model's reading (log 17). -/
def Obligations.CommandIsAccepted : Prop :=
  ∀ (port : Port) (b h o v r q w u : Byte) (arg : Half) (p : PairNo) (op : Opcode) (k : Nat) (s : State),
    (∀ rest : List Byte, rest.length ≤ 5 →
      exec (.submitCommand port b h o arg rest) s =
        exec (.submitCommand port b h o arg (rest ++ [0#8, 2#8, 4#8, 3#8, 0#8].drop rest.length)) s) ∧
    (s.canTake port = true → b.toNat = p.val → 1 ≤ h.toNat → h.toNat ≤ 192 →
      (s.pair p).owner = some port → (s.pair p).state = .routed →
      (s.pair p).positionOf h.toNat = some k → opcodeOf o.toNat = some op → u.toNat ≤ 1 →
      let prof := (s.pair p).profile
      let units := fun r => ((2 ^ r + 2) * ((2 ^ prof.order - 1) * chipUs prof.chipCode) + 15999) / 16000
      (255 < units 0 →
        exec (.submitCommand port b h o arg [v, r, q, w, u]) s =
          .next (holdResponse port (plainResp .invalid []) s)) ∧
      (units 0 ≤ 255 → s.portSlotsUsed port < 4 →
        (sharedEffect op = false ∨ (s.pair (partner p)).owner = none ∨
          (s.pair (partner p)).owner = some port) →
        ∃ resp j c, exec (.submitCommand port b h o arg [v, r, q, w, u]) s =
            .next (holdResponse port resp (acceptJob j s)) ∧
          resp.status = .accepted ∧
          resp.body.take 1 = [BitVec.ofNat 8 (nextNumber s.sched.lastNumber s.sched.jobs)] ∧
          (j.cls = .urgent ↔ u.toNat = 1 ∧ ∀ k ∈ s.sched.jobs, k.requester = .port port → k.kind ≠ .dark →
            k.cls = .urgent → k.state = .ended) ∧
          j.requester = .port port ∧ j.kind = .command ∧ j.pair = some p ∧ j.state = .queued ∧
          j.q = min q.toNat 12 ∧ j.w = clampW w.toNat ∧ j.cmd = some c ∧
          c.housing = h.toNat ∧ c.opcode = op ∧ c.verifySpan = min v.toNat (min 16 (60 / j.w)) ∧
          j.range = (if c.verifySpan = 0 then none
            else some (k, min (k + c.verifySpan - 1) (s.pair p).n)) ∧
          c.argument = (match op with
            | .nop | .queryPumps | .queryTemp => 0#16
            | .selectPump | .mute | .unmute => BitVec.ofNat 16 (max 1 (min arg.toNat 3))
            | .setLoopback => BitVec.ofNat 16 (min arg.toNat 7)
            | .trimGain => arg) ∧
          c.r ≤ min r.toNat 6 ∧ c.slotUnits = units c.r ∧ c.slotUnits ≤ 255 ∧
          (∀ r', c.r < r' → r' ≤ min r.toNat 6 → 255 < units r') ∧
          c.basis = .notNeeded ∧ c.askedPort = none ∧ c.next = .word .word1 ∧ c.reply = []))

/-- A shared-effect SUBMIT_COMMAND whose partner pair has another owner waits for that owner (R159, R160,
R161); with four records open it is FULL. -/
def Obligations.SharedCommandAsksConcurrence : Prop :=
  ∀ (port asked : Port) (b h o v r q w u : Byte) (arg : Half) (p : PairNo) (op : Opcode) (k : Nat)
    (s : State), s.canTake port = true → b.toNat = p.val → 1 ≤ h.toNat → h.toNat ≤ 192 →
    (s.pair p).owner = some port → (s.pair p).state = .routed →
    (s.pair p).positionOf h.toNat = some k → opcodeOf o.toNat = some op → u.toNat ≤ 1 →
    slotUnitsAt (s.pair p).profile 0 ≤ 255 → s.portSlotsUsed port < 4 →
    sharedEffect op = true → (s.pair (partner p)).owner = some asked → asked ≠ port →
    (4 ≤ s.channel.concur.length →
      exec (.submitCommand port b h o arg [v, r, q, w, u]) s =
        .next (holdResponse port (plainResp .full []) s)) ∧
    (s.channel.concur.length < 4 →
      ∃ resp j t, exec (.submitCommand port b h o arg [v, r, q, w, u]) s =
          .next (holdResponse port resp t) ∧
        resp.status = .accepted ∧ j.number = nextNumber s.sched.lastNumber s.sched.jobs ∧
        j.state = .waitConcur ∧ j.kind = .command ∧ j.requester = .port port ∧ j.pair = some p ∧
        (∃ c, j.cmd = some c ∧ c.basis = .asked ∧ c.askedPort = some asked ∧ c.opcode = op ∧
          c.housing = h.toNat ∧ c.argument = commandArgument op arg) ∧
        t = { s with
          sched := { s.sched with jobs := s.sched.jobs ++ [j], lastNumber := j.number }
          channel := { s.channel with concur := s.channel.concur ++
            [{ job := j.number, requester := port, asked := asked, pair := p, housing := h.toNat
               opcode := op, argument := commandArgument op arg
               deadline := s.lineTime + s.params.concurTimeout * 1000 }] }
          ports := t.ports } ∧
        t.port asked = { s.port asked with pendingSet := (s.port asked).pendingSet ||| 0x010#12 } ∧
        ∀ x, x ≠ asked → t.port x = s.port x)

/-- CANCEL_JOB by the job's state (R130, R157, R186), and its refusals: a DARK job is INVALID with an empty body in every state, an
ENDED one too, which is the model's choice between two rows of R130 (log 42). A job cancelled while it waits for an answer keeps
the basis ASKED, the model's choice too (log 39). A pass is cut until its accumulation
has ended on its last boundary; from there, and during an exchange, the cancel waits for the end of the
evaluation or exchange (R60, log 32). -/
def Obligations.CancelActsByState : Prop :=
  ∀ (port : Port) (b : Byte) (s : State), s.canTake port = true →
    (s.job? b.toNat = none →
      exec (.cancelJob port b) s = .next (holdResponse port (plainResp .noSuch []) s)) ∧
    ∀ j, s.job? b.toNat = some j →
      let done := fun t : State => exec (.cancelJob port b) s =
        .next (holdResponse port (plainResp .ok []) t)
      let cut := { s with corr := Correlator.idleReset }
      let exchanging := j.kind = .command ∧ s.channel.exchange.phase ≠ .idle
      (j.requester ≠ .port port →
        exec (.cancelJob port b) s = .next (holdResponse port (plainResp .denied []) s)) ∧
      (j.requester = .port port → j.kind = .dark →
        exec (.cancelJob port b) s = .next (holdResponse port (plainResp .invalid []) s)) ∧
      (j.requester = .port port → j.kind ≠ .dark →
        (j.state = .ended → ∀ o, j.outcome = some o →
          exec (.cancelJob port b) s =
            .next (holdResponse port (plainResp .invalid [BitVec.ofNat 8 (outcomeCode o)]) s)) ∧
        (j.state = .queued ∨ j.state = .suspended → done (endJob b.toNat .cancelled s)) ∧
        (j.state = .waitConcur → done (endJob b.toNat .cancelled { s with
          channel := { s.channel with
            concur := s.channel.concur.filter (fun r => r.job ≠ b.toNat) } })) ∧
        (j.state = .active → ¬ exchanging → endingPass s = none →
          (j.kind = .synth → done (arbitrate (endJob b.toNat .cancelled (giveOrder .endDark cut)))) ∧
          (j.kind ≠ .synth → done (arbitrate (endJob b.toNat .cancelled cut)))) ∧
        (j.state = .active → exchanging ∨ endingPass s ≠ none →
          ∃ t, done t ∧ t = { s with sched := { s.sched with jobs := t.sched.jobs } } ∧
            t.sched.jobs = s.sched.jobs.map (fun k => if k.number = b.toNat then
              { k with cancelPending := true } else k)))

/-- SET_PATROL writes the settings and restarts the timer of a ROUTED pair; an expiry queues a PATROL job
over the whole route where the pair has none, and the timer runs on (R128, R129). An expiry is due at its line
time or after it, and one that is not due changes nothing (the model's choice, log 2, log 3); expiries that
fall together are taken in the pairs' order (log 23). -/
def Obligations.PatrolIsSetAndExpires : Prop :=
  (∀ (port : Port) (b : Byte) (p : PairNo) (interval : Half) (q w : Byte) (s : State),
    s.canTake port = true → b.toNat = p.val →
    ((s.pair p).owner = some port ∨ ((s.port port).role = .station ∧ (s.pair p).owner = none)) →
    let i := min interval.toNat 1440
    ∃ r, exec (.setPatrol port b interval q w) s = .next (holdResponse port r (s.setPatrol p (fun old =>
        { interval := i, q := min q.toNat 12, w := clampW w.toNat
          timer := if (s.pair p).state ≠ .routed then old.timer
            else if i = 0 then none else some (s.lineTime + i * 60000) }))) ∧
      r.status = .ok) ∧
  (∀ (p : PairNo) (at_ : Nat) (s : State), (s.sched.patrols[p]).timer = some at_ →
    (s.lineTime < at_ → exec (.patrolTimerExpiry p) s = .next s) ∧
    (at_ ≤ s.lineTime → (∀ q < p, (s.sched.patrols[q]).timer ≠ some at_) →
      let s' := s.setPatrol p (fun t => { t with timer := some (at_ + t.interval * 60000) })
      ((s.pair p).state ≠ .routed ∨ (∃ j ∈ s.sched.jobs, j.kind = .patrol ∧ j.pair = some p) →
        exec (.patrolTimerExpiry p) s = .next s') ∧
      ((s.pair p).state = .routed → (∀ j ∈ s.sched.jobs, j.kind = .patrol → j.pair ≠ some p) →
        exec (.patrolTimerExpiry p) s = .next (acceptJob
          { number := 0, requester := .internal, kind := .patrol, cls := .routine, pair := some p
            range := some (1, (s.pair p).n), q := (s.sched.patrols[p]).q, w := (s.sched.patrols[p]).w
            track := false, cmd := none, state := .queued, progress := 1, passes := 0, preempts := 0
            outcome := none, displaced := false, dark := none, everActive := false, cancelPending := false } s'))))

/-- Reads that clear what they read: the status of an ENDED job frees its slot and its number, and of any
other job changes nothing (R120; the layout is that of log 10, log 13 and log 43); the pair statistics (R134); the
fault log (R34). -/
def Obligations.ReadsThatClear : Prop :=
  ∀ (port : Port) (s : State), s.canTake port = true →
    (∀ b : Byte, s.job? b.toNat = none →
      exec (.jobStatus port b) s = .next (holdResponse port (plainResp .noSuch []) s)) ∧
    (∀ (b : Byte) (j : Job), s.job? b.toNat = some j →
      (j.requester ≠ .port port →
        exec (.jobStatus port b) s = .next (holdResponse port (plainResp .denied []) s)) ∧
      (j.requester = .port port →
        ∃ body, (body.take 4 = [b, BitVec.ofNat 8 (requesterCode j.requester),
            BitVec.ofNat 8 (jobKindCode j.kind), BitVec.ofNat 8 (jobClassCode j.cls)]) ∧
          exec (.jobStatus port b) s = .next (holdResponse port (plainResp .ok body)
            (if j.state = .ended then
              { s with sched := { s.sched with
                jobs := s.sched.jobs.filter (fun k => k.number ≠ b.toNat) } }
            else s)))) ∧
    (∀ (b : Byte) (p : PairNo), b.toNat = p.val →
      ((s.pair p).owner = some port ∨ (s.port port).role = .station) →
      let x := s.sched.stats[p]
      exec (.readPairStats port b) s = .next (holdResponse port (plainResp .ok
        [BitVec.ofNat 8 (x.passes / 256), BitVec.ofNat 8 x.passes, BitVec.ofNat 8 x.overdrives,
          BitVec.ofNat 8 x.replyFails, BitVec.ofNat 8 x.preempts])
        (s.setStats p (fun _ => ⟨0, 0, 0, 0⟩)))) ∧
    ((s.port port).role = .station →
      ∃ body, exec (.readFaultLog port) s = .next (holdResponse port (plainResp .ok body)
          { s with sched := { s.sched with faultLog := ⟨none, false⟩ } }) ∧
        (s.sched.faultLog.record = none → body.take 1 = [0#8]) ∧
        (∀ r, s.sched.faultLog.record = some r →
          body.take 2 = [1#8, if r.kind = .switchFault then 1#8 else 2#8]) ∧
        body.getLast? = some (if s.sched.faultLog.overrun then 1#8 else 0#8))

/-- CLEAR_SWITCH_FAULT (R32, R121): the hold is cleared, SWITCH_FAULT becomes PARKED at the dark position,
and the waiting jobs become eligible together; with no hold it is INVALID with the sequencer's state. -/
def Obligations.ClearSwitchFaultEndsHold : Prop :=
  ∀ (port : Port) (s : State), s.canTake port = true → (s.port port).role = .station →
    (s.seq.faultHold = false → exec (.clearSwitchFault port) s =
      .next (holdResponse port (plainResp .invalid [BitVec.ofNat 8 (seqStateCode s.seq.state)]) s)) ∧
    (s.seq.faultHold = true → ∃ urgent : Bool,
      (urgent = true ↔ ∃ j ∈ s.sched.jobs, j.cls = .urgent ∧ j.kind ≠ .dark ∧
        (j.state = .queued ∨ j.state = .suspended)) ∧
      exec (.clearSwitchFault port) s = .next (holdResponse port (plainResp .ok []) (becameEligible urgent
        { s with seq :=
          if s.seq.state = .switchFault then
            { s.seq with
              state := .parked, position := 16, faultHold := false
              strobes := if s.seq.position = 16 then s.seq.strobes else s.seq.strobes + 1 }
          else { s.seq with faultHold := false } })))

/-- The answers to an open record and its deadline (R162, R163): yes queues the job with basis GIVEN, no
ends it DECLINED, the deadline ends it CONCUR_EXPIRED; another port is DENIED. With no record open the answer
is LATE to the port an expired job had asked, DENIED to another, and NO_SUCH in every other case. A deadline
event before the deadline changes nothing (the model's choice, log 2), and a job ended by a no or an expiry
keeps the basis ASKED (log 39). -/
def Obligations.ConcurrenceIsAnsweredOrExpires : Prop :=
  ∀ (b : Byte) (s : State),
    let removed := { s with channel := { s.channel with
      concur := s.channel.concur.filter (fun r => r.job ≠ b.toNat) } }
    (∀ r, s.concurOf b.toNat = some r →
      (∀ port, s.canTake port = true → r.asked = port → ∀ j, s.job? b.toNat = some j →
        j.kind = .command →
        exec (.concurYes port b) s = .next (holdResponse port (plainResp .ok [])
          (becameEligible (decide (j.cls = .urgent) && !s.seq.faultHold)
            (removed.setJobs (s.sched.jobs.map (fun k => if k.number = b.toNat then
              { k with
                state := .queued
                cmd := k.cmd.map (fun c => { c with basis := .given, askedPort := some port }) }
              else k)))))) ∧
      (∀ port, s.canTake port = true → r.asked = port →
        exec (.concurNo port b) s =
          .next (holdResponse port (plainResp .ok []) (endJob b.toNat .declined removed))) ∧
      (∀ port, s.canTake port = true → r.asked ≠ port →
        exec (.concurYes port b) s = .next (holdResponse port (plainResp .denied []) s) ∧
        exec (.concurNo port b) s = .next (holdResponse port (plainResp .denied []) s)) ∧
      (r.deadline ≤ s.lineTime →
        exec (.concurDeadline b) s = .next (endJob b.toNat .concurExpired removed)) ∧
      (s.lineTime < r.deadline → exec (.concurDeadline b) s = .next s)) ∧
    (∀ port, s.canTake port = true → s.concurOf b.toNat = none →
      let answer := fun st =>
        exec (.concurYes port b) s = .next (holdResponse port (plainResp st []) s) ∧
        exec (.concurNo port b) s = .next (holdResponse port (plainResp st []) s)
      (s.job? b.toNat = none → answer .noSuch) ∧
      ∀ j, s.job? b.toNat = some j →
        (j.state ≠ .ended ∨ j.outcome ≠ some .concurExpired → answer .noSuch) ∧
        (∀ c, j.state = .ended → j.outcome = some .concurExpired → j.cmd = some c →
          (c.askedPort = some port → answer .late) ∧ (c.askedPort ≠ some port → answer .denied)))

/-! ### Signatures -/

/-- WRITE_SIGNATURE (R88), RELEARN (R89) and FREEZE (R87) on a pair the port may touch: the entries they
write, and nothing else. -/
def Obligations.SignaturesAreWrittenByHand : Prop :=
  ∀ (port : Port) (b : Byte) (p : PairNo) (s : State), s.canTake port = true → b.toNat = p.val →
    ((s.pair p).state = .routed → ((s.pair p).owner = some port ∨ (s.port port).role = .station) →
      ∀ (first : Byte) (values : List Half), 1 ≤ first.toNat → first.toNat ≤ (s.pair p).n →
      1 ≤ values.length → values.length ≤ 48 →
      ∃ r t, exec (.writeSignature port b first values) s = .next (holdResponse port r t) ∧
        r.status = .ok ∧
        r.body.take 1 = [BitVec.ofNat 8 (min values.length ((s.pair p).n + 1 - first.toNat))] ∧
        t = { s with sig := { s.sig with entries := t.sig.entries } } ∧
        (∀ (p' : PairNo) (k : Nat), 1 ≤ k → k ≤ 192 → t.sigAt p' k =
          if p' = p ∧ first.toNat ≤ k ∧ k < first.toNat + values.length ∧ k ≤ (s.pair p).n then
            { s.sigAt p k with
              state := .tracking, learn := 0, drift := 0, lastDev := none
              base := some (min ((values[k - first.toNat]?).getD 0#16).toNat 4515) }
          else s.sigAt p' k)) ∧
    ((s.pair p).state = .routed → (s.pair p).owner = some port → 1 ≤ (s.pair p).n →
      ∀ (first last : Byte),
      let one := max 1 (min first.toNat (s.pair p).n)
      let two := max 1 (min last.toNat (s.pair p).n)
      ∃ r t, exec (.relearn port b first last) s = .next (holdResponse port r t) ∧ r.status = .ok ∧
        r.body.take 2 = [BitVec.ofNat 8 (min one two), BitVec.ofNat 8 (max one two)] ∧
        t = { s with sig := { s.sig with entries := t.sig.entries } } ∧
        (∀ (p' : PairNo) (k : Nat), 1 ≤ k → k ≤ 192 → t.sigAt p' k =
          if p' = p ∧ min one two ≤ k ∧ k ≤ max one two then
            { s.sigAt p k with state := .learning, base := none, learn := 0, drift := 0, lastDev := none }
          else s.sigAt p' k)) ∧
    ((s.pair p).owner = some port → ∀ flag : Byte, flag.toNat = 1 ∨ flag.toNat = 2 →
      ∃ t, exec (.freeze port b flag) s = .next (holdResponse port (plainResp .ok [flag]) t) ∧
        t = { s with sig := { s.sig with freeze := t.sig.freeze } } ∧
        t.frozen p = decide (flag.toNat = 1) ∧ ∀ p', p' ≠ p → t.frozen p' = s.frozen p')

/-- R86: a lookup pass (MEASURE with track off, VERIFY, not OVERDRIVE) writes nothing and makes no DRIFT
observation; each qualifying record is VALID with its deviation from a TRACKING entry, and UNBASED from any
other, whatever the freeze flag. In an OVERDRIVE pass of any kind no entry plays a part. -/
def Obligations.LookupWritesNothing : Prop :=
  (sigMode .measure false false = .lookup ∧ sigMode .verify false false = .lookup ∧
    sigMode .verify true false = .lookup ∧ ∀ kind track, sigMode kind track true = .skip) ∧
  ∀ (par : Params) (p : PairNo) (records : List EchoRecord) (s : State),
    sigPass .lookup par p records s =
      (s, records.map (fun r => match r.level with
        | none => r
        | some v => match (s.sigAt p r.position).state, (s.sigAt p r.position).base with
          | .tracking, some base => { r with dev := some ((v : Int) - (base : Int)), status := .valid }
          | _, _ => { r with dev := none, status := .unbased }), []) ∧
    sigPass .skip par p records s =
      (s, records.map (fun r => if r.level = none then r
        else { r with dev := none, status := .unbased }), [])

/-- The law of R85, and R78: an evaluation moves the base of a TRACKING entry by at most step, writes no
base of a frozen pair, and in an update pass no entry but those of the covered positions. -/
def Obligations.EvaluationMovesBasesByStep : Prop :=
  ∀ (rec : PassRecord) (s : State) (p : PairNo) (k : Nat), 1 ≤ rec.first → rec.last ≤ 192 →
    1 ≤ k → k ≤ 192 →
    let t := evaluatePass rec s
    (∀ base, (s.sigAt p k).state = .tracking → (s.sigAt p k).base = some base →
      (t.sigAt p k).state = .tracking ∧
      ∃ base', (t.sigAt p k).base = some base' ∧ base' ≤ base + rec.params.step ∧
        base ≤ base' + rec.params.step) ∧
    (s.frozen p = true → (t.sigAt p k).base = (s.sigAt p k).base ∧
      (t.sigAt p k).state = (s.sigAt p k).state ∧ (t.sigAt p k).learn = (s.sigAt p k).learn ∧
      (t.sigAt p k).drift = (s.sigAt p k).drift) ∧
    (rec.pair ≠ some p ∨ k < rec.first ∨ rec.last < k → t.sigAt p k = s.sigAt p k) ∧
    t.sig.freeze = s.sig.freeze

/-- One entry in an update pass. A LOST record sets last level LOST, last deviation none and the last stamp;
state, base and counts are unchanged, frozen or not, and the record stays as it is (R79). R80, R82, R83 and R84
for a level on an unfrozen pair: the running mean while it learns, TRACKING at learn_n, the deviation from the
base held, and the three bands. On a frozen pair a level is stored as the last level, with its deviation from a
TRACKING entry's base and the stamp; the record is VALID with that deviation or UNBASED; nothing else moves
(R85). -/
def Obligations.EntryLearnsThenTracks : Prop :=
  (∀ (par : Params) (frozen : Bool) (e : SigEntry) (r : EchoRecord), r.level = none →
    sigStep .update par frozen e r =
      ({ state := e.state, base := e.base, learn := e.learn, drift := e.drift, lastLevel := .lost
         lastDev := none, lastStamp := r.stamp }, r, false)) ∧
  (∀ (par : Params) (e : SigEntry) (r : EchoRecord) (v : Nat), r.level = some v →
    let dev := match e.state, e.base with
      | .tracking, some base => some ((v : Int) - (base : Int))
      | _, _ => none
    sigStep .update par true e r =
      ({ state := e.state, base := e.base, learn := e.learn, drift := e.drift, lastLevel := .level v
         lastDev := dev, lastStamp := r.stamp },
        { r with dev := dev, status := if dev = none then .unbased else .valid }, false)) ∧
  ∀ (par : Params) (e : SigEntry) (r : EchoRecord) (v : Nat), r.level = some v →
    let u := sigStep .update par false e r
    (e.state = .empty ∨ (e.state = .learning ∧ (e.base = none ∨ e.learn = 0)) → u.1 =
      { state := if par.learnN ≤ 1 then .tracking else .learning, base := some v, learn := 1
        drift := e.drift, lastLevel := .level v, lastDev := none, lastStamp := r.stamp } ∧
      u.2.1 = { r with dev := none, status := .unbased } ∧ u.2.2 = false) ∧
    (∀ base, e.state = .learning → 1 ≤ e.learn → e.base = some base → u.1 =
      { state := if par.learnN ≤ e.learn + 1 then .tracking else .learning
        base := some ((base * e.learn + v + (e.learn + 1) / 2) / (e.learn + 1)), learn := e.learn + 1
        drift := e.drift, lastLevel := .level v, lastDev := none, lastStamp := r.stamp } ∧
      u.2.1 = { r with dev := none, status := .unbased } ∧ u.2.2 = false) ∧
    (∀ base, e.state = .tracking → e.base = some base →
      let d := (v : Int) - (base : Int)
      u.2.1 = { r with dev := some d, status := .valid } ∧
      u.1.state = .tracking ∧ u.1.learn = e.learn ∧ u.1.lastLevel = .level v ∧ u.1.lastDev = some d ∧
      u.1.lastStamp = r.stamp ∧
      (d.natAbs ≤ par.stable → u.1.drift = 0 ∧ u.2.2 = false ∧
        u.1.base = some ((base : Int) + max (-(par.step : Int)) (min d par.step)).toNat) ∧
      (par.stable < d.natAbs → d.natAbs ≤ par.wide → e.drift < 255 → u.1.base = some base ∧
        u.2.2 = decide (par.driftN ≤ e.drift + 1) ∧
        u.1.drift = if par.driftN ≤ e.drift + 1 then 0 else e.drift + 1) ∧
      (par.stable < d.natAbs → par.wide < d.natAbs → u.1.base = some base ∧ u.1.drift = e.drift ∧
        u.2.2 = false))

/-! ### Findings -/

/-- A detection meets the list (R102 to R104): it updates the finding at its place, or joins the end, evicting
the oldest CLEARED finding of a full list, or is dropped with LIST_FULL. The result says whether a CONFIRM
request is raised. -/
def Obligations.DetectionMeetsFindingList : Prop :=
  ∀ (par : Params) (p : PairNo) (stamp : Nat) (d : Detection) (s : State), FindingsLaw s →
    let u := applyDetection par p stamp d s
    let fresh := { pair := p, cls := d.cls, location := d.location
                   housing := ((s.pair p).housingAt d.location).getD 0, magnitude := d.magnitude
                   state := if par.confirmN ≤ 1 then .confirmed else .suspect
                   seen := 1, clean := 0, firstSeen := stamp, lastSeen := stamp : Finding }
    let asks := decide (1 < par.confirmN ∧ d.cls ≠ .drift)
    let told := (if par.confirmN ≤ 1 then 0x006#12 else 0x002#12)
    let owner := (s.pair p).owner.getD 0
    u.1 = { s with findings := u.1.findings, ports := u.1.ports } ∧
    (∀ f ∈ s.findings, f.pair = p → f.cls = d.cls → f.location = d.location →
      ∃ f', u.1.findings = s.findings.map (fun g => if g = f then f' else g) ∧
        (f.state = .isolated → f' = f ∧ u.2 = false ∧ u.1.ports = s.ports) ∧
        (f.state = .suspect ∨ f.state = .confirmed →
          f' = { f with
            seen := min (f.seen + 1) 255, clean := 0, lastSeen := stamp
            magnitude := if d.magnitude.isSome then d.magnitude else f.magnitude
            state := if par.confirmN ≤ min (f.seen + 1) 255 then .confirmed else f.state } ∧
          u.2 = false ∧
          (u.1.port owner).pendingSet =
            (s.port owner).pendingSet ||| (if f.state = .suspect ∧ par.confirmN ≤ min (f.seen + 1) 255
              then 0x004#12 else 0#12)) ∧
        (f.state = .cleared →
          f' = { f with
            seen := 1, clean := 0, lastSeen := stamp, magnitude := d.magnitude
            state := if par.confirmN ≤ 1 then .confirmed else .suspect } ∧
          u.2 = asks ∧ (u.1.port owner).pendingSet = (s.port owner).pendingSet ||| told)) ∧
    ((∀ f ∈ s.findings, ¬ (f.pair = p ∧ f.cls = d.cls ∧ f.location = d.location)) →
      (s.findings.length < 32 → u.1.findings = s.findings ++ [fresh] ∧ u.2 = asks ∧
        (u.1.port owner).pendingSet = (s.port owner).pendingSet ||| told) ∧
      (∀ older f younger, s.findings.length = 32 → s.findings = older ++ f :: younger →
        f.state = .cleared → (∀ g ∈ older, g.state ≠ .cleared) →
        u.1.findings = older ++ younger ++ [fresh] ∧ u.2 = asks) ∧
      (s.findings.length = 32 → (∀ f ∈ s.findings, f.state ≠ .cleared) →
        u.1.findings = s.findings ∧ u.2 = false ∧
        (u.1.port 0).pendingSet = (s.port 0).pendingSet ||| 0x080#12 ∧
        (u.1.port owner).pendingSet = (s.port owner).pendingSet ||| 0x080#12)) ∧
    (∀ x : Port, x ≠ owner → x ≠ 0 → u.1.port x = s.port x)

/-- A CONFIRM request for a location (R108) is taken (R109): it widens the pair's waiting CONFIRM job that has
never been ACTIVE, whose next position moves with the range (log 30), and leaves that job's number and age as
they are; else it makes an URGENT CONFIRM job in a free service slot; else it is not kept. -/
def Obligations.ConfirmRequestIsMergedOrQueued : Prop :=
  ∀ (par : Params) (p : PairNo) (k : Nat) (s : State), JobsLaw s →
    let t := takeConfirm (confirmRequest par s p k) s
    let first := max (k - 2) 1
    let last := min (k + 2) (s.pair p).n
    let q := min ((s.sched.patrols[p]).q + par.qConfirmAdd) 12
    let w := (s.sched.patrols[p]).w
    let waits := fun j : Job =>
      j.kind = .confirm ∧ j.pair = some p ∧ j.state = .queued ∧ j.everActive = false
    t = { s with sched := { s.sched with jobs := t.sched.jobs, lastNumber := t.sched.lastNumber } } ∧
    ((∃ j ∈ s.sched.jobs, waits j) → t.sched.lastNumber = s.sched.lastNumber ∧
      t.sched.jobs.length = s.sched.jobs.length ∧
      ∀ (i : Nat) (j : Job), s.sched.jobs[i]? = some j →
        (¬ waits j → t.sched.jobs[i]? = some j) ∧
        (∀ a b, waits j → j.range = some (a, b) → t.sched.jobs[i]? = some { j with
          range := some (min a first, max b last), progress := min a first, q := max j.q q
          w := max j.w w })) ∧
    ((∀ j ∈ s.sched.jobs, ¬ waits j) →
      (s.serviceSlotsUsed < 8 →
        t.sched.lastNumber = nextNumber s.sched.lastNumber s.sched.jobs ∧
        t.sched.jobs = s.sched.jobs ++
          [{ number := t.sched.lastNumber, requester := .internal, kind := .confirm, cls := .urgent
             pair := some p, range := some (first, last), q := q, w := w, track := false, cmd := none
             state := .queued, progress := first, passes := 0, preempts := 0, outcome := none
             displaced := false, dark := none, everActive := false, cancelPending := false }]) ∧
      (8 ≤ s.serviceSlotsUsed → t = s))

/-- The clean observations of a pass (R105, R106): an examined finding observed clean leaves the list while
SUSPECT, counts toward CLEARED while CONFIRMED, and every other finding stays as it is, in its place. -/
def Obligations.CleanSightingsClearFindings : Prop :=
  ∀ (par : Params) (p : PairNo) (a b : Nat) (records : List EchoRecord) (found : List Detection)
    (s : State) (clean : Finding → Bool),
    (∀ f, clean f = true ↔ f.pair = p ∧ f.state ≠ .isolated ∧ a ≤ f.location ∧ f.location ≤ b ∧
      (∀ d ∈ found, ¬ (d.cls = f.cls ∧ d.location = f.location)) ∧
      ∃ r, records.find? (fun r => r.position = f.location) = some r ∧ r.status = .valid ∧
        (f.cls = .drift → (r.dev.getD 0).natAbs ≤ par.stable)) →
    let t := cleanObservations par p a b records found s
    let more := fun f : Finding => min (f.clean + 1) 255
    t.findings = s.findings.filterMap (fun f =>
      if clean f then match f.state with
        | .suspect => none
        | .confirmed => some { f with
            clean := more f, state := if par.clearN ≤ more f then .cleared else .confirmed }
        | .cleared => some { f with clean := more f }
        | .isolated => some f
      else some f) ∧
    ((∀ f ∈ s.findings, clean f = true → f.state = .confirmed → more f < par.clearN) → t.ports = s.ports) ∧
    ((∃ f ∈ s.findings, clean f = true ∧ f.state = .confirmed ∧ par.clearN ≤ more f) →
      (t.port ((s.pair p).owner.getD 0)).pendingSet =
        (s.port ((s.pair p).owner.getD 0)).pendingSet ||| 0x008#12)

/-- The classes of a pass over consecutive positions (R97 to R101). A trailing run of LOST records that is a
BREAK run has the BREAK at its first position, unless suppressed, and no other class; a LOST record below it
is an ECHO_LOSS; an UNBASED record has no class. A VALID record is judged by its step from the reference: the
nearest VALID record below it that is no LOOPBACK, else 0 at the station's end, else the last deviation of a
TRACKING entry below the pass, else 0. DRIFT observations are detections beside these classes, and give a
record its class where it has no other. -/
def Obligations.PassIsClassified : Prop :=
  (∀ (thr a n : Nat) (below : SigEntry) (up lost : List EchoRecord), 1 ≤ a →
    (up ++ lost).map EchoRecord.position = List.range' a (up.length + lost.length) →
    (∀ r ∈ lost, r.status = .lost) → (∀ r, up.getLast? = some r → r.status ≠ .lost) →
    let classes := classify thr a n below (up ++ lost)
    let isBreak := 2 ≤ lost.length ∨ (1 ≤ lost.length ∧ a + up.length + lost.length = n + 1)
    classes.length = up.length + lost.length ∧
    (isBreak →
      classes[up.length]? = some (if up = [] ∧ 1 < a ∧ below.lastLevel = .lost then none
        else some .break_, none) ∧
      ∀ i, up.length < i → i < up.length + lost.length → classes[i]? = some (none, none)) ∧
    (∀ (i : Nat) (r : EchoRecord), (up ++ lost)[i]? = some r → r.status = .lost →
      (i < up.length ∨ ¬ isBreak) → classes[i]? = some (some .echoLoss, none))) ∧
  (∀ (thr a n : Nat) (below : SigEntry) (records : List EchoRecord), 1 ≤ a →
    records.map EchoRecord.position = List.range' a records.length →
    (∀ r ∈ records, r.status = .valid → r.dev ≠ none) →
    let classes := classify thr a n below records
    let serves := fun (i : Nat) (x : Int) => ∃ r, records[i]? = some r ∧ r.status = .valid ∧
      r.dev = some x ∧ ∀ m, classes[i]? ≠ some (some .loopback, m)
    ∀ (i : Nat) (r : EchoRecord), records[i]? = some r →
      (r.status = .unbased → classes[i]? = some (none, none)) ∧
      ∀ d ref, r.status = .valid → r.dev = some d →
        ((∃ m < i, serves m ref ∧ ∀ m', m < m' → m' < i → ∀ x, ¬ serves m' x) ∨
          ((∀ m < i, ∀ x, ¬ serves m x) ∧
            ref = match below.state, below.lastDev with
              | .tracking, some x => if a = 1 then 0 else x
              | _, _ => 0)) →
        let next := (records.drop (i + 1)).findSome? (fun q => if q.status = .valid then q.dev else none)
        ((d - ref).natAbs ≤ thr → classes[i]? = some (none, none)) ∧
        (thr < (d - ref).natAbs →
          (∀ j, next = some j → thr < (j - d).natAbs → (j - ref).natAbs ≤ thr →
            classes[i]? = some (some .loopback, some (d - ref))) ∧
          ((∀ j, next = some j → (j - d).natAbs ≤ thr ∨ thr < (j - ref).natAbs) →
            classes[i]? = some (some .gainStep, some (d - ref))))) ∧
  (∀ (rec : PassRecord) (p : PairNo) (stamp : Nat) (records : List EchoRecord) (drifts : List (Nat × Int))
    (s : State), 1 ≤ rec.first → records.map EchoRecord.position = List.range' rec.first records.length →
    (drifts.map Prod.fst).Nodup →
    let classes := classify rec.params.stepThr rec.first (s.pair p).n (s.sigAt p (rec.first - 1)) records
    let found := detections drifts records classes
    (∀ (i : Nat) (r : EchoRecord) (c : Option FindingClass × Option Int), records[i]? = some r →
      classes[i]? = some c →
      (locate rec p stamp records drifts s).2[i]? = some { r with
        cls := if c.1 ≠ none then c.1
          else if r.position ∈ drifts.map Prod.fst then some .drift else none }) ∧
    (∀ d, d ∈ found ↔ ∃ (i : Nat) (r : EchoRecord) (c : Option FindingClass × Option Int),
      records[i]? = some r ∧ classes[i]? = some c ∧ d.location = r.position ∧
      ((c.1 = some d.cls ∧ d.magnitude = c.2) ∨
        (d.cls = .drift ∧ ∃ x, (r.position, x) ∈ drifts ∧ d.magnitude = some x))) ∧
    found.Pairwise (fun d e => d.location < e.location ∨ (d.location = e.location ∧ e.cls = .drift)))

/-- R111: DISMISS removes the one finding named, in any state, with no notice; its refusals in the order of
the table. R107: at each whole second every SUSPECT last seen more than suspect_ttl minutes before is removed,
by the value held at the check; nothing else changes and no notice is raised. -/
def Obligations.DismissAndExpiryRemoveFindings : Prop :=
  (∀ (port : Port) (b c location : Byte) (s : State), s.canTake port = true →
    let refused := fun st body => exec (.dismiss port b c location) s =
      .next (holdResponse port (plainResp st body) s)
    (c.toNat = 0 ∨ 5 < c.toNat → refused .malformed []) ∧
    (1 ≤ c.toNat → c.toNat ≤ 5 → 15 < b.toNat → refused .invalid []) ∧
    ∀ (p : PairNo) (cls : FindingClass), b.toNat = p.val → classCode cls = c.toNat →
      ((s.pair p).owner ≠ some port → (s.port port).role = .tenant → refused .denied []) ∧
      ((s.pair p).owner = some port ∨ (s.port port).role = .station →
        ((s.pair p).state = .unrouted → refused .invalid [1#8]) ∧
        ((s.pair p).state = .edit → refused .invalid [2#8]) ∧
        ((s.pair p).state = .routed →
          ((∀ f ∈ s.findings, ¬ (f.pair = p ∧ f.cls = cls ∧ f.location = location.toNat)) →
            refused .noSuch []) ∧
          ((∃ f ∈ s.findings, f.pair = p ∧ f.cls = cls ∧ f.location = location.toNat) →
            exec (.dismiss port b c location) s = .next (holdResponse port (plainResp .ok [])
              { s with findings := s.findings.filter (fun f =>
                ¬ (f.pair = p ∧ f.cls = cls ∧ f.location = location.toNat)) }))))) ∧
  (∀ s : State, s.lineTime % 1000 = 0 →
    exec .suspectExpiryCheck s = .next { s with
      findings := s.findings.filter (fun f =>
        ¬ (f.state = .suspect ∧ f.lastSeen + s.params.suspectTtl * 60000 < s.lineTime)) })

/-! ### The Line Map -/

/-- WRITE_HOUSING by the table of R3, and ROUTE_OPEN, BUSY or accepted (R8, R9). An ABSENT write that a route
stops names the lowest such pair and the lowest position of the housing (log 33); one of a housing already
ABSENT is OK whatever routes hold it (log 34). -/
def Obligations.HousingIsWrittenAndRouteOpened : Prop :=
  ∀ (port : Port) (s : State), s.canTake port = true → (s.port port).role = .station →
    (∀ h v : Byte, (h.toNat = 0 ∨ 192 < h.toNat) → v.toNat = 1 ∨ v.toNat = 2 →
      exec (.writeHousing port h v) s = .next (holdResponse port (plainResp .invalid []) s)) ∧
    (∀ h v : Byte, 1 ≤ h.toNat → h.toNat ≤ 192 → v.toNat = 1 ∨ v.toNat = 2 →
      (∀ p : PairNo, v.toNat = 1 → (s.housing h.toNat).presence = .present →
        (s.pair p).state ≠ .unrouted → (∃ e ∈ (s.pair p).route, e.housing = h.toNat) →
        (∀ q < p, (s.pair q).state ≠ .unrouted → ∀ e ∈ (s.pair q).route, e.housing ≠ h.toNat) →
        ∃ k, 1 ≤ k ∧ (s.pair p).housingAt k = some h.toNat ∧
          (∀ i < k, (s.pair p).housingAt i ≠ some h.toNat) ∧ exec (.writeHousing port h v) s =
          .next (holdResponse port (plainResp .invalid [BitVec.ofNat 8 p.val, BitVec.ofNat 8 k]) s)) ∧
      (v.toNat = 2 ∨ (s.housing h.toNat).presence = .absent ∨ (∀ p : PairNo, (s.pair p).state ≠ .unrouted →
          ∀ e ∈ (s.pair p).route, e.housing ≠ h.toNat) →
        ∃ t, exec (.writeHousing port h v) s = .next (holdResponse port (plainResp .ok []) t) ∧
          t = { s with lineMap := { s.lineMap with housings := t.lineMap.housings } } ∧
          ∀ h', 1 ≤ h' → h' ≤ 192 → t.housing h' =
            if h' ≠ h.toNat then s.housing h'
            else if v.toNat = 2 then { s.housing h' with presence := .present }
            else if (s.housing h').presence = .present then Housing.powerOn else s.housing h')) ∧
    (∀ (b o chip drive : Byte) (quietBase : Half) (p : PairNo), b.toNat = p.val →
      ((∃ j ∈ s.sched.jobs, j.pair = some p ∧ j.state ≠ .ended) ∨
        (∃ r ∈ s.channel.concur, r.pair = p ∨ r.pair = partner p)) →
      exec (.routeOpen port b o chip drive quietBase) s =
        .next (holdResponse port (plainResp .busy []) s)) ∧
    (∀ (b o chip drive : Byte) (quietBase : Half) (p : PairNo), b.toNat = p.val →
      (∀ j ∈ s.sched.jobs, j.pair = some p → j.state = .ended) →
      (∀ r ∈ s.channel.concur, r.pair ≠ p ∧ r.pair ≠ partner p) →
      let n := max 11 (min o.toNat 15)
      ∃ r t, exec (.routeOpen port b o chip drive quietBase) s = .next (holdResponse port r t) ∧
        r.status = .ok ∧
        t = { s with
          lineMap := { s.lineMap with pairs := t.lineMap.pairs }
          sig := { s.sig with entries := t.sig.entries }
          findings := s.findings.filter (fun f => f.pair ≠ p)
          sched := { s.sched with patrols := t.sched.patrols } } ∧
        (∀ q, t.pair q = if q = p then
            { state := .edit, owner := (s.pair p).owner, profile := ⟨n, min chip.toNat 4, drive.toNat⟩
              quietBase := max 4 (min quietBase.toNat (2 ^ n - 5)), route := [] }
          else s.pair q) ∧
        (∀ (q : PairNo) (k : Nat), t.sigAt q k = if q = p then SigEntry.powerOn else s.sigAt q k) ∧
        (∀ q : PairNo, t.sched.patrols[q] = if q = p then { s.sched.patrols[p] with timer := none }
          else s.sched.patrols[q]))

/-- ROUTE_ENTRIES writes entries of a pair in EDIT (R10), and ROUTE_CLOSE makes the pair ROUTED exactly when
its route is valid; otherwise it changes nothing and is INVALID with the reason and position of the first test
that fails (R11, R12). It is OK on a valid route also while an open concurrence record concerns the pair, which is
the model's reading of R11 beside R160 (log 38). -/
def Obligations.RouteIsBuiltAndClosed : Prop :=
  ∀ (port : Port) (b : Byte) (p : PairNo) (s : State), s.canTake port = true →
    (s.port port).role = .station → b.toNat = p.val → (s.pair p).state = .edit →
    let pr := s.pair p
    let L := 2 ^ pr.profile.order - 1
    (∀ (first : Byte) (entries : List (Byte × Half)), 1 ≤ first.toNat → first.toNat ≤ pr.n + 1 →
      1 ≤ entries.length → entries.length ≤ 48 →
      (∀ e ∈ entries, 1 ≤ e.1.toNat ∧ e.1.toNat ≤ 192) →
      let written := (entries.take (193 - first.toNat)).map
        (fun e => (⟨e.1.toNat, min e.2.toNat (L - 1)⟩ : RouteEntry))
      ∃ r t, exec (.routeEntries port b first entries) s = .next (holdResponse port r t) ∧
        r.status = .ok ∧ r.body.take 1 = [BitVec.ofNat 8 (t.pair p).n] ∧
        t = s.setPair p (fun x => { x with route := (t.pair p).route }) ∧
        (t.pair p).n = max pr.n (first.toNat - 1 + written.length) ∧
        ∀ i < (t.pair p).n, (t.pair p).route[i]? =
          if first.toNat - 1 ≤ i ∧ i < first.toNat - 1 + written.length then
            written[i - (first.toNat - 1)]? else pr.route[i]?) ∧
    (let valid := 1 ≤ pr.n ∧ (∀ e ∈ pr.route, (s.housing e.housing).presence = .present) ∧
       (pr.route.map RouteEntry.housing).Nodup ∧ (pr.route.map RouteEntry.lag).Pairwise (· < ·) ∧
       (∀ e ∈ pr.route, e.lag + 3 < pr.quietBase) ∧ pr.quietBase + 3 < L
     (valid → exec (.routeClose port b) s = .next (holdResponse port (plainResp .ok [BitVec.ofNat 8 pr.n])
       ((s.setPair p (fun x => { x with state := .routed })).setPatrol p (fun t =>
         { t with timer := if t.interval = 0 then none
           else some (s.lineTime + t.interval * 60000) })))) ∧
     let refused := fun (reason position : Nat) => exec (.routeClose port b) s = .next (holdResponse port
       (plainResp .invalid [BitVec.ofNat 8 reason, BitVec.ofNat 8 position]) s)
     let failing := fun (k : Nat) (e : RouteEntry) =>
       if (s.housing e.housing).presence ≠ .present then 2
       else if (pr.route.take (k - 1)).any (fun d => d.housing = e.housing) then 3
       else if 2 ≤ k ∧ (pr.route[k - 2]?).any (fun d => e.lag ≤ d.lag) then 4 else 0
     let passes := fun k : Nat => ∀ e, pr.route[k - 1]? = some e → failing k e = 0
     (¬ valid → ∃ reason position : Nat, refused reason position) ∧
     (pr.n = 0 → refused 1 0) ∧
     (∀ k e, 1 ≤ k → pr.route[k - 1]? = some e → (∀ i, 1 ≤ i → i < k → passes i) → failing k e ≠ 0 →
       refused (failing k e) k) ∧
     (∀ last, pr.route.getLast? = some last → (∀ k, 1 ≤ k → k ≤ pr.n → passes k) →
       (pr.quietBase ≤ last.lag + 3 → refused 5 pr.n) ∧
       (last.lag + 3 < pr.quietBase → L ≤ pr.quietBase + 3 → refused 6 pr.n)))

/-- ASSIGN (R14, R165): BUSY while the pair has work or is concerned, or while a shared-effect word of a job on
the partner pair is being sent; naming the owner again changes nothing; else the owner is written. Each
shared-effect COMMAND job on the partner pair, not ENDED and its command not completed, whose consent does not
cover the new owner has basis LAPSED and, outside an exchange, ends DECLINED with JOB_ENDED. Other jobs stay as
they are; then the arbiter decides. That a lapse while the NOP prefix is being sent waits for the exchange end is
the model's reading (log 24). -/
def Obligations.AssignWritesOwnerAndLapsesConsent : Prop :=
  ∀ (port : Port) (b : Byte) (p : PairNo) (o : Option Port) (s : State), s.canTake port = true →
    (s.port port).role = .station → b.toNat = p.val →
    let field := o.map (fun x => BitVec.ofNat 8 x.val)
    let x := s.channel.exchange
    let shared := fun c : CommandFields => c.opcode = .selectPump ∨ c.opcode = .trimGain
    let busy := (∃ j ∈ s.sched.jobs, j.pair = some p ∧ j.state ≠ .ended) ∨
      (∃ r ∈ s.channel.concur, r.pair = p ∨ r.pair = partner p) ∨
      (x.phase = .sending ∧ x.word ≠ .nopPrefix ∧ ∃ j ∈ s.sched.jobs, j.number = x.job ∧
        j.pair = some (partner p) ∧ ∃ c, j.cmd = some c ∧ shared c)
    let lapses := fun j : Job => j.kind = .command ∧ j.pair = some (partner p) ∧ j.state ≠ .ended ∧
      (∃ c, j.cmd = some c ∧ shared c ∧ c.completed = false) ∧
      ∃ new, o = some new ∧ j.requester ≠ .port new ∧
        ∀ c, j.cmd = some c → ¬ (c.basis = .given ∧ c.askedPort = some new)
    let exchanging := fun j : Job => x.phase ≠ .idle ∧ x.job = j.number
    (busy → exec (.assign port b field) s = .next (holdResponse port (plainResp .busy []) s)) ∧
    (¬ busy →
      (o = (s.pair p).owner →
        exec (.assign port b field) s = .next (holdResponse port (plainResp .ok []) s)) ∧
      (o ≠ (s.pair p).owner → JobsLaw s →
        ∃ u, exec (.assign port b field) s =
            .next (holdResponse port (plainResp .ok []) (arbitrate u)) ∧
          u = { s.setPair p (fun r => { r with owner := o }) with
            sched := { s.sched with jobs := u.sched.jobs, results := u.sched.results }
            ports := u.ports } ∧
          u.sched.jobs.length = s.sched.jobs.length ∧
          (∀ (i : Nat) (j : Job), s.sched.jobs[i]? = some j →
            (¬ lapses j → u.sched.jobs[i]? = some j) ∧
            (∀ c, lapses j → j.cmd = some c →
              (exchanging j → u.sched.jobs[i]? = some { j with cmd := some { c with basis := .lapsed } }) ∧
              (¬ exchanging j → u.sched.jobs[i]? = some { j with
                cmd := some { c with basis := .lapsed }, state := .ended
                outcome := some .declined }))) ∧
          ∀ q : Port,
            ((∃ j ∈ s.sched.jobs, lapses j ∧ ¬ exchanging j ∧ j.requester = .port q) →
              u.port q = { s.port q with pendingSet := (s.port q).pendingSet ||| 0x001#12 }) ∧
            ((∀ j ∈ s.sched.jobs, lapses j → exchanging j ∨ j.requester ≠ .port q) →
              u.port q = s.port q ∧ u.sched.results[q] = s.sched.results[q])))

/-! ### The dark offset and the synthetic line -/

/-- SET_DARK_MODE (R47), and the decision of a calibration after its D-th sample (R44, R45). The decision falls at
DARK_SAMPLING_END, a command of its own: a SET_DARK_MODE(MANUAL) taken between the D-th SAMPLE_STROBE and that
event makes the result HELD, and a tick between them moves the time in the fault log. That is the model's choice
(log 41); R44 to R46 speak of the D-th sample itself. -/
def Obligations.DarkOffsetIsSetAndCalibrated : Prop :=
  (∀ (port : Port) (v : Half) (s : State), s.canTake port = true → (s.port port).role = .station →
    (∃ r t, exec (.setDarkModeManual port v) s = .next (holdResponse port r t) ∧ r.status = .ok ∧
      t = { s with intake := { s.intake with
        offset := min v.toNat 16383, darkState := .manual } } ∧
      (r.adjusted = true ↔ 16383 < v.toNat)) ∧
    (∃ body, exec (.setDarkModeAuto port) s = .next (holdResponse port (plainResp .ok body)
      { s with intake := { s.intake with
        darkState := if s.intake.darkState ≠ .manual then s.intake.darkState
          else if s.intake.everCal then .calibrated else .uncalibrated } }))) ∧
  (∀ (s : State) (a : DarkAcc) (j : Job), JobsLaw s → s.seq.state = .dark → s.seq.work = .sampling →
    s.intake.acc = some a → a.count = 2 ^ s.intake.dd → s.active? = some j → j.kind = .dark →
    let i := s.intake
    let clipped := 2 ^ (i.dd - 6) < a.clips
    let i' := if i.darkState = .manual ∨ clipped then i
      else { i with
        offset := (a.sum + 2 ^ i.dd / 2) / 2 ^ i.dd, darkState := .calibrated, everCal := true }
    ∃ u k, exec .darkSamplingEnd s = .next (arbitrate (endJob j.number .complete u)) ∧
      u.intake = { i' with acc := none } ∧
      u.seq = { s.seq with
        state := if s.seq.faultHold then .switchFault else .parked, work := .idle, current := none
        goal := none, running := false, filled := false } ∧
      u.job? j.number = some k ∧ k = { j with dark := k.dark } ∧
      k.dark = some
        { result := if i.darkState = .manual then .held else if clipped then .rejected else .accepted
          offset := i'.offset, clips := if i.darkState = .manual then none else some a.clips } ∧
      u.sig = s.sig ∧ u.findings = s.findings ∧ u.lineMap = s.lineMap ∧ u.corr = s.corr ∧
      u.channel = s.channel ∧
      (if i.darkState ≠ .manual ∧ clipped then
        (u.port 0).pendingSet = (s.port 0).pendingSet ||| 0x100#12 ∧
        (s.sched.faultLog.record = none → u.sched.faultLog.record = some
          { kind := .darkRejected, time := s.lineTime, job := some j.number
            requester := some j.requester, pair := none }) ∧
        (s.sched.faultLog.record ≠ none →
          u.sched.faultLog = { s.sched.faultLog with overrun := true })
      else u.ports = s.ports ∧ u.sched.faultLog = s.sched.faultLog))

/-- SYNTH_DEFINE (R182): the checks after clamping, then BUSY, then the definition held and the noise register
loaded from its seed. -/
def Obligations.SynthDefinitionIsHeld : Prop :=
  ∀ (port : Port) (o mode : Byte) (quietBase dc noise seed : Half) (m : NoiseMode)
    (echoes : List (Half × Half)) (s : State), s.canTake port = true → (s.port port).role = .station →
    noiseModeCode m = mode.toNat → 1 ≤ echoes.length → echoes.length ≤ 8 →
    let n := max 11 (min o.toNat 15)
    let d : SynthDef :=
      { order := n, quietBase := max 4 (min quietBase.toNat (2 ^ n - 5)), dc := min dc.toNat 16383
        noise := min noise.toNat 4095, seed := max 1 seed.toNat, mode := m
        echoes := echoes.map (fun e => ⟨min e.1.toNat (2 ^ n - 2), min e.2.toNat 8191⟩) }
    let valid := (d.echoes.map SynthEcho.lag).Pairwise (· < ·) ∧
      ∀ e ∈ d.echoes, e.lag + 3 < d.quietBase
    let busy := ∃ j ∈ s.sched.jobs, j.kind = .synth ∧ j.state ≠ .ended
    (valid → ¬ busy → ∃ r, exec (.synthDefine port o quietBase dc noise seed mode echoes) s =
        .next (holdResponse port r { s with synth := ⟨some d, BitVec.ofNat 16 d.seed⟩ }) ∧
      r.status = .ok) ∧
    (valid → busy → exec (.synthDefine port o quietBase dc noise seed mode echoes) s =
      .next (holdResponse port (plainResp .busy []) s)) ∧
    (¬ valid → ∃ i : Byte, exec (.synthDefine port o quietBase dc noise seed mode echoes) s =
      .next (holdResponse port (plainResp .invalid [i]) s))

/-! ### The probe sequence -/

/-- SETTLE_END where the feedback matches or the hold is set (R24, R26, R29, R142, R149, R184): the state the
order called for, a run or a synthetic run with the generator restarted from the seed, the latter with the
noise register loaded in FIXED mode; for a COMMAND job before its first word, that word, and for one whose
words are done the run for its verify pass. Before the settle's end the event changes nothing (log 2). -/
def Obligations.SettleEntersOrderedState : Prop :=
  ∀ (fb : BitVec 5) (s : State), s.seq.state = .settling →
    (s.lineTime < s.seq.settleEnd → exec (.settleEnd fb) s = .next s) ∧
    (s.seq.settleEnd ≤ s.lineTime → fb.toNat = s.seq.position ∨ s.seq.faultHold = true →
      let filling := fun (p : PairNo) (prof : Profile) => { s.seq with
        state := .filling, current := some (p, prof), goal := none, tone := [], held := none
        work := .idle, filled := false, gen := BitVec.ofNat 15 (2 ^ prof.order - 1)
        genOrder := prof.order, running := true, runChips := 0, boundaryTaken := false }
      (∀ p prof, s.seq.goal = some (.runPair p prof) →
        ((∀ j c, s.active? = some j → j.cmd = some c → c.wordStarted = true) →
          exec (.settleEnd fb) s = .next { s with seq := filling p prof }) ∧
        (∀ j c, s.active? = some j → j.cmd = some c → j.pair = some p → c.wordStarted = false →
          let toggle := s.toggleOf c.housing (pairGroup p)
          let word := if toggle = none then CmdWord.nopPrefix else .word1
          let bit := match toggle with
            | some b => !b
            | none => false
          ∃ t, exec (.settleEnd fb) s = .next t ∧ t.seq.state = .tone ∧
            t.seq.current = some (p, (s.pair p).profile) ∧ t.seq.toneStart = s.lineTime ∧
            t.seq.tone = [true, false, true, false, true, false, true, false] ++ wordBits p c word bit ∧
            t.channel.exchange.phase = .sending ∧ t.channel.exchange.job = j.number ∧
            t.channel.exchange.word = word ∧ t.channel.exchange.toggle = bit ∧
            t.channel.exchange.tries = 1 ∧
            t.sched.jobs = s.sched.jobs.map (fun k => if k.number ≠ j.number then k
              else { k with cmd := k.cmd.map (fun c => { c with
                next := .word word, wordStarted := true
                reply := noteSending word bit 1 c.reply }) }) ∧
            t = { s with
              seq := t.seq, channel := { s.channel with exchange := t.channel.exchange }
              sched := { s.sched with jobs := t.sched.jobs } })) ∧
      (s.seq.goal = some .darkSample →
        exec (.settleEnd fb) s = .next { s with
          seq := { s.seq with
            state := .dark, work := .sampling, current := none, goal := none, running := false
            filled := false }
          intake := { s.intake with acc := some ⟨0, 0, 0⟩ } }) ∧
      (∀ p prof bits, s.seq.goal = some (.sendWord p prof bits) →
        exec (.settleEnd fb) s = .next { s with
          seq := { s.seq with
            state := .tone, current := some (p, prof), goal := none
            tone := [true, false, true, false, true, false, true, false] ++ bits, toneStart := s.lineTime
            held := none, running := false, work := .idle, filled := false } }) ∧
      (∀ n noise, s.seq.goal = some (.darkChips n) →
        (noise = match s.synth.defn with
          | some d => if d.mode = .fixed then BitVec.ofNat 16 d.seed else s.synth.noise
          | none => s.synth.noise) →
        exec (.settleEnd fb) s = .next { s with
          seq := { s.seq with
            state := .dark, work := .chips, current := none, goal := none, filled := false
            gen := BitVec.ofNat 15 (2 ^ n - 1), genOrder := n, running := true, runChips := 0
            boundaryTaken := false }
          intake := { s.intake with acc := none }
          synth := { s.synth with noise := noise } }) ∧
      (s.seq.goal = some .endDark →
        exec (.settleEnd fb) s = .next { s with
          seq := { s.seq with
            state := if s.seq.faultHold then .switchFault else .parked, work := .idle, current := none
            goal := none, running := false, filled := false }
          intake := { s.intake with acc := none } }))

/-- What the sequencer drives (R20, R22, R28, R29): in FILLING and STEADY MOD_OUT follows the chip, DRV carries
the drive level in use and a strobe is given each chip period; in TONE MOD_OUT carries the symbols, 4 ms each,
a 1 as 2.5 kHz and a 0 as 1.25 kHz, bright first, with no strobe; else MOD_OUT is dark and DRV is 0, with a
strobe each 10 µs of dark sampling or of a synthetic run. -/
def Obligations.OutputsFollowSequencer : Prop :=
  ∀ (q : Sequencer) (us : Nat),
    (q.state = .filling ∨ q.state = .steady → ∀ p prof, q.current = some (p, prof) →
      modOut q us = q.gen.getLsbD (q.genOrder - 1) ∧ drvOut q = prof.drive ∧
      ∀ period, [5, 10, 20, 40, 80][prof.chipCode]? = some period → strobeUs q = some period) ∧
    (q.state = .tone → ∀ p prof, q.current = some (p, prof) → drvOut q = prof.drive ∧ strobeUs q = none ∧
      ∀ (symbol : Bool) (i : Nat), q.tone[i]? = some symbol → us / 4000 = i →
        (modOut q us = true ↔ us % 4000 / (if symbol then 200 else 400) % 2 = 0)) ∧
    (q.state = .parked ∨ q.state = .settling ∨ q.state = .switchFault →
      modOut q us = false ∧ drvOut q = 0 ∧ strobeUs q = none) ∧
    (q.state = .dark → modOut q us = false ∧ drvOut q = 0 ∧
      strobeUs q = if q.work = .idle then none else some 10)

/-- A switch fault, at a settle end or at a pass end (R24, R30, R33, R135). On a pair position: SWITCH_FAULT
with the hold, the pass discarded, the ACTIVE job SUSPENDED with its progress kept, the log and the notices;
signatures, findings, lists and statistics stand, and then the arbiter decides. A job whose cancel waits for
the end of that pass is ended by it (R130, log 32). On the dark position: the hold, the log and the notices,
and the settle end or pass end goes on as with the hold set before it: dark work and a synthetic pass run
on. -/
def Obligations.SwitchFaultSuspendsWork : Prop :=
  ∀ (fb : BitVec 5) (s : State), fb.toNat ≠ s.seq.position → s.seq.faultHold = false →
    let logged := fun (u : State) (pair : Option PairNo) =>
      (s.sched.faultLog.record = none → u.sched.faultLog = { s.sched.faultLog with
        record := some ⟨.switchFault, s.lineTime, s.active?.map Job.number, s.active?.map Job.requester,
          pair⟩ }) ∧
      (s.sched.faultLog.record ≠ none → u.sched.faultLog = { s.sched.faultLog with overrun := true })
    let asks := fun q : Port => q = 0 ∨ s.active?.map Job.requester = some (.port q)
    (∀ p : PairNo, s.seq.position = p.val →
      let u := faultOnPair s
      ((s.seq.state = .settling → s.seq.goal ≠ none → s.seq.settleEnd ≤ s.lineTime →
          exec (.settleEnd fb) s = .next (arbitrate u)) ∧
        (∀ rec, endingPass s = some rec → exec (.accumulationEnd fb) s =
          .next (arbitrate (faultOnPair { s with seq := { s.seq with boundaryTaken := true } })))) ∧
      u.seq = { s.seq with
        state := .switchFault, faultHold := true, current := none, goal := none, running := false } ∧
      u.corr = { state := .idle, pass := none, slot := none, cells := Vector.replicate 64 Cell.cleared } ∧
      logged u (some p) ∧
      u.sig = s.sig ∧ u.findings = s.findings ∧ u.sched.stats = s.sched.stats ∧
      u.lineMap = s.lineMap ∧ u.intake = s.intake ∧ u.channel = s.channel ∧
      ((∀ j, s.active? = some j → j.cancelPending = false) →
        u.sched.jobs = (match s.active? with
          | none => s.sched.jobs
          | some j => s.sched.jobs.map (fun k =>
            if k.number = j.number then { k with state := .suspended } else k)) ∧
        u.sched.results = s.sched.results ∧
        ∀ q : Port, (asks q → u.port q =
            { s.port q with pendingSet := (s.port q).pendingSet ||| 0x200#12 }) ∧
          (¬ asks q → u.port q = s.port q)) ∧
      (∀ j r, s.active? = some j → j.cancelPending = true → j.requester = .port r → s.job? j.number = some j →
        u.sched.jobs = s.sched.jobs.map (fun k => if k.number = j.number then
          { k with state := .ended, outcome := some .cancelled } else k) ∧
        ∀ q : Port, (q = r → u.port q =
            { s.port q with pendingSet := (s.port q).pendingSet ||| 0x201#12 }) ∧
          (q ≠ r → (asks q → u.port q =
              { s.port q with pendingSet := (s.port q).pendingSet ||| 0x200#12 }) ∧
            (¬ asks q → u.port q = s.port q) ∧ u.sched.results[q] = s.sched.results[q]))) ∧
    (s.seq.position = 16 →
      ∃ v, v = { s with
          seq := { s.seq with faultHold := true }, ports := v.ports
          sched := { s.sched with faultLog := v.sched.faultLog } } ∧
        logged v none ∧
        (∀ q : Port, (asks q → v.port q =
            { s.port q with pendingSet := (s.port q).pendingSet ||| 0x200#12 }) ∧
          (¬ asks q → v.port q = s.port q)) ∧
        (∀ o, s.seq.state = .settling → s.seq.goal = some o → o.isDark = true →
          s.seq.settleEnd ≤ s.lineTime → exec (.settleEnd fb) s = exec (.settleEnd fb) v) ∧
        (∀ rec, endingPass s = some rec → exec (.accumulationEnd fb) s = exec (.accumulationEnd fb) v))

/-- The boundaries of a run (R20, R27, R29, R57 to R60): the first ends the fill and starts a waiting pass, the
later ones count the pass's periods down, and the last hands the pass to its evaluation. With no boundary due
these events change nothing (log 2). -/
def Obligations.BoundariesRunPass : Prop :=
  ∀ (s : State) (fb : BitVec 5),
    (s.seq.running = false ∨ s.seq.boundaryTaken = true ∨ s.seq.runChips = 0 ∨
        s.seq.gen ≠ BitVec.ofNat 15 (2 ^ s.seq.genOrder - 1) →
      exec .fillEnd s = .next s ∧ exec .periodBoundary s = .next s ∧
      exec (.accumulationEnd fb) s = .next s ∧ exec .slotStart s = .next s ∧
      exec .slotResult s = .next s) ∧
    (s.seq.running = true → s.seq.boundaryTaken = false → 0 < s.seq.runChips →
      s.seq.gen = BitVec.ofNat 15 (2 ^ s.seq.genOrder - 1) →
      let taken := { s.seq with boundaryTaken := true }
      (∀ p prof rec, s.seq.state = .filling → s.seq.current = some (p, prof) →
        s.corr.pass = some rec → rec.pair = some p → s.corr.state = .armed →
        exec .fillEnd s = .next { s with
          seq := { taken with state := .steady }, corr := { s.corr with state := .accumulate } }) ∧
      (s.seq.state = .filling → s.corr.state ≠ .armed →
        exec .fillEnd s = .next { s with seq := { taken with state := .steady } }) ∧
      (∀ rec, s.seq.state = .dark → s.seq.work = .chips → s.seq.filled = false →
        s.corr.state = .armed → s.corr.pass = some rec → rec.pair = none →
        exec .fillEnd s = .next { s with
          seq := { taken with filled := true }, corr := { s.corr with state := .accumulate } }) ∧
      (∀ rec, s.seq.state = .steady ∨ (s.seq.state = .dark ∧ s.seq.filled = true) →
        s.corr.state = .accumulate → s.corr.pass = some rec →
        (2 ≤ rec.periodsLeft → exec .periodBoundary s = .next { s with
          seq := taken
          corr := { s.corr with pass := some { rec with periodsLeft := rec.periodsLeft - 1 } } }) ∧
        (rec.periodsLeft ≤ 1 → fb.toNat = s.seq.position ∨ s.seq.faultHold = true →
          exec (.accumulationEnd fb) s =
            .next (afterPass rec (evaluatePass rec { s with seq := taken }))))) ∧
    (∀ p prof rec, s.seq.state = .steady → s.seq.current = some (p, prof) → s.corr.state = .armed →
      s.corr.pass = some rec → rec.pair = some p → boundaryDue s.seq = true →
      exec .periodBoundary s = .next { s with
        seq := { s.seq with boundaryTaken := true }, corr := { s.corr with state := .accumulate } })

/-- What an evaluation delivers to the requester's list (R60, R63, R66, R71, R72, R132). A measurement, verify
or synthetic pass joins one echo record for each position in order, with its housing, the peak of its window,
its level where it qualifies, its flags and the stamp. A survey block joins its candidates in order of lag, up
to 256 in the list, which is TRUNCATED past them, and teaches no table. A list that names another job stays,
and the job is displaced. -/
def Obligations.EvaluationDeliversResults : Prop :=
  ∀ (rec : PassRecord) (s : State) (j : Job), JobsLaw s → s.job? rec.job = some j →
    let t := evaluatePass rec s
    let echoes := s.corr.cells.toList.filter (fun c => c.role = .echo)
    let amp := fun c : Cell => amplitude rec.order rec.q c.acc
    (∀ q : Port, j.requester ≠ .port q → t.sched.results[q] = s.sched.results[q]) ∧
    (∀ q, j.requester = .port q →
      let l := s.sched.results[q]
      (l.job ≠ some rec.job → t.sched.results[q] = l ∧
        ∃ j', t.job? rec.job = some j' ∧ j'.displaced = true) ∧
      (∀ old, l.job = some rec.job → rec.kind ≠ .survey → l.body = .echoes old →
        ∃ new, t.sched.results[q] = { l with body := .echoes (old ++ new) } ∧
          new.map EchoRecord.position = List.range' rec.first (rec.last + 1 - rec.first) ∧
          ∀ r ∈ new,
            let ok := 1 ≤ r.amp ∧
              ((noiseFloor rec.order rec.q s.corr.cells * rec.params.snrQ / 8 : Nat) : Int) < r.amp
            (r.offset, r.amp) = peakOf ((echoes.filter (fun c => c.position = some r.position)).map
              (fun c => (c.offset, amp c))) ∧
            r.housing = rec.pair.bind (fun p => (s.pair p).housingAt r.position) ∧
            (ok → r.level = some (levelOf r.amp.toNat) ∧
              ((r.status = .valid ∧ r.dev ≠ none) ∨ (r.status = .unbased ∧ r.dev = none))) ∧
            (¬ ok → r.level = none ∧ r.status = .lost ∧ r.dev = none) ∧
            (r.edge = true ↔ 3 ≤ rec.w ∧ r.offset.natAbs = (rec.w - 1) / 2) ∧
            r.overdrive = decide (rec.params.clipLimit < rec.clips) ∧ r.stamp = s.lineTime) ∧
      (∀ old, l.job = some rec.job → rec.kind = .survey → l.body = .candidates old →
        let block := echoes.map (fun c => (c.lag, amp c))
        let least := (block.map (fun x => x.2.natAbs)).sum / block.length * rec.params.snrQ / 8
        let stands := fun x : (Nat × Int) × Nat =>
          (x.2 = 0 ∨ (block[x.2 - 1]?.getD (0, 0)).2 ≤ x.1.2) ∧
          (x.2 + 1 = block.length ∨ (block[x.2 + 1]?.getD (0, 0)).2 < x.1.2) ∧ (least : Int) < x.1.2
        let all := old ++ (block.zipIdx.filter (fun x => stands x)).map (fun x => ⟨x.1.1, x.1.2⟩)
        t.sched.results[q] = { l with
          body := .candidates (all.take 256), truncated := l.truncated || decide (256 < all.length) } ∧
        t.sig = s.sig ∧ t.findings = s.findings))

/-- What an evaluation counts (R40, R48, R60, R67, R134): the job's next position and passes; the pair's
statistics, with STATS_HALF at 128; the OVERDRIVE notice on the owner or port 0 and on the requester, or on
port 0 for a synthetic pass; the refresh count by the pass's latched dark_every, and the DARK job it queues
(log 19). The cells are cleared, and the sequencer, the Line Map and the exchange stand. -/
def Obligations.EvaluationCounts : Prop :=
  ∀ (rec : PassRecord) (s : State), JobsLaw s →
    let t := evaluatePass rec s
    let clipped := rec.params.clipLimit < rec.clips
    let owner := fun p => ((s.pair p).owner).getD 0
    t.corr = Correlator.idleReset ∧ t.seq = s.seq ∧ t.lineMap = s.lineMap ∧ t.channel = s.channel ∧
    t.params = s.params ∧ t.lineTime = s.lineTime ∧ t.synth = s.synth ∧
    (∀ j, s.job? rec.job = some j → j.state = .active → ∃ j', t.job? rec.job = some j' ∧ j' = { j with
      displaced := j'.displaced, passes := min (j.passes + 1) 64
      progress := if rec.kind = .verify then j.progress else rec.last + 1 }) ∧
    (∀ p, rec.pair = some p →
      t.sched.stats[p] = { s.sched.stats[p] with
        passes := min ((s.sched.stats[p]).passes + 1) 65535
        overdrives := if clipped then min ((s.sched.stats[p]).overdrives + 1) 255
          else (s.sched.stats[p]).overdrives } ∧
      ∀ q, q ≠ p → t.sched.stats[q] = s.sched.stats[q]) ∧
    (rec.pair = none → t.sched.stats = s.sched.stats ∧ t.intake = s.intake) ∧
    (∀ x : Port, t.port x = { s.port x with pendingSet := (t.port x).pendingSet } ∧
      ((t.port x).pendingSet.getLsbD 5 = true ↔ (s.port x).pendingSet.getLsbD 5 = true ∨
        (clipped ∧ match rec.pair with
          | none => x = 0
          | some p => x = owner p ∨ (s.job? rec.job).map Job.requester = some (.port x))) ∧
      ((t.port x).pendingSet.getLsbD 6 = true ↔ (s.port x).pendingSet.getLsbD 6 = true ∨
        (clipped ∧ ∃ p, rec.pair = some p ∧ x = owner p ∧ (s.sched.stats[p]).overdrives = 127))) ∧
    (rec.pair ≠ none →
      let every := rec.params.darkEvery
      let count := if s.intake.refresh < every then s.intake.refresh + 1 else s.intake.refresh
      let stands := ∃ j ∈ s.sched.jobs, j.kind = .dark ∧ j.state ≠ .ended
      let queued := ∃ old j, t.sched.jobs = old ++ [j] ∧ j.kind = .dark ∧ j.requester = .internal ∧
        j.cls = .urgent ∧ j.state = .queued ∧ (∀ k ∈ old, k.kind = .dark → k.state = .ended)
      t.intake = { s.intake with refresh := t.intake.refresh } ∧
      (every = 0 → t.intake.refresh = 0) ∧
      (1 ≤ every → count < every → t.intake.refresh = count) ∧
      (1 ≤ every → every ≤ count → s.intake.darkState = .manual ∨ stands → t.intake.refresh = 0) ∧
      (every = 0 ∨ count < every ∨ s.intake.darkState = .manual ∨ stands →
        ∀ j ∈ t.sched.jobs, j.kind = .dark → ∃ k ∈ s.sched.jobs, k.kind = .dark ∧ k.number = j.number) ∧
      (1 ≤ every → every ≤ count → s.intake.darkState ≠ .manual → ¬ stands →
        (t.intake.refresh = 0 ∧ queued) ∨ (t.intake.refresh = count ∧ ¬ queued ∧ t.serviceSlotsUsed = 8)))

/-- The job driver after an evaluation, the first case of R124 that applies (R60, R125, R156, R185, R186): a
cancel that waited ends the job CANCELLED (log 32); a COMMAND job, and one whose work is done, ends COMPLETE; an
eligible URGENT job, or another job at the end of a slice, suspends a ROUTINE job; else the next pass. A SYNTH
job gives END_DARK as it ends. -/
def Obligations.DriverGoesOnAfterPass : Prop :=
  ∀ (rec : PassRecord) (s : State) (j : Job), s.job? rec.job = some j →
    let n := j.number
    let rest := { s with
      seq := { s.seq with
        state := if s.seq.faultHold then .switchFault else .parked, work := .idle, current := none
        goal := none, running := false, filled := false }
      intake := { s.intake with acc := none } }
    let ends := fun o => (j.kind ≠ .synth → afterPass rec s = arbitrate (endJob n o s)) ∧
      (j.kind = .synth → s.seq.state = .dark → afterPass rec s = arbitrate (endJob n o rest))
    let others := ∃ k ∈ s.sched.jobs, k.number ≠ n ∧ eligible s.seq.faultHold k = true
    let urgent := ∃ k ∈ s.sched.jobs, k.cls = .urgent ∧ eligible s.seq.faultHold k = true
    (j.cancelPending = true → ends .cancelled) ∧
    (j.cancelPending = false →
      (j.kind = .command → ends .complete) ∧
      ∀ r, j.range = some r →
        (r.2 < j.progress → ends .complete) ∧
        (j.kind ≠ .command → j.progress ≤ r.2 →
          (j.cls = .routine → urgent → afterPass rec s = arbitrate (suspendJob n s)) ∧
          (j.cls = .routine → ¬ urgent → rec.params.slice ≤ j.passes → others →
            afterPass rec s = arbitrate (suspendJob n s)) ∧
          (j.cls = .urgent ∨ (¬ urgent ∧ j.passes < rec.params.slice) → afterPass rec s = runPass j s) ∧
          (j.cls = .routine → ¬ urgent → rec.params.slice ≤ j.passes → ¬ others →
            afterPass rec s = runPass j (s.setJob n (fun k => { k with passes := 0 })))))

/-- A strobe puts its sample to one use (R21, R36 to R38, R43, R58, R74): the dark accumulation, the cells of the
pass that accumulates, or those of the reply slot that does, with the exchange's offset and no clip counted; the
chip is sent and written to the ring. In a synthetic run the sample is the synthetic line's (R183, R184), and
the millisecond moves line time alone (R18). The model's choices: a strobe where R22 gives none, in PARKED,
SETTLING, TONE and SWITCH_FAULT, changes nothing (log 2), and a strobe is one of a chip where no boundary
waits to be taken (log 3). -/
def Obligations.SamplesGoToOneUse : Prop :=
  (∀ s : State, exec .lineTimeTick s = .next { s with lineTime := s.lineTime + 1 }) ∧
  (∀ (adc : BitVec 14) (s : State) (a : DarkAcc), s.seq.state = .dark → s.seq.work = .sampling →
    s.intake.acc = some a → a.count < 2 ^ s.intake.dd →
    let clips := if adc.toNat = 0 ∨ adc.toNat = 16383 then a.clips + 1 else a.clips
    exec (.sampleStrobe adc) s = .next { s with
      intake := { s.intake with acc := some ⟨a.count + 1, a.sum + adc.toNat, clips⟩ } }) ∧
  (∀ (adc : BitVec 14) (s : State), s.seq.state = .parked ∨ s.seq.state = .settling ∨
      s.seq.state = .tone ∨ s.seq.state = .switchFault →
    exec (.sampleStrobe adc) s = .next s) ∧
  (∀ (adc : BitVec 14) (s : State), s.seq.state = .filling ∨ s.seq.state = .steady →
    s.seq.running = true → boundaryDue s.seq = false → s.seq.wp < 32768 →
    let chip := s.seq.gen.getLsbD (s.seq.genOrder - 1)
    ∃ t, exec (.sampleStrobe adc) s = .next t ∧
      t = { s with seq := t.seq, corr := t.corr } ∧
      t.seq = { s.seq with
        ring := t.seq.ring, wp := (s.seq.wp + 1) % 32768, gen := chipStep s.seq.genOrder s.seq.gen
        runChips := s.seq.runChips + 1, boundaryTaken := false } ∧
      (∀ i < 32768, t.seq.ring.getLsbD i = if i = s.seq.wp then chip else s.seq.ring.getLsbD i) ∧
      let added := fun (offset : Nat) => ∀ i : Fin 64, t.corr.cells[i] =
        if (s.corr.cells[i]).role = .idle then s.corr.cells[i]
        else
          let back := t.seq.ring.getLsbD ((s.seq.wp + 32768 - (s.corr.cells[i]).lag % 32768) % 32768)
          { s.corr.cells[i] with
            acc := (s.corr.cells[i]).acc +
              ((adc.toNat : Int) - (offset : Int)) * (if back then 1 else -1) }
      (s.corr.state ≠ .accumulate → s.corr.state ≠ .slot → t.corr = s.corr) ∧
      (∀ rec, s.corr.state = .accumulate → s.corr.pass = some rec →
        t.corr = { s.corr with pass := t.corr.pass, cells := t.corr.cells } ∧
        t.corr.pass = some { rec with
          clips := if adc.toNat = 0 ∨ adc.toNat = 16383 then min (rec.clips + 1) 65535 else rec.clips } ∧
        added rec.offset) ∧
      (∀ su, s.corr.state = .slot → s.corr.slot = some su →
        (su.periodsLeft = none → t.corr = s.corr) ∧
        (su.periodsLeft ≠ none →
          t.corr = { s.corr with cells := t.corr.cells } ∧ added su.offset))) ∧
  (∀ (adc : BitVec 14) (s : State) (d : SynthDef), s.seq.state = .dark → s.seq.work = .chips →
    s.seq.running = true → boundaryDue s.seq = false → s.synth.defn = some d →
    let chip := s.seq.gen.getLsbD (s.seq.genOrder - 1)
    ∃ t, exec (.sampleStrobe adc) s = .next t ∧
      t = { s with seq := t.seq, corr := t.corr, synth := t.synth } ∧
      t.seq = { s.seq with
        ring := t.seq.ring, wp := (s.seq.wp + 1) % 32768, gen := chipStep s.seq.genOrder s.seq.gen
        runChips := s.seq.runChips + 1, boundaryTaken := false } ∧
      (s.seq.wp < 32768 → ∀ i < 32768,
        t.seq.ring.getLsbD i = if i = s.seq.wp then chip else s.seq.ring.getLsbD i) ∧
      t.synth = { s.synth with noise := noiseStep s.synth.noise } ∧
      (s.corr.state ≠ .accumulate → s.corr.state ≠ .slot → t.corr = s.corr) ∧
      ∀ rec, s.corr.state = .accumulate → s.corr.pass = some rec →
        let back := fun lag => t.seq.ring.getLsbD ((s.seq.wp + 32768 - lag % 32768) % 32768)
        let light := (d.echoes.map (fun e => if back e.lag then e.amp else 0)).sum
        let raw := max 0 (min 16383 ((d.dc : Int) + (light : Int) +
          (((noiseStep s.synth.noise).toNat : Int) - 32768) * (d.noise : Int) / 32768))
        t.corr.pass = some { rec with
          clips := if raw = 0 ∨ raw = 16383 then min (rec.clips + 1) 65535 else rec.clips } ∧
        ∀ i : Fin 64, (s.corr.cells[i]).role ≠ .idle → (t.corr.cells[i]).acc = (s.corr.cells[i]).acc +
          (raw - (rec.offset : Int)) * (if back (s.corr.cells[i]).lag then 1 else -1))

/-! ### The Command Channel -/

/-- The word end, the starts and results of the reply slots (R28, R73 to R75, R144): the exchange enters REPLY
with the offset and parameters latched and the sequencer fills again; each slot clears and sets the cells of
the repeater; its periods are counted down, boundary by boundary, to its result; after slot 9 the word is
decided. Slots before their time change nothing (log 2). -/
def Obligations.WordIsSentAndAnswered : Prop :=
  (∀ (s : State) (p : PairNo) (prof : Profile) (j : Job) (c : CommandFields) (k lag : Nat),
    s.seq.state = .tone → s.seq.current = some (p, prof) → s.seq.held = none →
    s.channel.exchange.phase = .sending → s.job? s.channel.exchange.job = some j → j.pair = some p →
    j.cmd = some c → (s.pair p).positionOf c.housing = some k → (s.pair p).lagAt k = some lag →
    (s.lineTime < s.seq.toneStart + 192 → exec .wordEnd s = .next s) ∧
    (s.seq.toneStart + 192 ≤ s.lineTime →
      let chip := chipUs (s.pair p).profile.chipCode
      exec .wordEnd s = .next { s with
        seq := { s.seq with
          state := .filling, current := some (p, prof), goal := none, tone := [], held := none
          work := .idle, filled := false, gen := BitVec.ofNat 15 (2 ^ prof.order - 1)
          genOrder := prof.order, running := true, runChips := 0, boundaryTaken := false }
        channel := { s.channel with exchange := { s.channel.exchange with
          phase := .reply, wordEnd := s.lineTime, slots := []
          endChip := lag + (3000000 + 10 * c.slotUnits * 16000) / chip } }
        corr := { Correlator.idleReset with
          state := .slot
          slot := some ⟨lag, k, j.w, c.r, (s.pair p).profile.order, chip, (s.pair p).quietBase,
            c.slotUnits, s.intake.offset, s.params, 0, none⟩ } })) ∧
  (∀ (s : State) (su : SlotSetup), boundaryDue s.seq = true → s.seq.state = .steady →
    s.corr.state = .slot → s.corr.slot = some su →
    let due := su.lag + (3000000 + su.slot * su.slotUnits * 16000) / su.chipUs
    let taken := { s.seq with boundaryTaken := true }
    (su.periodsLeft = none → s.seq.runChips < due → exec .slotStart s = .next s) ∧
    (su.periodsLeft = none → due ≤ s.seq.runChips →
      exec .slotStart s = .next { s with
        seq := taken
        corr := { s.corr with
          slot := some { su with periodsLeft := some (2 ^ su.r) }
          cells := measureCells (2 ^ su.order - 1) su.w su.quietBase [(su.position, su.lag)] } }) ∧
    (su.periodsLeft = none → s.seq.runChips < due →
      exec .periodBoundary s = .next { s with seq := taken }) ∧
    (∀ left, su.periodsLeft = some left → 2 ≤ left →
      exec .periodBoundary s = .next { s with
        seq := taken, corr := { s.corr with slot := some { su with periodsLeft := some (left - 1) } } }) ∧
    (∀ left, su.periodsLeft = some left → left ≤ 1 →
      let x := s.channel.exchange
      let heard := { s with
        seq := taken
        channel := { s.channel with exchange := { x with slots := x.slots ++ [slotOutcome su s.corr.cells] } } }
      (su.slot < 9 → exec .slotResult s = .next { heard with
        corr := { s.corr with slot := some { su with slot := su.slot + 1, periodsLeft := none } } }) ∧
      (9 ≤ su.slot → exec .slotResult s =
        .next (decideWord su.params.retryMax { heard with corr := Correlator.idleReset }))))

/-- The outcome of a word (R145 to R148) and what it does to the toggle and the tries. Its reply joins the job's
reply record (R151); a succeeded word moves the progress to the next word, and a succeeded last word completes
the command, whose effects (`completeCommand`) are applied at once (R147, R149, R150). Spent tries raise the
reply-failure statistic and STATS_HALF at 128, also where a cancel or a lapse then ends the job, which is the
model's reading (R134, log 20). The cases of the exchange end (R155, R157, R165): a cancel or a lapse ends the
job, and makes the toggle UNKNOWN after a word left unresolved. An exchange end that is not due changes nothing
(the model's choice, log 2). -/
def Obligations.WordIsDecidedAndExchangeEnds : Prop :=
  (∀ (retryMax : Nat) (s : State) (j : Job) (p : PairNo) (c : CommandFields),
    s.job? s.channel.exchange.job = some j → j.pair = some p → j.cmd = some c →
    let x := s.channel.exchange
    let g := pairGroup p
    let t := decideWord retryMax s
    let after := fun (op : Opcode) =>
      if x.word = .nopPrefix then CmdStep.word .word1
      else if x.word = .word1 ∧ op = .trimGain then .word .word2 else .verify
    t = { s with
      channel := t.channel, sched := t.sched, lineMap := t.lineMap, sig := t.sig, findings := t.findings
      ports := t.ports } ∧
    ∃ o, t.channel = { s.channel with exchange := { x with phase := .decided, outcome := some o } } ∧
      t.sched = { s.sched with
        stats := t.sched.stats
        jobs := s.sched.jobs.map (fun k => if k.number ≠ j.number then k else { k with
          cmd := k.cmd.map (fun d => { d with
            reply := d.reply.map (fun e => if e.word = x.word then { e with reply := readReply x.slots } else e)
            next := if o = .succeeded then after d.opcode else d.next
            completed := if o = .succeeded then decide (after d.opcode = .verify) else d.completed }) }) } ∧
      (o = .retry ∨ o = .exhausted ↔ ∀ r, readReply x.slots = some r → r.a = false ∨ r.t ≠ x.toggle) ∧
      (o = .exhausted → retryMax < x.tries) ∧ (o = .retry → x.tries ≤ retryMax) ∧
      (o = .refused ↔ ∃ r, readReply x.slots = some r ∧ r.a = true ∧ r.t = x.toggle ∧ r.c = false ∧
        x.word ≠ .nopPrefix) ∧
      (1 ≤ c.housing → c.housing ≤ 192 → t.toggleOf c.housing g =
        match o with
        | .retry => s.toggleOf c.housing g
        | .exhausted => none
        | .refused | .succeeded => some x.toggle) ∧
      (o ≠ .exhausted → t.sched.stats = s.sched.stats ∧ t.ports = s.ports) ∧
      (o = .exhausted →
        t.sched.stats[p] = { s.sched.stats[p] with
          replyFails := min ((s.sched.stats[p]).replyFails + 1) 255 } ∧
        ∀ y : Port, (t.port y).pendingSet = (s.port y).pendingSet |||
          (if (s.sched.stats[p]).replyFails = 127 ∧ y = ((s.pair p).owner).getD 0 then 0x040#12
          else 0#12)) ∧
      (o ≠ .succeeded → t.sig = s.sig ∧ t.findings = s.findings ∧ t.lineMap.pairs = s.lineMap.pairs) ∧
      (o = .succeeded →
        let agreed := s.setToggle c.housing g (some x.toggle)
        let done := if after c.opcode = .verify then completeCommand p c agreed else agreed
        t.sig = done.sig ∧ t.findings = done.findings ∧ t.lineMap = done.lineMap)) ∧
  (∀ (s : State) (j : Job) (c : CommandFields), s.job? s.channel.exchange.job = some j →
    j.cmd = some c →
    let x := s.channel.exchange
    let free := s.setExchange Exchange.none
    let ends := fun o => exec .exchangeEnd s = .next (arbitrate (endJob j.number o free))
    (s.seq.running = false ∨ s.seq.runChips < x.endChip ∨ x.phase ≠ .decided →
      exec .exchangeEnd s = .next s) ∧
    (s.seq.running = true → x.endChip ≤ s.seq.runChips → x.phase = .decided →
      (∀ p out, j.pair = some p → x.outcome = some .retry ∨ x.outcome = some .exhausted →
        (j.cancelPending = true ∧ out = .cancelled) ∨
          (j.cancelPending = false ∧ c.basis = .lapsed ∧ c.completed = false ∧ out = .declined) →
        exec .exchangeEnd s = .next (arbitrate (endJob j.number out
          (free.setToggle c.housing (pairGroup p) none)))) ∧
      (j.cancelPending = true → x.outcome = some .succeeded ∨ x.outcome = some .refused →
        ends .cancelled) ∧
      (j.cancelPending = false → c.basis = .lapsed → c.completed = false →
        x.outcome = some .succeeded ∨ x.outcome = some .refused → ends .declined) ∧
      (j.cancelPending = false → c.basis ≠ .lapsed ∨ c.completed = true →
        (x.outcome = some .retry →
          exec .exchangeEnd s = .next (startWord j x.word x.toggle (x.tries + 1) free)) ∧
        (x.outcome = some .exhausted → ends .noReply) ∧
        (x.outcome = some .refused → ends .refused) ∧
        (x.outcome = some .succeeded →
          (∀ w, c.next = .word w → exec .exchangeEnd s =
            .next (startWord j w (!((jobToggle j s).getD false)) 1 free)) ∧
          (c.next = .verify → 0 < c.verifySpan → exec .exchangeEnd s = .next (runPass j free)) ∧
          (c.next = .verify → c.verifySpan = 0 → ends .complete)))))

/-- What a completed command changes (R90, R110, R152 to R154): the housing's fields, the entries relearned and
the findings isolated, on the pair and, for SELECT_PUMP and TRIM_GAIN, on its routed partner. -/
def Obligations.CompletedCommandChangesMap : Prop :=
  ∀ (p : PairNo) (c : CommandFields) (s : State) (k : Nat), (s.pair p).state = .routed →
    (s.pair p).positionOf c.housing = some k → 1 ≤ c.housing → c.housing ≤ 192 → (s.pair p).n ≤ 192 →
    (s.pair (partner p)).n ≤ 192 →
    let t := completeCommand p c s
    let relearned := fun e : SigEntry =>
      { e with state := .learning, base := none, learn := 0, drift := 0, lastDev := none }
    let isolated := fun (q : PairNo) (i : Nat) (f : Finding) =>
      if f.pair = q ∧ f.location = i ∧ f.cls ≠ .break_ ∧ (f.state = .suspect ∨ f.state = .confirmed) then
        { f with state := FindingState.isolated } else f
    t.sched = s.sched ∧ t.seq = s.seq ∧ t.lineMap.pairs = s.lineMap.pairs ∧
    (sharedEffect c.opcode = true →
      (∀ (q : PairNo) (i : Nat), 1 ≤ i → i ≤ 192 → t.sigAt q i =
        if q = p ∧ k ≤ i ∧ i ≤ (s.pair p).n then relearned (s.sigAt p i)
        else if q = partner p ∧ (s.pair q).state = .routed ∧ i ≤ (s.pair q).n ∧
          (∃ k', (s.pair q).positionOf c.housing = some k' ∧ k' ≤ i) then relearned (s.sigAt q i)
        else s.sigAt q i) ∧
      (∀ k', (s.pair (partner p)).state = .routed →
        (s.pair (partner p)).positionOf c.housing = some k' →
        t.findings = s.findings.map (fun f => isolated (partner p) k' (isolated p k f))) ∧
      ((s.pair (partner p)).state ≠ .routed → t.findings = s.findings.map (isolated p k))) ∧
    (c.opcode = .selectPump → ∀ v ∈ [(1, PumpSel.primary), (2, .spare), (3, .both)],
      c.argument.toNat = v.1 → tableGet (t.housing c.housing).pump (pairGroup p) .unknown = v.2) ∧
    (∀ muting, c.opcode = (if muting then Opcode.mute else .unmute) →
      tableGet (t.housing c.housing).outMute p.val false =
        (if c.argument.getLsbD 0 then muting else tableGet (s.housing c.housing).outMute p.val false) ∧
      tableGet (t.housing c.housing).retMute p.val false =
        (if c.argument.getLsbD 1 then muting else tableGet (s.housing c.housing).retMute p.val false) ∧
      t.findings = (if muting then s.findings.map (isolated p k) else s.findings) ∧
      ∀ (q : PairNo) (i : Nat), 1 ≤ i → i ≤ 192 → t.sigAt q i =
        if q = p ∧ ((c.argument.getLsbD 0 = true ∧ k ≤ i ∧ i ≤ (s.pair p).n) ∨
          (c.argument.getLsbD 1 = true ∧ i = k)) then relearned (s.sigAt p i)
        else s.sigAt q i) ∧
    (c.opcode = .setLoopback →
      tableGet (t.housing c.housing).loopback p.val none = some (Fin.ofNat 8 c.argument.toNat) ∧
      t.findings = s.findings ∧
      ∀ (q : PairNo) (i : Nat), 1 ≤ i → i ≤ 192 → t.sigAt q i =
        if q = p ∧ i = k then relearned (s.sigAt p k) else s.sigAt q i) ∧
    (c.opcode = .nop ∨ c.opcode = .queryPumps ∨ c.opcode = .queryTemp → t = s)

/-! ### Laws that every command keeps -/

/-- The law of R95 is kept by every step from every state: at most 32 findings, no two at one place. -/
def Obligations.FindingsLawIsKept : Prop :=
  ∀ s t : State, step s = .next t → FindingsLaw s → FindingsLaw t

/-- The law of R11 is kept by every step from every state, and with it that a ROUTED pair's housings are
PRESENT (R3, R12). -/
def Obligations.RouteLawsAreKept : Prop :=
  (∀ s t : State, step s = .next t → (∀ p, RouteLaw (s.pair p)) → ∀ p, RouteLaw (t.pair p)) ∧
  (∀ s t : State, step s = .next t → HousingsLaw s → HousingsLaw t)

/-- The laws of the registers are kept by every step from every state: the dark offset (R41), the parameters
(R174), the switch and the sequencer's state (R23 to R31), the signature entries (R76). -/
def Obligations.RegisterLawsAreKept : Prop :=
  ∀ s t : State, step s = .next t →
    (DarkLaw s → DarkLaw t) ∧
    (ParamsLaw s.params → ParamsLaw t.params) ∧
    (SequencerLaw s.seq → SequencerLaw t.seq) ∧
    ((∀ p k, (s.sigAt p k).law) → ∀ p k, (t.sigAt p k).law)

/-- The laws of the slots (R115, R116) and of the one ACTIVE job (R122) are kept by every step. -/
def Obligations.JobsLawIsKept : Prop :=
  ∀ s t : State, step s = .next t → JobsLaw s → JobsLaw t

/-- The laws of the work on the path, of the concurrence table (R160) and of consent (R165) are kept together
by every step: no shared-effect word leaves while another owner of the partner pair has not said yes. -/
def Obligations.ConsentLawIsKept : Prop :=
  ∀ s t : State, step s = .next t → WorkLaw s → ConsentLaw s → SharedWordLaw s → SequencerLaw s.seq →
    WorkLaw t ∧ ConsentLaw t ∧ SharedWordLaw t

/-- Every law holds right after reset. -/
def Obligations.LawsHoldAtReset : Prop :=
  FindingsLaw State.reset ∧ (∀ p, RouteLaw (State.reset.pair p)) ∧ HousingsLaw State.reset ∧
  DarkLaw State.reset ∧ ParamsLaw State.reset.params ∧ SequencerLaw State.reset.seq ∧
  (∀ p k, (State.reset.sigAt p k).law) ∧ JobsLaw State.reset ∧ WorkLaw State.reset ∧
  ConsentLaw State.reset ∧ SharedWordLaw State.reset

/-! ### Arithmetic -/

/-- R65: the level of a qualifying echo is 1000 log10(e) rounded to nearest, a half rounded up, from the exact
logarithm; over the amplitudes 1 to 32766 it lies in 0 to 4515 (R76). -/
def Obligations.LevelIsRoundedLogarithm : Prop :=
  ∀ e : Nat, 1 ≤ e → e ≤ 32766 →
    (levelOf e : ℤ) = ⌊1000 * Real.logb 10 e + 1 / 2⌋ ∧ levelOf e ≤ 4515

/-- The arithmetic of a pass and of a word: the amplitude (R61), the peak (R63), the noise floor and the
threshold (R64), the period of the generator and its ones (R19, R20). The 40 bits of a command word: its 34
content bits field by field, and the check, by which x^6 + x + 1 divides the word with its first six bits
inverted, so that the check run over the 40 bits leaves 0 (R138, R141, R149). -/
def Obligations.PassAndWordArithmetic : Prop :=
  (∀ (n q : Nat) (a : Int), 2 ≤ n →
    amplitude n q a = ⌊((a : ℚ) + 2 ^ (n - 2 + q)) / 2 ^ (n - 1 + q)⌋) ∧
  (∀ (c : Int × Int) (rest : List (Int × Int)), ((c :: rest).map Prod.fst).Pairwise (· < ·) →
    peakOf (c :: rest) ∈ c :: rest ∧ ∀ d ∈ c :: rest, d.2 ≤ (peakOf (c :: rest)).2 ∧
      (d.2 = (peakOf (c :: rest)).2 → (peakOf (c :: rest)).1 ≤ d.1)) ∧
  (∀ (n q : Nat) (cells : Vector Cell 64) (e : Fin 4 → Int),
    (∀ i : Fin 4, e i = amplitude n q (cells[60 + i.val]'(by omega)).acc) →
    noiseFloor n q cells = ((e 0).natAbs + (e 1).natAbs + (e 2).natAbs + (e 3).natAbs) / 4) ∧
  (∀ (amp : Int) (noise snrQ : Nat), qualifies amp (threshold noise snrQ) = true ↔
    1 ≤ amp ∧ ((noise * snrQ / 8 : Nat) : Int) < amp) ∧
  (∀ n, 11 ≤ n → n ≤ 15 →
    (chipStep n)^[2 ^ n - 1] (chipSeed n) = chipSeed n ∧
    (∀ i, 0 < i → i < 2 ^ n - 1 → (chipStep n)^[i] (chipSeed n) ≠ chipSeed n) ∧
    ((List.range (2 ^ n - 1)).countP (fun i => chipOut n ((chipStep n)^[i] (chipSeed n)))) = 2 ^ (n - 1)) ∧
  (∀ (p : PairNo) (c : CommandFields) (w : CmdWord) (toggle : Bool),
    let bits := wordBits p c w toggle
    let field := fun (width v : Nat) => (List.range width).map (fun i => v.testBit (width - 1 - i))
    let code := [Opcode.nop, .queryPumps, .selectPump, .mute, .unmute, .setLoopback, .trimGain,
      .queryTemp].idxOf c.opcode
    let high := c.opcode = .trimGain ∧ w = .word1
    bits.length = 40 ∧ crc6 bits = 0#6 ∧
    bits.take 34 = field 8 c.housing ++ field 3 (p.val / 2) ++ [decide (p.val % 2 = 1)] ++
      field 4 (if w = .nopPrefix then 0 else code) ++ [decide high] ++ [toggle] ++
      field 8 (if w = .nopPrefix then 0
        else if high then c.argument.toNat / 256 else c.argument.toNat % 256) ++
      field 8 c.slotUnits ∧
    (Polynomial.X ^ 6 + Polynomial.X + 1 : Polynomial (ZMod 2)) ∣
      ((List.range 40).map (fun i =>
        if (bits[i]?.getD false) = true then (Polynomial.X ^ (39 - i) : Polynomial (ZMod 2)) else 0)).sum +
      ((List.range 6).map (fun i => (Polynomial.X ^ (39 - i) : Polynomial (ZMod 2)))).sum)

end
end

