-- ==== Sys2Proof/Laws/State.lean ====
section
/-! SUPPORT. What each named update of State leaves as it was: one lemma for each field it does not touch,
so that no proof unfolds a record update. -/

namespace Sys2Proof.Machine

/-! ### State.setPair -/

@[simp] theorem State.setPair_lineTime (s : State) (p : PairNo) (f : Pair → Pair) : (s.setPair p f).lineTime = s.lineTime := rfl
@[simp] theorem State.setPair_params (s : State) (p : PairNo) (f : Pair → Pair) : (s.setPair p f).params = s.params := rfl
@[simp] theorem State.setPair_seq (s : State) (p : PairNo) (f : Pair → Pair) : (s.setPair p f).seq = s.seq := rfl
@[simp] theorem State.setPair_intake (s : State) (p : PairNo) (f : Pair → Pair) : (s.setPair p f).intake = s.intake := rfl
@[simp] theorem State.setPair_corr (s : State) (p : PairNo) (f : Pair → Pair) : (s.setPair p f).corr = s.corr := rfl
@[simp] theorem State.setPair_sig (s : State) (p : PairNo) (f : Pair → Pair) : (s.setPair p f).sig = s.sig := rfl
@[simp] theorem State.setPair_findings (s : State) (p : PairNo) (f : Pair → Pair) : (s.setPair p f).findings = s.findings := rfl
@[simp] theorem State.setPair_sched (s : State) (p : PairNo) (f : Pair → Pair) : (s.setPair p f).sched = s.sched := rfl
@[simp] theorem State.setPair_channel (s : State) (p : PairNo) (f : Pair → Pair) : (s.setPair p f).channel = s.channel := rfl
@[simp] theorem State.setPair_ports (s : State) (p : PairNo) (f : Pair → Pair) : (s.setPair p f).ports = s.ports := rfl
@[simp] theorem State.setPair_synth (s : State) (p : PairNo) (f : Pair → Pair) : (s.setPair p f).synth = s.synth := rfl
@[simp] theorem State.setPair_pending (s : State) (p : PairNo) (f : Pair → Pair) : (s.setPair p f).pending = s.pending := rfl

/-! ### State.setHousing -/

@[simp] theorem State.setHousing_lineTime (s : State) (h : Nat) (f : Housing → Housing) : (s.setHousing h f).lineTime = s.lineTime := rfl
@[simp] theorem State.setHousing_params (s : State) (h : Nat) (f : Housing → Housing) : (s.setHousing h f).params = s.params := rfl
@[simp] theorem State.setHousing_seq (s : State) (h : Nat) (f : Housing → Housing) : (s.setHousing h f).seq = s.seq := rfl
@[simp] theorem State.setHousing_intake (s : State) (h : Nat) (f : Housing → Housing) : (s.setHousing h f).intake = s.intake := rfl
@[simp] theorem State.setHousing_corr (s : State) (h : Nat) (f : Housing → Housing) : (s.setHousing h f).corr = s.corr := rfl
@[simp] theorem State.setHousing_sig (s : State) (h : Nat) (f : Housing → Housing) : (s.setHousing h f).sig = s.sig := rfl
@[simp] theorem State.setHousing_findings (s : State) (h : Nat) (f : Housing → Housing) : (s.setHousing h f).findings = s.findings := rfl
@[simp] theorem State.setHousing_sched (s : State) (h : Nat) (f : Housing → Housing) : (s.setHousing h f).sched = s.sched := rfl
@[simp] theorem State.setHousing_channel (s : State) (h : Nat) (f : Housing → Housing) : (s.setHousing h f).channel = s.channel := rfl
@[simp] theorem State.setHousing_ports (s : State) (h : Nat) (f : Housing → Housing) : (s.setHousing h f).ports = s.ports := rfl
@[simp] theorem State.setHousing_synth (s : State) (h : Nat) (f : Housing → Housing) : (s.setHousing h f).synth = s.synth := rfl
@[simp] theorem State.setHousing_pending (s : State) (h : Nat) (f : Housing → Housing) : (s.setHousing h f).pending = s.pending := rfl

/-! ### State.setToggle -/

@[simp] theorem State.setToggle_lineTime (s : State) (h g : Nat) (t : Option Bool) : (s.setToggle h g t).lineTime = s.lineTime := rfl
@[simp] theorem State.setToggle_params (s : State) (h g : Nat) (t : Option Bool) : (s.setToggle h g t).params = s.params := rfl
@[simp] theorem State.setToggle_seq (s : State) (h g : Nat) (t : Option Bool) : (s.setToggle h g t).seq = s.seq := rfl
@[simp] theorem State.setToggle_intake (s : State) (h g : Nat) (t : Option Bool) : (s.setToggle h g t).intake = s.intake := rfl
@[simp] theorem State.setToggle_corr (s : State) (h g : Nat) (t : Option Bool) : (s.setToggle h g t).corr = s.corr := rfl
@[simp] theorem State.setToggle_sig (s : State) (h g : Nat) (t : Option Bool) : (s.setToggle h g t).sig = s.sig := rfl
@[simp] theorem State.setToggle_findings (s : State) (h g : Nat) (t : Option Bool) : (s.setToggle h g t).findings = s.findings := rfl
@[simp] theorem State.setToggle_sched (s : State) (h g : Nat) (t : Option Bool) : (s.setToggle h g t).sched = s.sched := rfl
@[simp] theorem State.setToggle_channel (s : State) (h g : Nat) (t : Option Bool) : (s.setToggle h g t).channel = s.channel := rfl
@[simp] theorem State.setToggle_ports (s : State) (h g : Nat) (t : Option Bool) : (s.setToggle h g t).ports = s.ports := rfl
@[simp] theorem State.setToggle_synth (s : State) (h g : Nat) (t : Option Bool) : (s.setToggle h g t).synth = s.synth := rfl
@[simp] theorem State.setToggle_pending (s : State) (h g : Nat) (t : Option Bool) : (s.setToggle h g t).pending = s.pending := rfl

/-! ### State.setSig -/

@[simp] theorem State.setSig_lineTime (s : State) (p : PairNo) (k : Nat) (f : SigEntry → SigEntry) : (s.setSig p k f).lineTime = s.lineTime := rfl
@[simp] theorem State.setSig_params (s : State) (p : PairNo) (k : Nat) (f : SigEntry → SigEntry) : (s.setSig p k f).params = s.params := rfl
@[simp] theorem State.setSig_lineMap (s : State) (p : PairNo) (k : Nat) (f : SigEntry → SigEntry) : (s.setSig p k f).lineMap = s.lineMap := rfl
@[simp] theorem State.setSig_seq (s : State) (p : PairNo) (k : Nat) (f : SigEntry → SigEntry) : (s.setSig p k f).seq = s.seq := rfl
@[simp] theorem State.setSig_intake (s : State) (p : PairNo) (k : Nat) (f : SigEntry → SigEntry) : (s.setSig p k f).intake = s.intake := rfl
@[simp] theorem State.setSig_corr (s : State) (p : PairNo) (k : Nat) (f : SigEntry → SigEntry) : (s.setSig p k f).corr = s.corr := rfl
@[simp] theorem State.setSig_findings (s : State) (p : PairNo) (k : Nat) (f : SigEntry → SigEntry) : (s.setSig p k f).findings = s.findings := rfl
@[simp] theorem State.setSig_sched (s : State) (p : PairNo) (k : Nat) (f : SigEntry → SigEntry) : (s.setSig p k f).sched = s.sched := rfl
@[simp] theorem State.setSig_channel (s : State) (p : PairNo) (k : Nat) (f : SigEntry → SigEntry) : (s.setSig p k f).channel = s.channel := rfl
@[simp] theorem State.setSig_ports (s : State) (p : PairNo) (k : Nat) (f : SigEntry → SigEntry) : (s.setSig p k f).ports = s.ports := rfl
@[simp] theorem State.setSig_synth (s : State) (p : PairNo) (k : Nat) (f : SigEntry → SigEntry) : (s.setSig p k f).synth = s.synth := rfl
@[simp] theorem State.setSig_pending (s : State) (p : PairNo) (k : Nat) (f : SigEntry → SigEntry) : (s.setSig p k f).pending = s.pending := rfl

/-! ### State.setJobs -/

@[simp] theorem State.setJobs_lineTime (s : State) (l : List Job) : (s.setJobs l).lineTime = s.lineTime := rfl
@[simp] theorem State.setJobs_params (s : State) (l : List Job) : (s.setJobs l).params = s.params := rfl
@[simp] theorem State.setJobs_lineMap (s : State) (l : List Job) : (s.setJobs l).lineMap = s.lineMap := rfl
@[simp] theorem State.setJobs_seq (s : State) (l : List Job) : (s.setJobs l).seq = s.seq := rfl
@[simp] theorem State.setJobs_intake (s : State) (l : List Job) : (s.setJobs l).intake = s.intake := rfl
@[simp] theorem State.setJobs_corr (s : State) (l : List Job) : (s.setJobs l).corr = s.corr := rfl
@[simp] theorem State.setJobs_sig (s : State) (l : List Job) : (s.setJobs l).sig = s.sig := rfl
@[simp] theorem State.setJobs_findings (s : State) (l : List Job) : (s.setJobs l).findings = s.findings := rfl
@[simp] theorem State.setJobs_channel (s : State) (l : List Job) : (s.setJobs l).channel = s.channel := rfl
@[simp] theorem State.setJobs_ports (s : State) (l : List Job) : (s.setJobs l).ports = s.ports := rfl
@[simp] theorem State.setJobs_synth (s : State) (l : List Job) : (s.setJobs l).synth = s.synth := rfl
@[simp] theorem State.setJobs_pending (s : State) (l : List Job) : (s.setJobs l).pending = s.pending := rfl

/-! ### State.setJob -/

@[simp] theorem State.setJob_lineTime (s : State) (n : Nat) (f : Job → Job) : (s.setJob n f).lineTime = s.lineTime := rfl
@[simp] theorem State.setJob_params (s : State) (n : Nat) (f : Job → Job) : (s.setJob n f).params = s.params := rfl
@[simp] theorem State.setJob_lineMap (s : State) (n : Nat) (f : Job → Job) : (s.setJob n f).lineMap = s.lineMap := rfl
@[simp] theorem State.setJob_seq (s : State) (n : Nat) (f : Job → Job) : (s.setJob n f).seq = s.seq := rfl
@[simp] theorem State.setJob_intake (s : State) (n : Nat) (f : Job → Job) : (s.setJob n f).intake = s.intake := rfl
@[simp] theorem State.setJob_corr (s : State) (n : Nat) (f : Job → Job) : (s.setJob n f).corr = s.corr := rfl
@[simp] theorem State.setJob_sig (s : State) (n : Nat) (f : Job → Job) : (s.setJob n f).sig = s.sig := rfl
@[simp] theorem State.setJob_findings (s : State) (n : Nat) (f : Job → Job) : (s.setJob n f).findings = s.findings := rfl
@[simp] theorem State.setJob_channel (s : State) (n : Nat) (f : Job → Job) : (s.setJob n f).channel = s.channel := rfl
@[simp] theorem State.setJob_ports (s : State) (n : Nat) (f : Job → Job) : (s.setJob n f).ports = s.ports := rfl
@[simp] theorem State.setJob_synth (s : State) (n : Nat) (f : Job → Job) : (s.setJob n f).synth = s.synth := rfl
@[simp] theorem State.setJob_pending (s : State) (n : Nat) (f : Job → Job) : (s.setJob n f).pending = s.pending := rfl

/-! ### State.freeJob -/

@[simp] theorem State.freeJob_lineTime (s : State) (n : Nat) : (s.freeJob n).lineTime = s.lineTime := rfl
@[simp] theorem State.freeJob_params (s : State) (n : Nat) : (s.freeJob n).params = s.params := rfl
@[simp] theorem State.freeJob_lineMap (s : State) (n : Nat) : (s.freeJob n).lineMap = s.lineMap := rfl
@[simp] theorem State.freeJob_seq (s : State) (n : Nat) : (s.freeJob n).seq = s.seq := rfl
@[simp] theorem State.freeJob_intake (s : State) (n : Nat) : (s.freeJob n).intake = s.intake := rfl
@[simp] theorem State.freeJob_corr (s : State) (n : Nat) : (s.freeJob n).corr = s.corr := rfl
@[simp] theorem State.freeJob_sig (s : State) (n : Nat) : (s.freeJob n).sig = s.sig := rfl
@[simp] theorem State.freeJob_findings (s : State) (n : Nat) : (s.freeJob n).findings = s.findings := rfl
@[simp] theorem State.freeJob_channel (s : State) (n : Nat) : (s.freeJob n).channel = s.channel := rfl
@[simp] theorem State.freeJob_ports (s : State) (n : Nat) : (s.freeJob n).ports = s.ports := rfl
@[simp] theorem State.freeJob_synth (s : State) (n : Nat) : (s.freeJob n).synth = s.synth := rfl
@[simp] theorem State.freeJob_pending (s : State) (n : Nat) : (s.freeJob n).pending = s.pending := rfl

/-! ### State.addJob -/

@[simp] theorem State.addJob_lineTime (s : State) (j : Job) : (s.addJob j).lineTime = s.lineTime := rfl
@[simp] theorem State.addJob_params (s : State) (j : Job) : (s.addJob j).params = s.params := rfl
@[simp] theorem State.addJob_lineMap (s : State) (j : Job) : (s.addJob j).lineMap = s.lineMap := rfl
@[simp] theorem State.addJob_seq (s : State) (j : Job) : (s.addJob j).seq = s.seq := rfl
@[simp] theorem State.addJob_intake (s : State) (j : Job) : (s.addJob j).intake = s.intake := rfl
@[simp] theorem State.addJob_corr (s : State) (j : Job) : (s.addJob j).corr = s.corr := rfl
@[simp] theorem State.addJob_sig (s : State) (j : Job) : (s.addJob j).sig = s.sig := rfl
@[simp] theorem State.addJob_findings (s : State) (j : Job) : (s.addJob j).findings = s.findings := rfl
@[simp] theorem State.addJob_channel (s : State) (j : Job) : (s.addJob j).channel = s.channel := rfl
@[simp] theorem State.addJob_ports (s : State) (j : Job) : (s.addJob j).ports = s.ports := rfl
@[simp] theorem State.addJob_synth (s : State) (j : Job) : (s.addJob j).synth = s.synth := rfl
@[simp] theorem State.addJob_pending (s : State) (j : Job) : (s.addJob j).pending = s.pending := rfl

/-! ### State.setCmd -/

@[simp] theorem State.setCmd_lineTime (s : State) (n : Nat) (f : CommandFields → CommandFields) : (s.setCmd n f).lineTime = s.lineTime := rfl
@[simp] theorem State.setCmd_params (s : State) (n : Nat) (f : CommandFields → CommandFields) : (s.setCmd n f).params = s.params := rfl
@[simp] theorem State.setCmd_lineMap (s : State) (n : Nat) (f : CommandFields → CommandFields) : (s.setCmd n f).lineMap = s.lineMap := rfl
@[simp] theorem State.setCmd_seq (s : State) (n : Nat) (f : CommandFields → CommandFields) : (s.setCmd n f).seq = s.seq := rfl
@[simp] theorem State.setCmd_intake (s : State) (n : Nat) (f : CommandFields → CommandFields) : (s.setCmd n f).intake = s.intake := rfl
@[simp] theorem State.setCmd_corr (s : State) (n : Nat) (f : CommandFields → CommandFields) : (s.setCmd n f).corr = s.corr := rfl
@[simp] theorem State.setCmd_sig (s : State) (n : Nat) (f : CommandFields → CommandFields) : (s.setCmd n f).sig = s.sig := rfl
@[simp] theorem State.setCmd_findings (s : State) (n : Nat) (f : CommandFields → CommandFields) : (s.setCmd n f).findings = s.findings := rfl
@[simp] theorem State.setCmd_channel (s : State) (n : Nat) (f : CommandFields → CommandFields) : (s.setCmd n f).channel = s.channel := rfl
@[simp] theorem State.setCmd_ports (s : State) (n : Nat) (f : CommandFields → CommandFields) : (s.setCmd n f).ports = s.ports := rfl
@[simp] theorem State.setCmd_synth (s : State) (n : Nat) (f : CommandFields → CommandFields) : (s.setCmd n f).synth = s.synth := rfl
@[simp] theorem State.setCmd_pending (s : State) (n : Nat) (f : CommandFields → CommandFields) : (s.setCmd n f).pending = s.pending := rfl

/-! ### State.setResults -/

@[simp] theorem State.setResults_lineTime (s : State) (p : Port) (f : ResultList → ResultList) : (s.setResults p f).lineTime = s.lineTime := rfl
@[simp] theorem State.setResults_params (s : State) (p : Port) (f : ResultList → ResultList) : (s.setResults p f).params = s.params := rfl
@[simp] theorem State.setResults_lineMap (s : State) (p : Port) (f : ResultList → ResultList) : (s.setResults p f).lineMap = s.lineMap := rfl
@[simp] theorem State.setResults_seq (s : State) (p : Port) (f : ResultList → ResultList) : (s.setResults p f).seq = s.seq := rfl
@[simp] theorem State.setResults_intake (s : State) (p : Port) (f : ResultList → ResultList) : (s.setResults p f).intake = s.intake := rfl
@[simp] theorem State.setResults_corr (s : State) (p : Port) (f : ResultList → ResultList) : (s.setResults p f).corr = s.corr := rfl
@[simp] theorem State.setResults_sig (s : State) (p : Port) (f : ResultList → ResultList) : (s.setResults p f).sig = s.sig := rfl
@[simp] theorem State.setResults_findings (s : State) (p : Port) (f : ResultList → ResultList) : (s.setResults p f).findings = s.findings := rfl
@[simp] theorem State.setResults_channel (s : State) (p : Port) (f : ResultList → ResultList) : (s.setResults p f).channel = s.channel := rfl
@[simp] theorem State.setResults_ports (s : State) (p : Port) (f : ResultList → ResultList) : (s.setResults p f).ports = s.ports := rfl
@[simp] theorem State.setResults_synth (s : State) (p : Port) (f : ResultList → ResultList) : (s.setResults p f).synth = s.synth := rfl
@[simp] theorem State.setResults_pending (s : State) (p : Port) (f : ResultList → ResultList) : (s.setResults p f).pending = s.pending := rfl

/-! ### State.setPatrol -/

@[simp] theorem State.setPatrol_lineTime (s : State) (p : PairNo) (f : Patrol → Patrol) : (s.setPatrol p f).lineTime = s.lineTime := rfl
@[simp] theorem State.setPatrol_params (s : State) (p : PairNo) (f : Patrol → Patrol) : (s.setPatrol p f).params = s.params := rfl
@[simp] theorem State.setPatrol_lineMap (s : State) (p : PairNo) (f : Patrol → Patrol) : (s.setPatrol p f).lineMap = s.lineMap := rfl
@[simp] theorem State.setPatrol_seq (s : State) (p : PairNo) (f : Patrol → Patrol) : (s.setPatrol p f).seq = s.seq := rfl
@[simp] theorem State.setPatrol_intake (s : State) (p : PairNo) (f : Patrol → Patrol) : (s.setPatrol p f).intake = s.intake := rfl
@[simp] theorem State.setPatrol_corr (s : State) (p : PairNo) (f : Patrol → Patrol) : (s.setPatrol p f).corr = s.corr := rfl
@[simp] theorem State.setPatrol_sig (s : State) (p : PairNo) (f : Patrol → Patrol) : (s.setPatrol p f).sig = s.sig := rfl
@[simp] theorem State.setPatrol_findings (s : State) (p : PairNo) (f : Patrol → Patrol) : (s.setPatrol p f).findings = s.findings := rfl
@[simp] theorem State.setPatrol_channel (s : State) (p : PairNo) (f : Patrol → Patrol) : (s.setPatrol p f).channel = s.channel := rfl
@[simp] theorem State.setPatrol_ports (s : State) (p : PairNo) (f : Patrol → Patrol) : (s.setPatrol p f).ports = s.ports := rfl
@[simp] theorem State.setPatrol_synth (s : State) (p : PairNo) (f : Patrol → Patrol) : (s.setPatrol p f).synth = s.synth := rfl
@[simp] theorem State.setPatrol_pending (s : State) (p : PairNo) (f : Patrol → Patrol) : (s.setPatrol p f).pending = s.pending := rfl

/-! ### State.setStats -/

@[simp] theorem State.setStats_lineTime (s : State) (p : PairNo) (f : Stats → Stats) : (s.setStats p f).lineTime = s.lineTime := rfl
@[simp] theorem State.setStats_params (s : State) (p : PairNo) (f : Stats → Stats) : (s.setStats p f).params = s.params := rfl
@[simp] theorem State.setStats_lineMap (s : State) (p : PairNo) (f : Stats → Stats) : (s.setStats p f).lineMap = s.lineMap := rfl
@[simp] theorem State.setStats_seq (s : State) (p : PairNo) (f : Stats → Stats) : (s.setStats p f).seq = s.seq := rfl
@[simp] theorem State.setStats_intake (s : State) (p : PairNo) (f : Stats → Stats) : (s.setStats p f).intake = s.intake := rfl
@[simp] theorem State.setStats_corr (s : State) (p : PairNo) (f : Stats → Stats) : (s.setStats p f).corr = s.corr := rfl
@[simp] theorem State.setStats_sig (s : State) (p : PairNo) (f : Stats → Stats) : (s.setStats p f).sig = s.sig := rfl
@[simp] theorem State.setStats_findings (s : State) (p : PairNo) (f : Stats → Stats) : (s.setStats p f).findings = s.findings := rfl
@[simp] theorem State.setStats_channel (s : State) (p : PairNo) (f : Stats → Stats) : (s.setStats p f).channel = s.channel := rfl
@[simp] theorem State.setStats_ports (s : State) (p : PairNo) (f : Stats → Stats) : (s.setStats p f).ports = s.ports := rfl
@[simp] theorem State.setStats_synth (s : State) (p : PairNo) (f : Stats → Stats) : (s.setStats p f).synth = s.synth := rfl
@[simp] theorem State.setStats_pending (s : State) (p : PairNo) (f : Stats → Stats) : (s.setStats p f).pending = s.pending := rfl

/-! ### State.removeConcur -/

@[simp] theorem State.removeConcur_lineTime (s : State) (n : Nat) : (s.removeConcur n).lineTime = s.lineTime := rfl
@[simp] theorem State.removeConcur_params (s : State) (n : Nat) : (s.removeConcur n).params = s.params := rfl
@[simp] theorem State.removeConcur_lineMap (s : State) (n : Nat) : (s.removeConcur n).lineMap = s.lineMap := rfl
@[simp] theorem State.removeConcur_seq (s : State) (n : Nat) : (s.removeConcur n).seq = s.seq := rfl
@[simp] theorem State.removeConcur_intake (s : State) (n : Nat) : (s.removeConcur n).intake = s.intake := rfl
@[simp] theorem State.removeConcur_corr (s : State) (n : Nat) : (s.removeConcur n).corr = s.corr := rfl
@[simp] theorem State.removeConcur_sig (s : State) (n : Nat) : (s.removeConcur n).sig = s.sig := rfl
@[simp] theorem State.removeConcur_findings (s : State) (n : Nat) : (s.removeConcur n).findings = s.findings := rfl
@[simp] theorem State.removeConcur_sched (s : State) (n : Nat) : (s.removeConcur n).sched = s.sched := rfl
@[simp] theorem State.removeConcur_ports (s : State) (n : Nat) : (s.removeConcur n).ports = s.ports := rfl
@[simp] theorem State.removeConcur_synth (s : State) (n : Nat) : (s.removeConcur n).synth = s.synth := rfl
@[simp] theorem State.removeConcur_pending (s : State) (n : Nat) : (s.removeConcur n).pending = s.pending := rfl

/-! ### State.setExchange -/

@[simp] theorem State.setExchange_lineTime (s : State) (x : Exchange) : (s.setExchange x).lineTime = s.lineTime := rfl
@[simp] theorem State.setExchange_params (s : State) (x : Exchange) : (s.setExchange x).params = s.params := rfl
@[simp] theorem State.setExchange_lineMap (s : State) (x : Exchange) : (s.setExchange x).lineMap = s.lineMap := rfl
@[simp] theorem State.setExchange_seq (s : State) (x : Exchange) : (s.setExchange x).seq = s.seq := rfl
@[simp] theorem State.setExchange_intake (s : State) (x : Exchange) : (s.setExchange x).intake = s.intake := rfl
@[simp] theorem State.setExchange_corr (s : State) (x : Exchange) : (s.setExchange x).corr = s.corr := rfl
@[simp] theorem State.setExchange_sig (s : State) (x : Exchange) : (s.setExchange x).sig = s.sig := rfl
@[simp] theorem State.setExchange_findings (s : State) (x : Exchange) : (s.setExchange x).findings = s.findings := rfl
@[simp] theorem State.setExchange_sched (s : State) (x : Exchange) : (s.setExchange x).sched = s.sched := rfl
@[simp] theorem State.setExchange_ports (s : State) (x : Exchange) : (s.setExchange x).ports = s.ports := rfl
@[simp] theorem State.setExchange_synth (s : State) (x : Exchange) : (s.setExchange x).synth = s.synth := rfl
@[simp] theorem State.setExchange_pending (s : State) (x : Exchange) : (s.setExchange x).pending = s.pending := rfl

/-! ### State.setPort -/

@[simp] theorem State.setPort_lineTime (s : State) (p : Port) (f : PortState → PortState) : (s.setPort p f).lineTime = s.lineTime := rfl
@[simp] theorem State.setPort_params (s : State) (p : Port) (f : PortState → PortState) : (s.setPort p f).params = s.params := rfl
@[simp] theorem State.setPort_lineMap (s : State) (p : Port) (f : PortState → PortState) : (s.setPort p f).lineMap = s.lineMap := rfl
@[simp] theorem State.setPort_seq (s : State) (p : Port) (f : PortState → PortState) : (s.setPort p f).seq = s.seq := rfl
@[simp] theorem State.setPort_intake (s : State) (p : Port) (f : PortState → PortState) : (s.setPort p f).intake = s.intake := rfl
@[simp] theorem State.setPort_corr (s : State) (p : Port) (f : PortState → PortState) : (s.setPort p f).corr = s.corr := rfl
@[simp] theorem State.setPort_sig (s : State) (p : Port) (f : PortState → PortState) : (s.setPort p f).sig = s.sig := rfl
@[simp] theorem State.setPort_findings (s : State) (p : Port) (f : PortState → PortState) : (s.setPort p f).findings = s.findings := rfl
@[simp] theorem State.setPort_sched (s : State) (p : Port) (f : PortState → PortState) : (s.setPort p f).sched = s.sched := rfl
@[simp] theorem State.setPort_channel (s : State) (p : Port) (f : PortState → PortState) : (s.setPort p f).channel = s.channel := rfl
@[simp] theorem State.setPort_synth (s : State) (p : Port) (f : PortState → PortState) : (s.setPort p f).synth = s.synth := rfl
@[simp] theorem State.setPort_pending (s : State) (p : Port) (f : PortState → PortState) : (s.setPort p f).pending = s.pending := rfl

/-! ### raiseNotice -/

@[simp] theorem raiseNotice_lineTime (s : State) (k : Notice) (p : Port) : (raiseNotice k p s).lineTime = s.lineTime := rfl
@[simp] theorem raiseNotice_params (s : State) (k : Notice) (p : Port) : (raiseNotice k p s).params = s.params := rfl
@[simp] theorem raiseNotice_lineMap (s : State) (k : Notice) (p : Port) : (raiseNotice k p s).lineMap = s.lineMap := rfl
@[simp] theorem raiseNotice_seq (s : State) (k : Notice) (p : Port) : (raiseNotice k p s).seq = s.seq := rfl
@[simp] theorem raiseNotice_intake (s : State) (k : Notice) (p : Port) : (raiseNotice k p s).intake = s.intake := rfl
@[simp] theorem raiseNotice_corr (s : State) (k : Notice) (p : Port) : (raiseNotice k p s).corr = s.corr := rfl
@[simp] theorem raiseNotice_sig (s : State) (k : Notice) (p : Port) : (raiseNotice k p s).sig = s.sig := rfl
@[simp] theorem raiseNotice_findings (s : State) (k : Notice) (p : Port) : (raiseNotice k p s).findings = s.findings := rfl
@[simp] theorem raiseNotice_sched (s : State) (k : Notice) (p : Port) : (raiseNotice k p s).sched = s.sched := rfl
@[simp] theorem raiseNotice_channel (s : State) (k : Notice) (p : Port) : (raiseNotice k p s).channel = s.channel := rfl
@[simp] theorem raiseNotice_synth (s : State) (k : Notice) (p : Port) : (raiseNotice k p s).synth = s.synth := rfl
@[simp] theorem raiseNotice_pending (s : State) (k : Notice) (p : Port) : (raiseNotice k p s).pending = s.pending := rfl

/-! ### holdResponse -/

@[simp] theorem holdResponse_lineTime (s : State) (p : Port) (r : Resp) : (holdResponse p r s).lineTime = s.lineTime := rfl
@[simp] theorem holdResponse_params (s : State) (p : Port) (r : Resp) : (holdResponse p r s).params = s.params := rfl
@[simp] theorem holdResponse_lineMap (s : State) (p : Port) (r : Resp) : (holdResponse p r s).lineMap = s.lineMap := rfl
@[simp] theorem holdResponse_seq (s : State) (p : Port) (r : Resp) : (holdResponse p r s).seq = s.seq := rfl
@[simp] theorem holdResponse_intake (s : State) (p : Port) (r : Resp) : (holdResponse p r s).intake = s.intake := rfl
@[simp] theorem holdResponse_corr (s : State) (p : Port) (r : Resp) : (holdResponse p r s).corr = s.corr := rfl
@[simp] theorem holdResponse_sig (s : State) (p : Port) (r : Resp) : (holdResponse p r s).sig = s.sig := rfl
@[simp] theorem holdResponse_findings (s : State) (p : Port) (r : Resp) : (holdResponse p r s).findings = s.findings := rfl
@[simp] theorem holdResponse_sched (s : State) (p : Port) (r : Resp) : (holdResponse p r s).sched = s.sched := rfl
@[simp] theorem holdResponse_channel (s : State) (p : Port) (r : Resp) : (holdResponse p r s).channel = s.channel := rfl
@[simp] theorem holdResponse_synth (s : State) (p : Port) (r : Resp) : (holdResponse p r s).synth = s.synth := rfl
@[simp] theorem holdResponse_pending (s : State) (p : Port) (r : Resp) : (holdResponse p r s).pending = s.pending := rfl

/-! ### logFault -/

@[simp] theorem logFault_lineTime (s : State) (r : FaultRecord) : (logFault r s).lineTime = s.lineTime := rfl
@[simp] theorem logFault_params (s : State) (r : FaultRecord) : (logFault r s).params = s.params := rfl
@[simp] theorem logFault_lineMap (s : State) (r : FaultRecord) : (logFault r s).lineMap = s.lineMap := rfl
@[simp] theorem logFault_seq (s : State) (r : FaultRecord) : (logFault r s).seq = s.seq := rfl
@[simp] theorem logFault_intake (s : State) (r : FaultRecord) : (logFault r s).intake = s.intake := rfl
@[simp] theorem logFault_corr (s : State) (r : FaultRecord) : (logFault r s).corr = s.corr := rfl
@[simp] theorem logFault_sig (s : State) (r : FaultRecord) : (logFault r s).sig = s.sig := rfl
@[simp] theorem logFault_findings (s : State) (r : FaultRecord) : (logFault r s).findings = s.findings := rfl
@[simp] theorem logFault_channel (s : State) (r : FaultRecord) : (logFault r s).channel = s.channel := rfl
@[simp] theorem logFault_ports (s : State) (r : FaultRecord) : (logFault r s).ports = s.ports := rfl
@[simp] theorem logFault_synth (s : State) (r : FaultRecord) : (logFault r s).synth = s.synth := rfl
@[simp] theorem logFault_pending (s : State) (r : FaultRecord) : (logFault r s).pending = s.pending := rfl

/-! ### emptyFaultLog -/

@[simp] theorem emptyFaultLog_lineTime (s : State) : (emptyFaultLog s).lineTime = s.lineTime := rfl
@[simp] theorem emptyFaultLog_params (s : State) : (emptyFaultLog s).params = s.params := rfl
@[simp] theorem emptyFaultLog_lineMap (s : State) : (emptyFaultLog s).lineMap = s.lineMap := rfl
@[simp] theorem emptyFaultLog_seq (s : State) : (emptyFaultLog s).seq = s.seq := rfl
@[simp] theorem emptyFaultLog_intake (s : State) : (emptyFaultLog s).intake = s.intake := rfl
@[simp] theorem emptyFaultLog_corr (s : State) : (emptyFaultLog s).corr = s.corr := rfl
@[simp] theorem emptyFaultLog_sig (s : State) : (emptyFaultLog s).sig = s.sig := rfl
@[simp] theorem emptyFaultLog_findings (s : State) : (emptyFaultLog s).findings = s.findings := rfl
@[simp] theorem emptyFaultLog_channel (s : State) : (emptyFaultLog s).channel = s.channel := rfl
@[simp] theorem emptyFaultLog_ports (s : State) : (emptyFaultLog s).ports = s.ports := rfl
@[simp] theorem emptyFaultLog_synth (s : State) : (emptyFaultLog s).synth = s.synth := rfl
@[simp] theorem emptyFaultLog_pending (s : State) : (emptyFaultLog s).pending = s.pending := rfl

/-! ### setRefresh -/

@[simp] theorem setRefresh_lineTime (s : State) (c : Nat) : (setRefresh c s).lineTime = s.lineTime := rfl
@[simp] theorem setRefresh_params (s : State) (c : Nat) : (setRefresh c s).params = s.params := rfl
@[simp] theorem setRefresh_lineMap (s : State) (c : Nat) : (setRefresh c s).lineMap = s.lineMap := rfl
@[simp] theorem setRefresh_seq (s : State) (c : Nat) : (setRefresh c s).seq = s.seq := rfl
@[simp] theorem setRefresh_corr (s : State) (c : Nat) : (setRefresh c s).corr = s.corr := rfl
@[simp] theorem setRefresh_sig (s : State) (c : Nat) : (setRefresh c s).sig = s.sig := rfl
@[simp] theorem setRefresh_findings (s : State) (c : Nat) : (setRefresh c s).findings = s.findings := rfl
@[simp] theorem setRefresh_sched (s : State) (c : Nat) : (setRefresh c s).sched = s.sched := rfl
@[simp] theorem setRefresh_channel (s : State) (c : Nat) : (setRefresh c s).channel = s.channel := rfl
@[simp] theorem setRefresh_ports (s : State) (c : Nat) : (setRefresh c s).ports = s.ports := rfl
@[simp] theorem setRefresh_synth (s : State) (c : Nat) : (setRefresh c s).synth = s.synth := rfl
@[simp] theorem setRefresh_pending (s : State) (c : Nat) : (setRefresh c s).pending = s.pending := rfl

/-! ### setIntake -/

@[simp] theorem setIntake_lineTime (s : State) (i : Intake) : (setIntake i s).lineTime = s.lineTime := rfl
@[simp] theorem setIntake_params (s : State) (i : Intake) : (setIntake i s).params = s.params := rfl
@[simp] theorem setIntake_lineMap (s : State) (i : Intake) : (setIntake i s).lineMap = s.lineMap := rfl
@[simp] theorem setIntake_seq (s : State) (i : Intake) : (setIntake i s).seq = s.seq := rfl
@[simp] theorem setIntake_corr (s : State) (i : Intake) : (setIntake i s).corr = s.corr := rfl
@[simp] theorem setIntake_sig (s : State) (i : Intake) : (setIntake i s).sig = s.sig := rfl
@[simp] theorem setIntake_findings (s : State) (i : Intake) : (setIntake i s).findings = s.findings := rfl
@[simp] theorem setIntake_sched (s : State) (i : Intake) : (setIntake i s).sched = s.sched := rfl
@[simp] theorem setIntake_channel (s : State) (i : Intake) : (setIntake i s).channel = s.channel := rfl
@[simp] theorem setIntake_ports (s : State) (i : Intake) : (setIntake i s).ports = s.ports := rfl
@[simp] theorem setIntake_synth (s : State) (i : Intake) : (setIntake i s).synth = s.synth := rfl
@[simp] theorem setIntake_pending (s : State) (i : Intake) : (setIntake i s).pending = s.pending := rfl

/-! ### queueDark -/

@[simp] theorem queueDark_lineTime (s : State) : (queueDark s).lineTime = s.lineTime := rfl
@[simp] theorem queueDark_params (s : State) : (queueDark s).params = s.params := rfl
@[simp] theorem queueDark_lineMap (s : State) : (queueDark s).lineMap = s.lineMap := rfl
@[simp] theorem queueDark_seq (s : State) : (queueDark s).seq = s.seq := rfl
@[simp] theorem queueDark_intake (s : State) : (queueDark s).intake = s.intake := rfl
@[simp] theorem queueDark_corr (s : State) : (queueDark s).corr = s.corr := rfl
@[simp] theorem queueDark_sig (s : State) : (queueDark s).sig = s.sig := rfl
@[simp] theorem queueDark_findings (s : State) : (queueDark s).findings = s.findings := rfl
@[simp] theorem queueDark_channel (s : State) : (queueDark s).channel = s.channel := rfl
@[simp] theorem queueDark_ports (s : State) : (queueDark s).ports = s.ports := rfl
@[simp] theorem queueDark_synth (s : State) : (queueDark s).synth = s.synth := rfl
@[simp] theorem queueDark_pending (s : State) : (queueDark s).pending = s.pending := rfl

/-! ### suspendJob -/

@[simp] theorem suspendJob_lineTime (s : State) (n : Nat) : (suspendJob n s).lineTime = s.lineTime := rfl
@[simp] theorem suspendJob_params (s : State) (n : Nat) : (suspendJob n s).params = s.params := rfl
@[simp] theorem suspendJob_lineMap (s : State) (n : Nat) : (suspendJob n s).lineMap = s.lineMap := rfl
@[simp] theorem suspendJob_seq (s : State) (n : Nat) : (suspendJob n s).seq = s.seq := rfl
@[simp] theorem suspendJob_intake (s : State) (n : Nat) : (suspendJob n s).intake = s.intake := rfl
@[simp] theorem suspendJob_corr (s : State) (n : Nat) : (suspendJob n s).corr = s.corr := rfl
@[simp] theorem suspendJob_sig (s : State) (n : Nat) : (suspendJob n s).sig = s.sig := rfl
@[simp] theorem suspendJob_findings (s : State) (n : Nat) : (suspendJob n s).findings = s.findings := rfl
@[simp] theorem suspendJob_channel (s : State) (n : Nat) : (suspendJob n s).channel = s.channel := rfl
@[simp] theorem suspendJob_ports (s : State) (n : Nat) : (suspendJob n s).ports = s.ports := rfl
@[simp] theorem suspendJob_synth (s : State) (n : Nat) : (suspendJob n s).synth = s.synth := rfl
@[simp] theorem suspendJob_pending (s : State) (n : Nat) : (suspendJob n s).pending = s.pending := rfl

/-! ### dropPass -/

@[simp] theorem dropPass_lineTime (s : State) : (dropPass s).lineTime = s.lineTime := rfl
@[simp] theorem dropPass_params (s : State) : (dropPass s).params = s.params := rfl
@[simp] theorem dropPass_lineMap (s : State) : (dropPass s).lineMap = s.lineMap := rfl
@[simp] theorem dropPass_seq (s : State) : (dropPass s).seq = s.seq := rfl
@[simp] theorem dropPass_intake (s : State) : (dropPass s).intake = s.intake := rfl
@[simp] theorem dropPass_sig (s : State) : (dropPass s).sig = s.sig := rfl
@[simp] theorem dropPass_findings (s : State) : (dropPass s).findings = s.findings := rfl
@[simp] theorem dropPass_sched (s : State) : (dropPass s).sched = s.sched := rfl
@[simp] theorem dropPass_channel (s : State) : (dropPass s).channel = s.channel := rfl
@[simp] theorem dropPass_ports (s : State) : (dropPass s).ports = s.ports := rfl
@[simp] theorem dropPass_synth (s : State) : (dropPass s).synth = s.synth := rfl
@[simp] theorem dropPass_pending (s : State) : (dropPass s).pending = s.pending := rfl

/-! ### armPass -/

@[simp] theorem armPass_lineTime (s : State) (r : PassRecord) (c : Vector Cell 64) : (armPass r c s).lineTime = s.lineTime := rfl
@[simp] theorem armPass_params (s : State) (r : PassRecord) (c : Vector Cell 64) : (armPass r c s).params = s.params := rfl
@[simp] theorem armPass_lineMap (s : State) (r : PassRecord) (c : Vector Cell 64) : (armPass r c s).lineMap = s.lineMap := rfl
@[simp] theorem armPass_seq (s : State) (r : PassRecord) (c : Vector Cell 64) : (armPass r c s).seq = s.seq := rfl
@[simp] theorem armPass_intake (s : State) (r : PassRecord) (c : Vector Cell 64) : (armPass r c s).intake = s.intake := rfl
@[simp] theorem armPass_sig (s : State) (r : PassRecord) (c : Vector Cell 64) : (armPass r c s).sig = s.sig := rfl
@[simp] theorem armPass_findings (s : State) (r : PassRecord) (c : Vector Cell 64) : (armPass r c s).findings = s.findings := rfl
@[simp] theorem armPass_sched (s : State) (r : PassRecord) (c : Vector Cell 64) : (armPass r c s).sched = s.sched := rfl
@[simp] theorem armPass_channel (s : State) (r : PassRecord) (c : Vector Cell 64) : (armPass r c s).channel = s.channel := rfl
@[simp] theorem armPass_ports (s : State) (r : PassRecord) (c : Vector Cell 64) : (armPass r c s).ports = s.ports := rfl
@[simp] theorem armPass_synth (s : State) (r : PassRecord) (c : Vector Cell 64) : (armPass r c s).synth = s.synth := rfl
@[simp] theorem armPass_pending (s : State) (r : PassRecord) (c : Vector Cell 64) : (armPass r c s).pending = s.pending := rfl

/-! ### setCorr -/

@[simp] theorem setCorr_lineTime (s : State) (c : Correlator) : (setCorr c s).lineTime = s.lineTime := rfl
@[simp] theorem setCorr_params (s : State) (c : Correlator) : (setCorr c s).params = s.params := rfl
@[simp] theorem setCorr_lineMap (s : State) (c : Correlator) : (setCorr c s).lineMap = s.lineMap := rfl
@[simp] theorem setCorr_seq (s : State) (c : Correlator) : (setCorr c s).seq = s.seq := rfl
@[simp] theorem setCorr_intake (s : State) (c : Correlator) : (setCorr c s).intake = s.intake := rfl
@[simp] theorem setCorr_sig (s : State) (c : Correlator) : (setCorr c s).sig = s.sig := rfl
@[simp] theorem setCorr_findings (s : State) (c : Correlator) : (setCorr c s).findings = s.findings := rfl
@[simp] theorem setCorr_sched (s : State) (c : Correlator) : (setCorr c s).sched = s.sched := rfl
@[simp] theorem setCorr_channel (s : State) (c : Correlator) : (setCorr c s).channel = s.channel := rfl
@[simp] theorem setCorr_ports (s : State) (c : Correlator) : (setCorr c s).ports = s.ports := rfl
@[simp] theorem setCorr_synth (s : State) (c : Correlator) : (setCorr c s).synth = s.synth := rfl
@[simp] theorem setCorr_pending (s : State) (c : Correlator) : (setCorr c s).pending = s.pending := rfl

/-! ### tookBoundary -/

@[simp] theorem tookBoundary_lineTime (s : State) : (tookBoundary s).lineTime = s.lineTime := rfl
@[simp] theorem tookBoundary_params (s : State) : (tookBoundary s).params = s.params := rfl
@[simp] theorem tookBoundary_lineMap (s : State) : (tookBoundary s).lineMap = s.lineMap := rfl
@[simp] theorem tookBoundary_intake (s : State) : (tookBoundary s).intake = s.intake := rfl
@[simp] theorem tookBoundary_corr (s : State) : (tookBoundary s).corr = s.corr := rfl
@[simp] theorem tookBoundary_sig (s : State) : (tookBoundary s).sig = s.sig := rfl
@[simp] theorem tookBoundary_findings (s : State) : (tookBoundary s).findings = s.findings := rfl
@[simp] theorem tookBoundary_sched (s : State) : (tookBoundary s).sched = s.sched := rfl
@[simp] theorem tookBoundary_channel (s : State) : (tookBoundary s).channel = s.channel := rfl
@[simp] theorem tookBoundary_ports (s : State) : (tookBoundary s).ports = s.ports := rfl
@[simp] theorem tookBoundary_synth (s : State) : (tookBoundary s).synth = s.synth := rfl
@[simp] theorem tookBoundary_pending (s : State) : (tookBoundary s).pending = s.pending := rfl

/-! ### setFreeze -/

@[simp] theorem setFreeze_lineTime (s : State) (p : PairNo) (b : Bool) : (setFreeze p b s).lineTime = s.lineTime := rfl
@[simp] theorem setFreeze_params (s : State) (p : PairNo) (b : Bool) : (setFreeze p b s).params = s.params := rfl
@[simp] theorem setFreeze_lineMap (s : State) (p : PairNo) (b : Bool) : (setFreeze p b s).lineMap = s.lineMap := rfl
@[simp] theorem setFreeze_seq (s : State) (p : PairNo) (b : Bool) : (setFreeze p b s).seq = s.seq := rfl
@[simp] theorem setFreeze_intake (s : State) (p : PairNo) (b : Bool) : (setFreeze p b s).intake = s.intake := rfl
@[simp] theorem setFreeze_corr (s : State) (p : PairNo) (b : Bool) : (setFreeze p b s).corr = s.corr := rfl
@[simp] theorem setFreeze_findings (s : State) (p : PairNo) (b : Bool) : (setFreeze p b s).findings = s.findings := rfl
@[simp] theorem setFreeze_sched (s : State) (p : PairNo) (b : Bool) : (setFreeze p b s).sched = s.sched := rfl
@[simp] theorem setFreeze_channel (s : State) (p : PairNo) (b : Bool) : (setFreeze p b s).channel = s.channel := rfl
@[simp] theorem setFreeze_ports (s : State) (p : PairNo) (b : Bool) : (setFreeze p b s).ports = s.ports := rfl
@[simp] theorem setFreeze_synth (s : State) (p : PairNo) (b : Bool) : (setFreeze p b s).synth = s.synth := rfl
@[simp] theorem setFreeze_pending (s : State) (p : PairNo) (b : Bool) : (setFreeze p b s).pending = s.pending := rfl

/-! ### emptySignatures -/

@[simp] theorem emptySignatures_lineTime (s : State) (p : PairNo) : (emptySignatures p s).lineTime = s.lineTime := rfl
@[simp] theorem emptySignatures_params (s : State) (p : PairNo) : (emptySignatures p s).params = s.params := rfl
@[simp] theorem emptySignatures_lineMap (s : State) (p : PairNo) : (emptySignatures p s).lineMap = s.lineMap := rfl
@[simp] theorem emptySignatures_seq (s : State) (p : PairNo) : (emptySignatures p s).seq = s.seq := rfl
@[simp] theorem emptySignatures_intake (s : State) (p : PairNo) : (emptySignatures p s).intake = s.intake := rfl
@[simp] theorem emptySignatures_corr (s : State) (p : PairNo) : (emptySignatures p s).corr = s.corr := rfl
@[simp] theorem emptySignatures_findings (s : State) (p : PairNo) : (emptySignatures p s).findings = s.findings := rfl
@[simp] theorem emptySignatures_sched (s : State) (p : PairNo) : (emptySignatures p s).sched = s.sched := rfl
@[simp] theorem emptySignatures_channel (s : State) (p : PairNo) : (emptySignatures p s).channel = s.channel := rfl
@[simp] theorem emptySignatures_ports (s : State) (p : PairNo) : (emptySignatures p s).ports = s.ports := rfl
@[simp] theorem emptySignatures_synth (s : State) (p : PairNo) : (emptySignatures p s).synth = s.synth := rfl
@[simp] theorem emptySignatures_pending (s : State) (p : PairNo) : (emptySignatures p s).pending = s.pending := rfl

/-! ### dismiss -/

@[simp] theorem dismiss_lineTime (s : State) (p : PairNo) (c : FindingClass) (k : Nat) : (dismiss p c k s).lineTime = s.lineTime := rfl
@[simp] theorem dismiss_params (s : State) (p : PairNo) (c : FindingClass) (k : Nat) : (dismiss p c k s).params = s.params := rfl
@[simp] theorem dismiss_lineMap (s : State) (p : PairNo) (c : FindingClass) (k : Nat) : (dismiss p c k s).lineMap = s.lineMap := rfl
@[simp] theorem dismiss_seq (s : State) (p : PairNo) (c : FindingClass) (k : Nat) : (dismiss p c k s).seq = s.seq := rfl
@[simp] theorem dismiss_intake (s : State) (p : PairNo) (c : FindingClass) (k : Nat) : (dismiss p c k s).intake = s.intake := rfl
@[simp] theorem dismiss_corr (s : State) (p : PairNo) (c : FindingClass) (k : Nat) : (dismiss p c k s).corr = s.corr := rfl
@[simp] theorem dismiss_sig (s : State) (p : PairNo) (c : FindingClass) (k : Nat) : (dismiss p c k s).sig = s.sig := rfl
@[simp] theorem dismiss_sched (s : State) (p : PairNo) (c : FindingClass) (k : Nat) : (dismiss p c k s).sched = s.sched := rfl
@[simp] theorem dismiss_channel (s : State) (p : PairNo) (c : FindingClass) (k : Nat) : (dismiss p c k s).channel = s.channel := rfl
@[simp] theorem dismiss_ports (s : State) (p : PairNo) (c : FindingClass) (k : Nat) : (dismiss p c k s).ports = s.ports := rfl
@[simp] theorem dismiss_synth (s : State) (p : PairNo) (c : FindingClass) (k : Nat) : (dismiss p c k s).synth = s.synth := rfl
@[simp] theorem dismiss_pending (s : State) (p : PairNo) (c : FindingClass) (k : Nat) : (dismiss p c k s).pending = s.pending := rfl

/-! ### isolate -/

@[simp] theorem isolate_lineTime (s : State) (p : PairNo) (k : Nat) : (isolate p k s).lineTime = s.lineTime := rfl
@[simp] theorem isolate_params (s : State) (p : PairNo) (k : Nat) : (isolate p k s).params = s.params := rfl
@[simp] theorem isolate_lineMap (s : State) (p : PairNo) (k : Nat) : (isolate p k s).lineMap = s.lineMap := rfl
@[simp] theorem isolate_seq (s : State) (p : PairNo) (k : Nat) : (isolate p k s).seq = s.seq := rfl
@[simp] theorem isolate_intake (s : State) (p : PairNo) (k : Nat) : (isolate p k s).intake = s.intake := rfl
@[simp] theorem isolate_corr (s : State) (p : PairNo) (k : Nat) : (isolate p k s).corr = s.corr := rfl
@[simp] theorem isolate_sig (s : State) (p : PairNo) (k : Nat) : (isolate p k s).sig = s.sig := rfl
@[simp] theorem isolate_sched (s : State) (p : PairNo) (k : Nat) : (isolate p k s).sched = s.sched := rfl
@[simp] theorem isolate_channel (s : State) (p : PairNo) (k : Nat) : (isolate p k s).channel = s.channel := rfl
@[simp] theorem isolate_ports (s : State) (p : PairNo) (k : Nat) : (isolate p k s).ports = s.ports := rfl
@[simp] theorem isolate_synth (s : State) (p : PairNo) (k : Nat) : (isolate p k s).synth = s.synth := rfl
@[simp] theorem isolate_pending (s : State) (p : PairNo) (k : Nat) : (isolate p k s).pending = s.pending := rfl

/-! ### setOwner -/

@[simp] theorem setOwner_lineTime (s : State) (p : PairNo) (o : Option Port) : (setOwner p o s).lineTime = s.lineTime := rfl
@[simp] theorem setOwner_params (s : State) (p : PairNo) (o : Option Port) : (setOwner p o s).params = s.params := rfl
@[simp] theorem setOwner_seq (s : State) (p : PairNo) (o : Option Port) : (setOwner p o s).seq = s.seq := rfl
@[simp] theorem setOwner_intake (s : State) (p : PairNo) (o : Option Port) : (setOwner p o s).intake = s.intake := rfl
@[simp] theorem setOwner_corr (s : State) (p : PairNo) (o : Option Port) : (setOwner p o s).corr = s.corr := rfl
@[simp] theorem setOwner_sig (s : State) (p : PairNo) (o : Option Port) : (setOwner p o s).sig = s.sig := rfl
@[simp] theorem setOwner_findings (s : State) (p : PairNo) (o : Option Port) : (setOwner p o s).findings = s.findings := rfl
@[simp] theorem setOwner_sched (s : State) (p : PairNo) (o : Option Port) : (setOwner p o s).sched = s.sched := rfl
@[simp] theorem setOwner_channel (s : State) (p : PairNo) (o : Option Port) : (setOwner p o s).channel = s.channel := rfl
@[simp] theorem setOwner_ports (s : State) (p : PairNo) (o : Option Port) : (setOwner p o s).ports = s.ports := rfl
@[simp] theorem setOwner_synth (s : State) (p : PairNo) (o : Option Port) : (setOwner p o s).synth = s.synth := rfl
@[simp] theorem setOwner_pending (s : State) (p : PairNo) (o : Option Port) : (setOwner p o s).pending = s.pending := rfl

/-! ### openRecord -/

@[simp] theorem openRecord_lineTime (s : State) (r : ConcurRec) : (openRecord r s).lineTime = s.lineTime := rfl
@[simp] theorem openRecord_params (s : State) (r : ConcurRec) : (openRecord r s).params = s.params := rfl
@[simp] theorem openRecord_lineMap (s : State) (r : ConcurRec) : (openRecord r s).lineMap = s.lineMap := rfl
@[simp] theorem openRecord_seq (s : State) (r : ConcurRec) : (openRecord r s).seq = s.seq := rfl
@[simp] theorem openRecord_intake (s : State) (r : ConcurRec) : (openRecord r s).intake = s.intake := rfl
@[simp] theorem openRecord_corr (s : State) (r : ConcurRec) : (openRecord r s).corr = s.corr := rfl
@[simp] theorem openRecord_sig (s : State) (r : ConcurRec) : (openRecord r s).sig = s.sig := rfl
@[simp] theorem openRecord_findings (s : State) (r : ConcurRec) : (openRecord r s).findings = s.findings := rfl
@[simp] theorem openRecord_sched (s : State) (r : ConcurRec) : (openRecord r s).sched = s.sched := rfl
@[simp] theorem openRecord_synth (s : State) (r : ConcurRec) : (openRecord r s).synth = s.synth := rfl
@[simp] theorem openRecord_pending (s : State) (r : ConcurRec) : (openRecord r s).pending = s.pending := rfl

/-! ### holdDefinition -/

@[simp] theorem holdDefinition_lineTime (s : State) (d : SynthDef) : (holdDefinition d s).lineTime = s.lineTime := rfl
@[simp] theorem holdDefinition_params (s : State) (d : SynthDef) : (holdDefinition d s).params = s.params := rfl
@[simp] theorem holdDefinition_lineMap (s : State) (d : SynthDef) : (holdDefinition d s).lineMap = s.lineMap := rfl
@[simp] theorem holdDefinition_seq (s : State) (d : SynthDef) : (holdDefinition d s).seq = s.seq := rfl
@[simp] theorem holdDefinition_intake (s : State) (d : SynthDef) : (holdDefinition d s).intake = s.intake := rfl
@[simp] theorem holdDefinition_corr (s : State) (d : SynthDef) : (holdDefinition d s).corr = s.corr := rfl
@[simp] theorem holdDefinition_sig (s : State) (d : SynthDef) : (holdDefinition d s).sig = s.sig := rfl
@[simp] theorem holdDefinition_findings (s : State) (d : SynthDef) : (holdDefinition d s).findings = s.findings := rfl
@[simp] theorem holdDefinition_sched (s : State) (d : SynthDef) : (holdDefinition d s).sched = s.sched := rfl
@[simp] theorem holdDefinition_channel (s : State) (d : SynthDef) : (holdDefinition d s).channel = s.channel := rfl
@[simp] theorem holdDefinition_ports (s : State) (d : SynthDef) : (holdDefinition d s).ports = s.ports := rfl
@[simp] theorem holdDefinition_pending (s : State) (d : SynthDef) : (holdDefinition d s).pending = s.pending := rfl

/-! ### writeParams -/

@[simp] theorem writeParams_lineTime (s : State) (l : List (Byte × Half)) : (writeParams l s).lineTime = s.lineTime := rfl
@[simp] theorem writeParams_lineMap (s : State) (l : List (Byte × Half)) : (writeParams l s).lineMap = s.lineMap := rfl
@[simp] theorem writeParams_seq (s : State) (l : List (Byte × Half)) : (writeParams l s).seq = s.seq := rfl
@[simp] theorem writeParams_corr (s : State) (l : List (Byte × Half)) : (writeParams l s).corr = s.corr := rfl
@[simp] theorem writeParams_sig (s : State) (l : List (Byte × Half)) : (writeParams l s).sig = s.sig := rfl
@[simp] theorem writeParams_findings (s : State) (l : List (Byte × Half)) : (writeParams l s).findings = s.findings := rfl
@[simp] theorem writeParams_sched (s : State) (l : List (Byte × Half)) : (writeParams l s).sched = s.sched := rfl
@[simp] theorem writeParams_channel (s : State) (l : List (Byte × Half)) : (writeParams l s).channel = s.channel := rfl
@[simp] theorem writeParams_ports (s : State) (l : List (Byte × Half)) : (writeParams l s).ports = s.ports := rfl
@[simp] theorem writeParams_synth (s : State) (l : List (Byte × Half)) : (writeParams l s).synth = s.synth := rfl
@[simp] theorem writeParams_pending (s : State) (l : List (Byte × Half)) : (writeParams l s).pending = s.pending := rfl

/-! ### State.withPending -/

@[simp] theorem State.withPending_lineTime (s : State) (q : List Instr) : (s.withPending q).lineTime = s.lineTime := rfl
@[simp] theorem State.withPending_params (s : State) (q : List Instr) : (s.withPending q).params = s.params := rfl
@[simp] theorem State.withPending_lineMap (s : State) (q : List Instr) : (s.withPending q).lineMap = s.lineMap := rfl
@[simp] theorem State.withPending_seq (s : State) (q : List Instr) : (s.withPending q).seq = s.seq := rfl
@[simp] theorem State.withPending_intake (s : State) (q : List Instr) : (s.withPending q).intake = s.intake := rfl
@[simp] theorem State.withPending_corr (s : State) (q : List Instr) : (s.withPending q).corr = s.corr := rfl
@[simp] theorem State.withPending_sig (s : State) (q : List Instr) : (s.withPending q).sig = s.sig := rfl
@[simp] theorem State.withPending_findings (s : State) (q : List Instr) : (s.withPending q).findings = s.findings := rfl
@[simp] theorem State.withPending_sched (s : State) (q : List Instr) : (s.withPending q).sched = s.sched := rfl
@[simp] theorem State.withPending_channel (s : State) (q : List Instr) : (s.withPending q).channel = s.channel := rfl
@[simp] theorem State.withPending_ports (s : State) (q : List Instr) : (s.withPending q).ports = s.ports := rfl
@[simp] theorem State.withPending_synth (s : State) (q : List Instr) : (s.withPending q).synth = s.synth := rfl

/-! ### holdCancel -/

@[simp] theorem holdCancel_lineTime (s : State) (j : Job) : (holdCancel j s).lineTime = s.lineTime := rfl
@[simp] theorem holdCancel_params (s : State) (j : Job) : (holdCancel j s).params = s.params := rfl
@[simp] theorem holdCancel_lineMap (s : State) (j : Job) : (holdCancel j s).lineMap = s.lineMap := rfl
@[simp] theorem holdCancel_seq (s : State) (j : Job) : (holdCancel j s).seq = s.seq := rfl
@[simp] theorem holdCancel_intake (s : State) (j : Job) : (holdCancel j s).intake = s.intake := rfl
@[simp] theorem holdCancel_corr (s : State) (j : Job) : (holdCancel j s).corr = s.corr := rfl
@[simp] theorem holdCancel_sig (s : State) (j : Job) : (holdCancel j s).sig = s.sig := rfl
@[simp] theorem holdCancel_findings (s : State) (j : Job) : (holdCancel j s).findings = s.findings := rfl
@[simp] theorem holdCancel_channel (s : State) (j : Job) : (holdCancel j s).channel = s.channel := rfl
@[simp] theorem holdCancel_ports (s : State) (j : Job) : (holdCancel j s).ports = s.ports := rfl
@[simp] theorem holdCancel_synth (s : State) (j : Job) : (holdCancel j s).synth = s.synth := rfl
@[simp] theorem holdCancel_pending (s : State) (j : Job) : (holdCancel j s).pending = s.pending := rfl

/-! ### readyPort -/

@[simp] theorem readyPort_lineTime (s : State) (p : Port) : (readyPort p s).lineTime = s.lineTime := rfl
@[simp] theorem readyPort_params (s : State) (p : Port) : (readyPort p s).params = s.params := rfl
@[simp] theorem readyPort_lineMap (s : State) (p : Port) : (readyPort p s).lineMap = s.lineMap := rfl
@[simp] theorem readyPort_seq (s : State) (p : Port) : (readyPort p s).seq = s.seq := rfl
@[simp] theorem readyPort_intake (s : State) (p : Port) : (readyPort p s).intake = s.intake := rfl
@[simp] theorem readyPort_corr (s : State) (p : Port) : (readyPort p s).corr = s.corr := rfl
@[simp] theorem readyPort_sig (s : State) (p : Port) : (readyPort p s).sig = s.sig := rfl
@[simp] theorem readyPort_findings (s : State) (p : Port) : (readyPort p s).findings = s.findings := rfl
@[simp] theorem readyPort_sched (s : State) (p : Port) : (readyPort p s).sched = s.sched := rfl
@[simp] theorem readyPort_channel (s : State) (p : Port) : (readyPort p s).channel = s.channel := rfl
@[simp] theorem readyPort_synth (s : State) (p : Port) : (readyPort p s).synth = s.synth := rfl
@[simp] theorem readyPort_pending (s : State) (p : Port) : (readyPort p s).pending = s.pending := rfl

/-! ### enterHandling -/

@[simp] theorem enterHandling_lineTime (s : State) (p : Port) (low : Bool) : (enterHandling p low s).lineTime = s.lineTime := rfl
@[simp] theorem enterHandling_params (s : State) (p : Port) (low : Bool) : (enterHandling p low s).params = s.params := rfl
@[simp] theorem enterHandling_lineMap (s : State) (p : Port) (low : Bool) : (enterHandling p low s).lineMap = s.lineMap := rfl
@[simp] theorem enterHandling_seq (s : State) (p : Port) (low : Bool) : (enterHandling p low s).seq = s.seq := rfl
@[simp] theorem enterHandling_intake (s : State) (p : Port) (low : Bool) : (enterHandling p low s).intake = s.intake := rfl
@[simp] theorem enterHandling_corr (s : State) (p : Port) (low : Bool) : (enterHandling p low s).corr = s.corr := rfl
@[simp] theorem enterHandling_sig (s : State) (p : Port) (low : Bool) : (enterHandling p low s).sig = s.sig := rfl
@[simp] theorem enterHandling_findings (s : State) (p : Port) (low : Bool) : (enterHandling p low s).findings = s.findings := rfl
@[simp] theorem enterHandling_sched (s : State) (p : Port) (low : Bool) : (enterHandling p low s).sched = s.sched := rfl
@[simp] theorem enterHandling_channel (s : State) (p : Port) (low : Bool) : (enterHandling p low s).channel = s.channel := rfl
@[simp] theorem enterHandling_synth (s : State) (p : Port) (low : Bool) : (enterHandling p low s).synth = s.synth := rfl
@[simp] theorem enterHandling_pending (s : State) (p : Port) (low : Bool) : (enterHandling p low s).pending = s.pending := rfl

/-! ### addSlot -/

@[simp] theorem addSlot_lineTime (s : State) (r : SlotResult) : (addSlot r s).lineTime = s.lineTime := rfl
@[simp] theorem addSlot_params (s : State) (r : SlotResult) : (addSlot r s).params = s.params := rfl
@[simp] theorem addSlot_lineMap (s : State) (r : SlotResult) : (addSlot r s).lineMap = s.lineMap := rfl
@[simp] theorem addSlot_seq (s : State) (r : SlotResult) : (addSlot r s).seq = s.seq := rfl
@[simp] theorem addSlot_intake (s : State) (r : SlotResult) : (addSlot r s).intake = s.intake := rfl
@[simp] theorem addSlot_corr (s : State) (r : SlotResult) : (addSlot r s).corr = s.corr := rfl
@[simp] theorem addSlot_sig (s : State) (r : SlotResult) : (addSlot r s).sig = s.sig := rfl
@[simp] theorem addSlot_findings (s : State) (r : SlotResult) : (addSlot r s).findings = s.findings := rfl
@[simp] theorem addSlot_sched (s : State) (r : SlotResult) : (addSlot r s).sched = s.sched := rfl
@[simp] theorem addSlot_ports (s : State) (r : SlotResult) : (addSlot r s).ports = s.ports := rfl
@[simp] theorem addSlot_synth (s : State) (r : SlotResult) : (addSlot r s).synth = s.synth := rfl
@[simp] theorem addSlot_pending (s : State) (r : SlotResult) : (addSlot r s).pending = s.pending := rfl

/-! ### What the updates write -/

@[simp] theorem State.setJobs_jobs (s : State) (l : List Job) : (s.setJobs l).sched.jobs = l := rfl
@[simp] theorem State.setJob_jobs (s : State) (n : Nat) (f : Job → Job) :
    (s.setJob n f).sched.jobs = s.sched.jobs.map (fun j => if j.number = n then f j else j) := rfl
@[simp] theorem State.freeJob_jobs (s : State) (n : Nat) :
    (s.freeJob n).sched.jobs = s.sched.jobs.filter (fun j => j.number ≠ n) := rfl
@[simp] theorem State.setResults_jobs (s : State) (p : Port) (f : ResultList → ResultList) :
    (s.setResults p f).sched.jobs = s.sched.jobs := rfl
@[simp] theorem State.setPatrol_jobs (s : State) (p : PairNo) (f : Patrol → Patrol) :
    (s.setPatrol p f).sched.jobs = s.sched.jobs := rfl
@[simp] theorem State.setStats_jobs (s : State) (p : PairNo) (f : Stats → Stats) :
    (s.setStats p f).sched.jobs = s.sched.jobs := rfl
@[simp] theorem State.setExchange_exchange (s : State) (x : Exchange) :
    (s.setExchange x).channel.exchange = x := rfl
@[simp] theorem State.setExchange_concur (s : State) (x : Exchange) :
    (s.setExchange x).channel.concur = s.channel.concur := rfl
@[simp] theorem State.removeConcur_exchange (s : State) (n : Nat) :
    (s.removeConcur n).channel.exchange = s.channel.exchange := rfl
@[simp] theorem setCorr_corr (s : State) (c : Correlator) : (setCorr c s).corr = c := rfl
@[simp] theorem dropPass_corr (s : State) : (dropPass s).corr = Correlator.idleReset := rfl
@[simp] theorem setIntake_intake (s : State) (i : Intake) : (setIntake i s).intake = i := rfl
@[simp] theorem State.withPending_pending (s : State) (q : List Instr) : (s.withPending q).pending = q := rfl
@[simp] theorem holdCancel_jobs (s : State) (j : Job) : (holdCancel j s).sched.jobs =
    s.sched.jobs.map (fun k => if k.number = j.number then { k with cancelPending := true } else k) := rfl
@[simp] theorem logFault_jobs (s : State) (r : FaultRecord) : (logFault r s).sched.jobs = s.sched.jobs :=
  rfl

end Sys2Proof.Machine
end

