-- ==== Sys2Proof/Laws/Frame.lean ====
section
/-! SUPPORT. What each shared operation leaves as it was: one lemma for each field of State it does not
touch. The provers cite these instead of unfolding an operation. -/

namespace Sys2Proof.Machine

/-! ### enterFilling -/

@[simp] theorem enterFilling_lineTime (s : State) (p : PairNo) (f : Profile) : (enterFilling p f s).lineTime = s.lineTime := rfl
@[simp] theorem enterFilling_params (s : State) (p : PairNo) (f : Profile) : (enterFilling p f s).params = s.params := rfl
@[simp] theorem enterFilling_lineMap (s : State) (p : PairNo) (f : Profile) : (enterFilling p f s).lineMap = s.lineMap := rfl
@[simp] theorem enterFilling_intake (s : State) (p : PairNo) (f : Profile) : (enterFilling p f s).intake = s.intake := rfl
@[simp] theorem enterFilling_corr (s : State) (p : PairNo) (f : Profile) : (enterFilling p f s).corr = s.corr := rfl
@[simp] theorem enterFilling_sig (s : State) (p : PairNo) (f : Profile) : (enterFilling p f s).sig = s.sig := rfl
@[simp] theorem enterFilling_findings (s : State) (p : PairNo) (f : Profile) : (enterFilling p f s).findings = s.findings := rfl
@[simp] theorem enterFilling_sched (s : State) (p : PairNo) (f : Profile) : (enterFilling p f s).sched = s.sched := rfl
@[simp] theorem enterFilling_channel (s : State) (p : PairNo) (f : Profile) : (enterFilling p f s).channel = s.channel := rfl
@[simp] theorem enterFilling_ports (s : State) (p : PairNo) (f : Profile) : (enterFilling p f s).ports = s.ports := rfl
@[simp] theorem enterFilling_synth (s : State) (p : PairNo) (f : Profile) : (enterFilling p f s).synth = s.synth := rfl
@[simp] theorem enterFilling_pending (s : State) (p : PairNo) (f : Profile) : (enterFilling p f s).pending = s.pending := rfl

/-! ### enterTone -/

@[simp] theorem enterTone_lineTime (s : State) (p : PairNo) (f : Profile) (b : List Bool) : (enterTone p f b s).lineTime = s.lineTime := rfl
@[simp] theorem enterTone_params (s : State) (p : PairNo) (f : Profile) (b : List Bool) : (enterTone p f b s).params = s.params := rfl
@[simp] theorem enterTone_lineMap (s : State) (p : PairNo) (f : Profile) (b : List Bool) : (enterTone p f b s).lineMap = s.lineMap := rfl
@[simp] theorem enterTone_intake (s : State) (p : PairNo) (f : Profile) (b : List Bool) : (enterTone p f b s).intake = s.intake := rfl
@[simp] theorem enterTone_corr (s : State) (p : PairNo) (f : Profile) (b : List Bool) : (enterTone p f b s).corr = s.corr := rfl
@[simp] theorem enterTone_sig (s : State) (p : PairNo) (f : Profile) (b : List Bool) : (enterTone p f b s).sig = s.sig := rfl
@[simp] theorem enterTone_findings (s : State) (p : PairNo) (f : Profile) (b : List Bool) : (enterTone p f b s).findings = s.findings := rfl
@[simp] theorem enterTone_sched (s : State) (p : PairNo) (f : Profile) (b : List Bool) : (enterTone p f b s).sched = s.sched := rfl
@[simp] theorem enterTone_channel (s : State) (p : PairNo) (f : Profile) (b : List Bool) : (enterTone p f b s).channel = s.channel := rfl
@[simp] theorem enterTone_ports (s : State) (p : PairNo) (f : Profile) (b : List Bool) : (enterTone p f b s).ports = s.ports := rfl
@[simp] theorem enterTone_synth (s : State) (p : PairNo) (f : Profile) (b : List Bool) : (enterTone p f b s).synth = s.synth := rfl
@[simp] theorem enterTone_pending (s : State) (p : PairNo) (f : Profile) (b : List Bool) : (enterTone p f b s).pending = s.pending := rfl

/-! ### enterRest -/

@[simp] theorem enterRest_lineTime (s : State) : (enterRest s).lineTime = s.lineTime := rfl
@[simp] theorem enterRest_params (s : State) : (enterRest s).params = s.params := rfl
@[simp] theorem enterRest_lineMap (s : State) : (enterRest s).lineMap = s.lineMap := rfl
@[simp] theorem enterRest_corr (s : State) : (enterRest s).corr = s.corr := rfl
@[simp] theorem enterRest_sig (s : State) : (enterRest s).sig = s.sig := rfl
@[simp] theorem enterRest_findings (s : State) : (enterRest s).findings = s.findings := rfl
@[simp] theorem enterRest_sched (s : State) : (enterRest s).sched = s.sched := rfl
@[simp] theorem enterRest_channel (s : State) : (enterRest s).channel = s.channel := rfl
@[simp] theorem enterRest_ports (s : State) : (enterRest s).ports = s.ports := rfl
@[simp] theorem enterRest_synth (s : State) : (enterRest s).synth = s.synth := rfl
@[simp] theorem enterRest_pending (s : State) : (enterRest s).pending = s.pending := rfl

/-! ### enterDark -/

@[simp] theorem enterDark_lineTime (s : State) (o : Order) : (enterDark o s).lineTime = s.lineTime := by cases o <;> rfl
@[simp] theorem enterDark_params (s : State) (o : Order) : (enterDark o s).params = s.params := by cases o <;> rfl
@[simp] theorem enterDark_lineMap (s : State) (o : Order) : (enterDark o s).lineMap = s.lineMap := by cases o <;> rfl
@[simp] theorem enterDark_corr (s : State) (o : Order) : (enterDark o s).corr = s.corr := by cases o <;> rfl
@[simp] theorem enterDark_sig (s : State) (o : Order) : (enterDark o s).sig = s.sig := by cases o <;> rfl
@[simp] theorem enterDark_findings (s : State) (o : Order) : (enterDark o s).findings = s.findings := by cases o <;> rfl
@[simp] theorem enterDark_sched (s : State) (o : Order) : (enterDark o s).sched = s.sched := by cases o <;> rfl
@[simp] theorem enterDark_channel (s : State) (o : Order) : (enterDark o s).channel = s.channel := by cases o <;> rfl
@[simp] theorem enterDark_ports (s : State) (o : Order) : (enterDark o s).ports = s.ports := by cases o <;> rfl
@[simp] theorem enterDark_pending (s : State) (o : Order) : (enterDark o s).pending = s.pending := by cases o <;> rfl

/-! ### moveSwitch -/

@[simp] theorem moveSwitch_lineTime (s : State) (o : Order) : (moveSwitch o s).lineTime = s.lineTime := rfl
@[simp] theorem moveSwitch_params (s : State) (o : Order) : (moveSwitch o s).params = s.params := rfl
@[simp] theorem moveSwitch_lineMap (s : State) (o : Order) : (moveSwitch o s).lineMap = s.lineMap := rfl
@[simp] theorem moveSwitch_corr (s : State) (o : Order) : (moveSwitch o s).corr = s.corr := rfl
@[simp] theorem moveSwitch_sig (s : State) (o : Order) : (moveSwitch o s).sig = s.sig := rfl
@[simp] theorem moveSwitch_findings (s : State) (o : Order) : (moveSwitch o s).findings = s.findings := rfl
@[simp] theorem moveSwitch_sched (s : State) (o : Order) : (moveSwitch o s).sched = s.sched := rfl
@[simp] theorem moveSwitch_channel (s : State) (o : Order) : (moveSwitch o s).channel = s.channel := rfl
@[simp] theorem moveSwitch_ports (s : State) (o : Order) : (moveSwitch o s).ports = s.ports := rfl
@[simp] theorem moveSwitch_synth (s : State) (o : Order) : (moveSwitch o s).synth = s.synth := rfl
@[simp] theorem moveSwitch_pending (s : State) (o : Order) : (moveSwitch o s).pending = s.pending := rfl

/-! ### giveOrder -/

@[simp] theorem giveOrder_lineTime (s : State) (o : Order) : (giveOrder o s).lineTime = s.lineTime := by
  unfold giveOrder
  try dsimp only
  repeat' split
  all_goals simp
@[simp] theorem giveOrder_params (s : State) (o : Order) : (giveOrder o s).params = s.params := by
  unfold giveOrder
  try dsimp only
  repeat' split
  all_goals simp
@[simp] theorem giveOrder_lineMap (s : State) (o : Order) : (giveOrder o s).lineMap = s.lineMap := by
  unfold giveOrder
  try dsimp only
  repeat' split
  all_goals simp
@[simp] theorem giveOrder_corr (s : State) (o : Order) : (giveOrder o s).corr = s.corr := by
  unfold giveOrder
  try dsimp only
  repeat' split
  all_goals simp
@[simp] theorem giveOrder_sig (s : State) (o : Order) : (giveOrder o s).sig = s.sig := by
  unfold giveOrder
  try dsimp only
  repeat' split
  all_goals simp
@[simp] theorem giveOrder_findings (s : State) (o : Order) : (giveOrder o s).findings = s.findings := by
  unfold giveOrder
  try dsimp only
  repeat' split
  all_goals simp
@[simp] theorem giveOrder_sched (s : State) (o : Order) : (giveOrder o s).sched = s.sched := by
  unfold giveOrder
  try dsimp only
  repeat' split
  all_goals simp
@[simp] theorem giveOrder_channel (s : State) (o : Order) : (giveOrder o s).channel = s.channel := by
  unfold giveOrder
  try dsimp only
  repeat' split
  all_goals simp
@[simp] theorem giveOrder_ports (s : State) (o : Order) : (giveOrder o s).ports = s.ports := by
  unfold giveOrder
  try dsimp only
  repeat' split
  all_goals simp
@[simp] theorem giveOrder_pending (s : State) (o : Order) : (giveOrder o s).pending = s.pending := by
  unfold giveOrder
  try dsimp only
  repeat' split
  all_goals simp

/-! ### settleInto -/

@[simp] theorem settleInto_lineTime (s : State) (o : Order) : (settleInto o s).lineTime = s.lineTime := by
  unfold settleInto
  try dsimp only
  repeat' split
  all_goals simp
@[simp] theorem settleInto_params (s : State) (o : Order) : (settleInto o s).params = s.params := by
  unfold settleInto
  try dsimp only
  repeat' split
  all_goals simp
@[simp] theorem settleInto_lineMap (s : State) (o : Order) : (settleInto o s).lineMap = s.lineMap := by
  unfold settleInto
  try dsimp only
  repeat' split
  all_goals simp
@[simp] theorem settleInto_corr (s : State) (o : Order) : (settleInto o s).corr = s.corr := by
  unfold settleInto
  try dsimp only
  repeat' split
  all_goals simp
@[simp] theorem settleInto_sig (s : State) (o : Order) : (settleInto o s).sig = s.sig := by
  unfold settleInto
  try dsimp only
  repeat' split
  all_goals simp
@[simp] theorem settleInto_findings (s : State) (o : Order) : (settleInto o s).findings = s.findings := by
  unfold settleInto
  try dsimp only
  repeat' split
  all_goals simp
@[simp] theorem settleInto_sched (s : State) (o : Order) : (settleInto o s).sched = s.sched := by
  unfold settleInto
  try dsimp only
  repeat' split
  all_goals simp
@[simp] theorem settleInto_channel (s : State) (o : Order) : (settleInto o s).channel = s.channel := by
  unfold settleInto
  try dsimp only
  repeat' split
  all_goals simp
@[simp] theorem settleInto_ports (s : State) (o : Order) : (settleInto o s).ports = s.ports := by
  unfold settleInto
  try dsimp only
  repeat' split
  all_goals simp
@[simp] theorem settleInto_pending (s : State) (o : Order) : (settleInto o s).pending = s.pending := by
  unfold settleInto
  try dsimp only
  repeat' split
  all_goals simp

/-! ### afterWord -/

@[simp] theorem afterWord_lineTime (s : State) : (afterWord s).lineTime = s.lineTime := by
  unfold afterWord
  try dsimp only
  repeat' split
  all_goals simp
@[simp] theorem afterWord_params (s : State) : (afterWord s).params = s.params := by
  unfold afterWord
  try dsimp only
  repeat' split
  all_goals simp
@[simp] theorem afterWord_lineMap (s : State) : (afterWord s).lineMap = s.lineMap := by
  unfold afterWord
  try dsimp only
  repeat' split
  all_goals simp
@[simp] theorem afterWord_corr (s : State) : (afterWord s).corr = s.corr := by
  unfold afterWord
  try dsimp only
  repeat' split
  all_goals simp
@[simp] theorem afterWord_sig (s : State) : (afterWord s).sig = s.sig := by
  unfold afterWord
  try dsimp only
  repeat' split
  all_goals simp
@[simp] theorem afterWord_findings (s : State) : (afterWord s).findings = s.findings := by
  unfold afterWord
  try dsimp only
  repeat' split
  all_goals simp
@[simp] theorem afterWord_sched (s : State) : (afterWord s).sched = s.sched := by
  unfold afterWord
  try dsimp only
  repeat' split
  all_goals simp
@[simp] theorem afterWord_channel (s : State) : (afterWord s).channel = s.channel := by
  unfold afterWord
  try dsimp only
  repeat' split
  all_goals simp
@[simp] theorem afterWord_ports (s : State) : (afterWord s).ports = s.ports := by
  unfold afterWord
  try dsimp only
  repeat' split
  all_goals simp
@[simp] theorem afterWord_synth (s : State) : (afterWord s).synth = s.synth := by
  unfold afterWord
  try dsimp only
  repeat' split
  all_goals simp
@[simp] theorem afterWord_pending (s : State) : (afterWord s).pending = s.pending := by
  unfold afterWord
  try dsimp only
  repeat' split
  all_goals simp

/-! ### endJob -/

@[simp] theorem endJob_lineTime (s : State) (n : Nat) (o : JobOutcome) : (endJob n o s).lineTime = s.lineTime := by
  unfold endJob
  try dsimp only
  repeat' split
  all_goals simp
@[simp] theorem endJob_params (s : State) (n : Nat) (o : JobOutcome) : (endJob n o s).params = s.params := by
  unfold endJob
  try dsimp only
  repeat' split
  all_goals simp
@[simp] theorem endJob_lineMap (s : State) (n : Nat) (o : JobOutcome) : (endJob n o s).lineMap = s.lineMap := by
  unfold endJob
  try dsimp only
  repeat' split
  all_goals simp
@[simp] theorem endJob_seq (s : State) (n : Nat) (o : JobOutcome) : (endJob n o s).seq = s.seq := by
  unfold endJob
  try dsimp only
  repeat' split
  all_goals simp
@[simp] theorem endJob_intake (s : State) (n : Nat) (o : JobOutcome) : (endJob n o s).intake = s.intake := by
  unfold endJob
  try dsimp only
  repeat' split
  all_goals simp
@[simp] theorem endJob_corr (s : State) (n : Nat) (o : JobOutcome) : (endJob n o s).corr = s.corr := by
  unfold endJob
  try dsimp only
  repeat' split
  all_goals simp
@[simp] theorem endJob_sig (s : State) (n : Nat) (o : JobOutcome) : (endJob n o s).sig = s.sig := by
  unfold endJob
  try dsimp only
  repeat' split
  all_goals simp
@[simp] theorem endJob_findings (s : State) (n : Nat) (o : JobOutcome) : (endJob n o s).findings = s.findings := by
  unfold endJob
  try dsimp only
  repeat' split
  all_goals simp
@[simp] theorem endJob_channel (s : State) (n : Nat) (o : JobOutcome) : (endJob n o s).channel = s.channel := by
  unfold endJob
  try dsimp only
  repeat' split
  all_goals simp
@[simp] theorem endJob_synth (s : State) (n : Nat) (o : JobOutcome) : (endJob n o s).synth = s.synth := by
  unfold endJob
  try dsimp only
  repeat' split
  all_goals simp
@[simp] theorem endJob_pending (s : State) (n : Nat) (o : JobOutcome) : (endJob n o s).pending = s.pending := by
  unfold endJob
  try dsimp only
  repeat' split
  all_goals simp

/-! ### bumpStat -/

@[simp] theorem bumpStat_lineTime (s : State) (k : SmallStat) (p : PairNo) : (bumpStat k p s).lineTime = s.lineTime := by
  unfold bumpStat
  try dsimp only
  repeat' split
  all_goals simp
@[simp] theorem bumpStat_params (s : State) (k : SmallStat) (p : PairNo) : (bumpStat k p s).params = s.params := by
  unfold bumpStat
  try dsimp only
  repeat' split
  all_goals simp
@[simp] theorem bumpStat_lineMap (s : State) (k : SmallStat) (p : PairNo) : (bumpStat k p s).lineMap = s.lineMap := by
  unfold bumpStat
  try dsimp only
  repeat' split
  all_goals simp
@[simp] theorem bumpStat_seq (s : State) (k : SmallStat) (p : PairNo) : (bumpStat k p s).seq = s.seq := by
  unfold bumpStat
  try dsimp only
  repeat' split
  all_goals simp
@[simp] theorem bumpStat_intake (s : State) (k : SmallStat) (p : PairNo) : (bumpStat k p s).intake = s.intake := by
  unfold bumpStat
  try dsimp only
  repeat' split
  all_goals simp
@[simp] theorem bumpStat_corr (s : State) (k : SmallStat) (p : PairNo) : (bumpStat k p s).corr = s.corr := by
  unfold bumpStat
  try dsimp only
  repeat' split
  all_goals simp
@[simp] theorem bumpStat_sig (s : State) (k : SmallStat) (p : PairNo) : (bumpStat k p s).sig = s.sig := by
  unfold bumpStat
  try dsimp only
  repeat' split
  all_goals simp
@[simp] theorem bumpStat_findings (s : State) (k : SmallStat) (p : PairNo) : (bumpStat k p s).findings = s.findings := by
  unfold bumpStat
  try dsimp only
  repeat' split
  all_goals simp
@[simp] theorem bumpStat_channel (s : State) (k : SmallStat) (p : PairNo) : (bumpStat k p s).channel = s.channel := by
  unfold bumpStat
  try dsimp only
  repeat' split
  all_goals simp
@[simp] theorem bumpStat_synth (s : State) (k : SmallStat) (p : PairNo) : (bumpStat k p s).synth = s.synth := by
  unfold bumpStat
  try dsimp only
  repeat' split
  all_goals simp
@[simp] theorem bumpStat_pending (s : State) (k : SmallStat) (p : PairNo) : (bumpStat k p s).pending = s.pending := by
  unfold bumpStat
  try dsimp only
  repeat' split
  all_goals simp

/-! ### bumpPasses -/

@[simp] theorem bumpPasses_lineTime (s : State) (p : PairNo) : (bumpPasses p s).lineTime = s.lineTime := rfl
@[simp] theorem bumpPasses_params (s : State) (p : PairNo) : (bumpPasses p s).params = s.params := rfl
@[simp] theorem bumpPasses_lineMap (s : State) (p : PairNo) : (bumpPasses p s).lineMap = s.lineMap := rfl
@[simp] theorem bumpPasses_seq (s : State) (p : PairNo) : (bumpPasses p s).seq = s.seq := rfl
@[simp] theorem bumpPasses_intake (s : State) (p : PairNo) : (bumpPasses p s).intake = s.intake := rfl
@[simp] theorem bumpPasses_corr (s : State) (p : PairNo) : (bumpPasses p s).corr = s.corr := rfl
@[simp] theorem bumpPasses_sig (s : State) (p : PairNo) : (bumpPasses p s).sig = s.sig := rfl
@[simp] theorem bumpPasses_findings (s : State) (p : PairNo) : (bumpPasses p s).findings = s.findings := rfl
@[simp] theorem bumpPasses_channel (s : State) (p : PairNo) : (bumpPasses p s).channel = s.channel := rfl
@[simp] theorem bumpPasses_ports (s : State) (p : PairNo) : (bumpPasses p s).ports = s.ports := rfl
@[simp] theorem bumpPasses_synth (s : State) (p : PairNo) : (bumpPasses p s).synth = s.synth := rfl
@[simp] theorem bumpPasses_pending (s : State) (p : PairNo) : (bumpPasses p s).pending = s.pending := rfl

/-! ### takeOver -/

@[simp] theorem takeOver_lineTime (s : State) (j : Job) : (takeOver j s).lineTime = s.lineTime := by
  unfold takeOver
  try dsimp only
  repeat' split
  all_goals simp
@[simp] theorem takeOver_params (s : State) (j : Job) : (takeOver j s).params = s.params := by
  unfold takeOver
  try dsimp only
  repeat' split
  all_goals simp
@[simp] theorem takeOver_lineMap (s : State) (j : Job) : (takeOver j s).lineMap = s.lineMap := by
  unfold takeOver
  try dsimp only
  repeat' split
  all_goals simp
@[simp] theorem takeOver_seq (s : State) (j : Job) : (takeOver j s).seq = s.seq := by
  unfold takeOver
  try dsimp only
  repeat' split
  all_goals simp
@[simp] theorem takeOver_intake (s : State) (j : Job) : (takeOver j s).intake = s.intake := by
  unfold takeOver
  try dsimp only
  repeat' split
  all_goals simp
@[simp] theorem takeOver_corr (s : State) (j : Job) : (takeOver j s).corr = s.corr := by
  unfold takeOver
  try dsimp only
  repeat' split
  all_goals simp
@[simp] theorem takeOver_sig (s : State) (j : Job) : (takeOver j s).sig = s.sig := by
  unfold takeOver
  try dsimp only
  repeat' split
  all_goals simp
@[simp] theorem takeOver_findings (s : State) (j : Job) : (takeOver j s).findings = s.findings := by
  unfold takeOver
  try dsimp only
  repeat' split
  all_goals simp
@[simp] theorem takeOver_channel (s : State) (j : Job) : (takeOver j s).channel = s.channel := by
  unfold takeOver
  try dsimp only
  repeat' split
  all_goals simp
@[simp] theorem takeOver_ports (s : State) (j : Job) : (takeOver j s).ports = s.ports := by
  unfold takeOver
  try dsimp only
  repeat' split
  all_goals simp
@[simp] theorem takeOver_synth (s : State) (j : Job) : (takeOver j s).synth = s.synth := by
  unfold takeOver
  try dsimp only
  repeat' split
  all_goals simp
@[simp] theorem takeOver_pending (s : State) (j : Job) : (takeOver j s).pending = s.pending := by
  unfold takeOver
  try dsimp only
  repeat' split
  all_goals simp

/-! ### activate -/

@[simp] theorem activate_lineTime (s : State) (j : Job) : (activate j s).lineTime = s.lineTime := by
  unfold activate
  try dsimp only
  repeat' split
  all_goals simp
@[simp] theorem activate_params (s : State) (j : Job) : (activate j s).params = s.params := by
  unfold activate
  try dsimp only
  repeat' split
  all_goals simp
@[simp] theorem activate_lineMap (s : State) (j : Job) : (activate j s).lineMap = s.lineMap := by
  unfold activate
  try dsimp only
  repeat' split
  all_goals simp
@[simp] theorem activate_seq (s : State) (j : Job) : (activate j s).seq = s.seq := by
  unfold activate
  try dsimp only
  repeat' split
  all_goals simp
@[simp] theorem activate_intake (s : State) (j : Job) : (activate j s).intake = s.intake := by
  unfold activate
  try dsimp only
  repeat' split
  all_goals simp
@[simp] theorem activate_corr (s : State) (j : Job) : (activate j s).corr = s.corr := by
  unfold activate
  try dsimp only
  repeat' split
  all_goals simp
@[simp] theorem activate_sig (s : State) (j : Job) : (activate j s).sig = s.sig := by
  unfold activate
  try dsimp only
  repeat' split
  all_goals simp
@[simp] theorem activate_findings (s : State) (j : Job) : (activate j s).findings = s.findings := by
  unfold activate
  try dsimp only
  repeat' split
  all_goals simp
@[simp] theorem activate_channel (s : State) (j : Job) : (activate j s).channel = s.channel := by
  unfold activate
  try dsimp only
  repeat' split
  all_goals simp
@[simp] theorem activate_ports (s : State) (j : Job) : (activate j s).ports = s.ports := by
  unfold activate
  try dsimp only
  repeat' split
  all_goals simp
@[simp] theorem activate_synth (s : State) (j : Job) : (activate j s).synth = s.synth := by
  unfold activate
  try dsimp only
  repeat' split
  all_goals simp
@[simp] theorem activate_pending (s : State) (j : Job) : (activate j s).pending = s.pending := by
  unfold activate
  try dsimp only
  repeat' split
  all_goals simp

/-! ### buildPass -/

@[simp] theorem buildPass_lineTime (s : State) (j : Job) : (buildPass j s).lineTime = s.lineTime := by
  unfold buildPass
  try dsimp only
  repeat' split
  all_goals simp
@[simp] theorem buildPass_params (s : State) (j : Job) : (buildPass j s).params = s.params := by
  unfold buildPass
  try dsimp only
  repeat' split
  all_goals simp
@[simp] theorem buildPass_lineMap (s : State) (j : Job) : (buildPass j s).lineMap = s.lineMap := by
  unfold buildPass
  try dsimp only
  repeat' split
  all_goals simp
@[simp] theorem buildPass_seq (s : State) (j : Job) : (buildPass j s).seq = s.seq := by
  unfold buildPass
  try dsimp only
  repeat' split
  all_goals simp
@[simp] theorem buildPass_intake (s : State) (j : Job) : (buildPass j s).intake = s.intake := by
  unfold buildPass
  try dsimp only
  repeat' split
  all_goals simp
@[simp] theorem buildPass_sig (s : State) (j : Job) : (buildPass j s).sig = s.sig := by
  unfold buildPass
  try dsimp only
  repeat' split
  all_goals simp
@[simp] theorem buildPass_findings (s : State) (j : Job) : (buildPass j s).findings = s.findings := by
  unfold buildPass
  try dsimp only
  repeat' split
  all_goals simp
@[simp] theorem buildPass_sched (s : State) (j : Job) : (buildPass j s).sched = s.sched := by
  unfold buildPass
  try dsimp only
  repeat' split
  all_goals simp
@[simp] theorem buildPass_channel (s : State) (j : Job) : (buildPass j s).channel = s.channel := by
  unfold buildPass
  try dsimp only
  repeat' split
  all_goals simp
@[simp] theorem buildPass_ports (s : State) (j : Job) : (buildPass j s).ports = s.ports := by
  unfold buildPass
  try dsimp only
  repeat' split
  all_goals simp
@[simp] theorem buildPass_synth (s : State) (j : Job) : (buildPass j s).synth = s.synth := by
  unfold buildPass
  try dsimp only
  repeat' split
  all_goals simp
@[simp] theorem buildPass_pending (s : State) (j : Job) : (buildPass j s).pending = s.pending := by
  unfold buildPass
  try dsimp only
  repeat' split
  all_goals simp

/-! ### runPass -/

@[simp] theorem runPass_lineTime (s : State) (j : Job) : (runPass j s).lineTime = s.lineTime := by
  unfold runPass
  try dsimp only
  repeat' split
  all_goals simp
@[simp] theorem runPass_params (s : State) (j : Job) : (runPass j s).params = s.params := by
  unfold runPass
  try dsimp only
  repeat' split
  all_goals simp
@[simp] theorem runPass_lineMap (s : State) (j : Job) : (runPass j s).lineMap = s.lineMap := by
  unfold runPass
  try dsimp only
  repeat' split
  all_goals simp
@[simp] theorem runPass_sig (s : State) (j : Job) : (runPass j s).sig = s.sig := by
  unfold runPass
  try dsimp only
  repeat' split
  all_goals simp
@[simp] theorem runPass_findings (s : State) (j : Job) : (runPass j s).findings = s.findings := by
  unfold runPass
  try dsimp only
  repeat' split
  all_goals simp
@[simp] theorem runPass_sched (s : State) (j : Job) : (runPass j s).sched = s.sched := by
  unfold runPass
  try dsimp only
  repeat' split
  all_goals simp
@[simp] theorem runPass_channel (s : State) (j : Job) : (runPass j s).channel = s.channel := by
  unfold runPass
  try dsimp only
  repeat' split
  all_goals simp
@[simp] theorem runPass_ports (s : State) (j : Job) : (runPass j s).ports = s.ports := by
  unfold runPass
  try dsimp only
  repeat' split
  all_goals simp
@[simp] theorem runPass_pending (s : State) (j : Job) : (runPass j s).pending = s.pending := by
  unfold runPass
  try dsimp only
  repeat' split
  all_goals simp

/-! ### startWord -/

@[simp] theorem startWord_lineTime (s : State) (j : Job) (w : CmdWord) (t : Bool) (k : Nat) : (startWord j w t k s).lineTime = s.lineTime := by
  unfold startWord
  try dsimp only
  repeat' split
  all_goals simp
@[simp] theorem startWord_params (s : State) (j : Job) (w : CmdWord) (t : Bool) (k : Nat) : (startWord j w t k s).params = s.params := by
  unfold startWord
  try dsimp only
  repeat' split
  all_goals simp
@[simp] theorem startWord_lineMap (s : State) (j : Job) (w : CmdWord) (t : Bool) (k : Nat) : (startWord j w t k s).lineMap = s.lineMap := by
  unfold startWord
  try dsimp only
  repeat' split
  all_goals simp
@[simp] theorem startWord_corr (s : State) (j : Job) (w : CmdWord) (t : Bool) (k : Nat) : (startWord j w t k s).corr = s.corr := by
  unfold startWord
  try dsimp only
  repeat' split
  all_goals simp
@[simp] theorem startWord_sig (s : State) (j : Job) (w : CmdWord) (t : Bool) (k : Nat) : (startWord j w t k s).sig = s.sig := by
  unfold startWord
  try dsimp only
  repeat' split
  all_goals simp
@[simp] theorem startWord_findings (s : State) (j : Job) (w : CmdWord) (t : Bool) (k : Nat) : (startWord j w t k s).findings = s.findings := by
  unfold startWord
  try dsimp only
  repeat' split
  all_goals simp
@[simp] theorem startWord_ports (s : State) (j : Job) (w : CmdWord) (t : Bool) (k : Nat) : (startWord j w t k s).ports = s.ports := by
  unfold startWord
  try dsimp only
  repeat' split
  all_goals simp
@[simp] theorem startWord_pending (s : State) (j : Job) (w : CmdWord) (t : Bool) (k : Nat) : (startWord j w t k s).pending = s.pending := by
  unfold startWord
  try dsimp only
  repeat' split
  all_goals simp

/-! ### sendFirst -/

@[simp] theorem sendFirst_lineTime (s : State) (j : Job) : (sendFirst j s).lineTime = s.lineTime := by
  unfold sendFirst
  try dsimp only
  repeat' split
  all_goals simp
@[simp] theorem sendFirst_params (s : State) (j : Job) : (sendFirst j s).params = s.params := by
  unfold sendFirst
  try dsimp only
  repeat' split
  all_goals simp
@[simp] theorem sendFirst_lineMap (s : State) (j : Job) : (sendFirst j s).lineMap = s.lineMap := by
  unfold sendFirst
  try dsimp only
  repeat' split
  all_goals simp
@[simp] theorem sendFirst_corr (s : State) (j : Job) : (sendFirst j s).corr = s.corr := by
  unfold sendFirst
  try dsimp only
  repeat' split
  all_goals simp
@[simp] theorem sendFirst_sig (s : State) (j : Job) : (sendFirst j s).sig = s.sig := by
  unfold sendFirst
  try dsimp only
  repeat' split
  all_goals simp
@[simp] theorem sendFirst_findings (s : State) (j : Job) : (sendFirst j s).findings = s.findings := by
  unfold sendFirst
  try dsimp only
  repeat' split
  all_goals simp
@[simp] theorem sendFirst_ports (s : State) (j : Job) : (sendFirst j s).ports = s.ports := by
  unfold sendFirst
  try dsimp only
  repeat' split
  all_goals simp
@[simp] theorem sendFirst_pending (s : State) (j : Job) : (sendFirst j s).pending = s.pending := by
  unfold sendFirst
  try dsimp only
  repeat' split
  all_goals simp

/-! ### sendNext -/

@[simp] theorem sendNext_lineTime (s : State) (j : Job) (w : CmdWord) : (sendNext j w s).lineTime = s.lineTime := by simp [sendNext]
@[simp] theorem sendNext_params (s : State) (j : Job) (w : CmdWord) : (sendNext j w s).params = s.params := by simp [sendNext]
@[simp] theorem sendNext_lineMap (s : State) (j : Job) (w : CmdWord) : (sendNext j w s).lineMap = s.lineMap := by simp [sendNext]
@[simp] theorem sendNext_corr (s : State) (j : Job) (w : CmdWord) : (sendNext j w s).corr = s.corr := by simp [sendNext]
@[simp] theorem sendNext_sig (s : State) (j : Job) (w : CmdWord) : (sendNext j w s).sig = s.sig := by simp [sendNext]
@[simp] theorem sendNext_findings (s : State) (j : Job) (w : CmdWord) : (sendNext j w s).findings = s.findings := by simp [sendNext]
@[simp] theorem sendNext_ports (s : State) (j : Job) (w : CmdWord) : (sendNext j w s).ports = s.ports := by simp [sendNext]
@[simp] theorem sendNext_pending (s : State) (j : Job) (w : CmdWord) : (sendNext j w s).pending = s.pending := by simp [sendNext]

/-! ### startCommand -/

@[simp] theorem startCommand_lineTime (s : State) (j : Job) : (startCommand j s).lineTime = s.lineTime := by
  unfold startCommand
  try dsimp only
  repeat' split
  all_goals simp
@[simp] theorem startCommand_params (s : State) (j : Job) : (startCommand j s).params = s.params := by
  unfold startCommand
  try dsimp only
  repeat' split
  all_goals simp
@[simp] theorem startCommand_lineMap (s : State) (j : Job) : (startCommand j s).lineMap = s.lineMap := by
  unfold startCommand
  try dsimp only
  repeat' split
  all_goals simp
@[simp] theorem startCommand_sig (s : State) (j : Job) : (startCommand j s).sig = s.sig := by
  unfold startCommand
  try dsimp only
  repeat' split
  all_goals simp
@[simp] theorem startCommand_findings (s : State) (j : Job) : (startCommand j s).findings = s.findings := by
  unfold startCommand
  try dsimp only
  repeat' split
  all_goals simp
@[simp] theorem startCommand_ports (s : State) (j : Job) : (startCommand j s).ports = s.ports := by
  unfold startCommand
  try dsimp only
  repeat' split
  all_goals simp
@[simp] theorem startCommand_pending (s : State) (j : Job) : (startCommand j s).pending = s.pending := by
  unfold startCommand
  try dsimp only
  repeat' split
  all_goals simp

/-! ### afterSettle -/

@[simp] theorem afterSettle_lineTime (s : State) : (afterSettle s).lineTime = s.lineTime := by
  unfold afterSettle
  try dsimp only
  repeat' split
  all_goals simp
@[simp] theorem afterSettle_params (s : State) : (afterSettle s).params = s.params := by
  unfold afterSettle
  try dsimp only
  repeat' split
  all_goals simp
@[simp] theorem afterSettle_lineMap (s : State) : (afterSettle s).lineMap = s.lineMap := by
  unfold afterSettle
  try dsimp only
  repeat' split
  all_goals simp
@[simp] theorem afterSettle_corr (s : State) : (afterSettle s).corr = s.corr := by
  unfold afterSettle
  try dsimp only
  repeat' split
  all_goals simp
@[simp] theorem afterSettle_sig (s : State) : (afterSettle s).sig = s.sig := by
  unfold afterSettle
  try dsimp only
  repeat' split
  all_goals simp
@[simp] theorem afterSettle_findings (s : State) : (afterSettle s).findings = s.findings := by
  unfold afterSettle
  try dsimp only
  repeat' split
  all_goals simp
@[simp] theorem afterSettle_ports (s : State) : (afterSettle s).ports = s.ports := by
  unfold afterSettle
  try dsimp only
  repeat' split
  all_goals simp
@[simp] theorem afterSettle_pending (s : State) : (afterSettle s).pending = s.pending := by
  unfold afterSettle
  try dsimp only
  repeat' split
  all_goals simp

/-! ### startDark -/

@[simp] theorem startDark_lineTime (s : State) : (startDark s).lineTime = s.lineTime := by simp [startDark]
@[simp] theorem startDark_params (s : State) : (startDark s).params = s.params := by simp [startDark]
@[simp] theorem startDark_lineMap (s : State) : (startDark s).lineMap = s.lineMap := by simp [startDark]
@[simp] theorem startDark_corr (s : State) : (startDark s).corr = s.corr := by simp [startDark]
@[simp] theorem startDark_sig (s : State) : (startDark s).sig = s.sig := by simp [startDark]
@[simp] theorem startDark_findings (s : State) : (startDark s).findings = s.findings := by simp [startDark]
@[simp] theorem startDark_sched (s : State) : (startDark s).sched = s.sched := by simp [startDark]
@[simp] theorem startDark_channel (s : State) : (startDark s).channel = s.channel := by simp [startDark]
@[simp] theorem startDark_ports (s : State) : (startDark s).ports = s.ports := by simp [startDark]
@[simp] theorem startDark_pending (s : State) : (startDark s).pending = s.pending := by simp [startDark]

/-! ### startWork -/

@[simp] theorem startWork_lineTime (s : State) (j : Job) : (startWork j s).lineTime = s.lineTime := by
  unfold startWork
  try dsimp only
  repeat' split
  all_goals simp
@[simp] theorem startWork_params (s : State) (j : Job) : (startWork j s).params = s.params := by
  unfold startWork
  try dsimp only
  repeat' split
  all_goals simp
@[simp] theorem startWork_lineMap (s : State) (j : Job) : (startWork j s).lineMap = s.lineMap := by
  unfold startWork
  try dsimp only
  repeat' split
  all_goals simp
@[simp] theorem startWork_sig (s : State) (j : Job) : (startWork j s).sig = s.sig := by
  unfold startWork
  try dsimp only
  repeat' split
  all_goals simp
@[simp] theorem startWork_findings (s : State) (j : Job) : (startWork j s).findings = s.findings := by
  unfold startWork
  try dsimp only
  repeat' split
  all_goals simp
@[simp] theorem startWork_ports (s : State) (j : Job) : (startWork j s).ports = s.ports := by
  unfold startWork
  try dsimp only
  repeat' split
  all_goals simp
@[simp] theorem startWork_pending (s : State) (j : Job) : (startWork j s).pending = s.pending := by
  unfold startWork
  try dsimp only
  repeat' split
  all_goals simp

/-! ### endHeld -/

@[simp] theorem endHeld_lineTime (s : State) (n : Nat) : (endHeld n s).lineTime = s.lineTime := by simp [endHeld]
@[simp] theorem endHeld_params (s : State) (n : Nat) : (endHeld n s).params = s.params := by simp [endHeld]
@[simp] theorem endHeld_lineMap (s : State) (n : Nat) : (endHeld n s).lineMap = s.lineMap := by simp [endHeld]
@[simp] theorem endHeld_seq (s : State) (n : Nat) : (endHeld n s).seq = s.seq := by simp [endHeld]
@[simp] theorem endHeld_intake (s : State) (n : Nat) : (endHeld n s).intake = s.intake := by simp [endHeld]
@[simp] theorem endHeld_corr (s : State) (n : Nat) : (endHeld n s).corr = s.corr := by simp [endHeld]
@[simp] theorem endHeld_sig (s : State) (n : Nat) : (endHeld n s).sig = s.sig := by simp [endHeld]
@[simp] theorem endHeld_findings (s : State) (n : Nat) : (endHeld n s).findings = s.findings := by simp [endHeld]
@[simp] theorem endHeld_channel (s : State) (n : Nat) : (endHeld n s).channel = s.channel := by simp [endHeld]
@[simp] theorem endHeld_synth (s : State) (n : Nat) : (endHeld n s).synth = s.synth := by simp [endHeld]
@[simp] theorem endHeld_pending (s : State) (n : Nat) : (endHeld n s).pending = s.pending := by simp [endHeld]

/-! ### grantLoop -/

@[simp] theorem grantLoop_lineTime (s : State) (n : Nat) : (grantLoop n s).lineTime = s.lineTime := by
  induction n generalizing s with
  | zero => rfl
  | succ n ih =>
    unfold grantLoop
    split
    · rfl
    · dsimp only
      split <;> simp [ih]
@[simp] theorem grantLoop_params (s : State) (n : Nat) : (grantLoop n s).params = s.params := by
  induction n generalizing s with
  | zero => rfl
  | succ n ih =>
    unfold grantLoop
    split
    · rfl
    · dsimp only
      split <;> simp [ih]
@[simp] theorem grantLoop_lineMap (s : State) (n : Nat) : (grantLoop n s).lineMap = s.lineMap := by
  induction n generalizing s with
  | zero => rfl
  | succ n ih =>
    unfold grantLoop
    split
    · rfl
    · dsimp only
      split <;> simp [ih]
@[simp] theorem grantLoop_sig (s : State) (n : Nat) : (grantLoop n s).sig = s.sig := by
  induction n generalizing s with
  | zero => rfl
  | succ n ih =>
    unfold grantLoop
    split
    · rfl
    · dsimp only
      split <;> simp [ih]
@[simp] theorem grantLoop_findings (s : State) (n : Nat) : (grantLoop n s).findings = s.findings := by
  induction n generalizing s with
  | zero => rfl
  | succ n ih =>
    unfold grantLoop
    split
    · rfl
    · dsimp only
      split <;> simp [ih]
@[simp] theorem grantLoop_pending (s : State) (n : Nat) : (grantLoop n s).pending = s.pending := by
  induction n generalizing s with
  | zero => rfl
  | succ n ih =>
    unfold grantLoop
    split
    · rfl
    · dsimp only
      split <;> simp [ih]

/-! ### arbitrate -/

@[simp] theorem arbitrate_lineTime (s : State) : (arbitrate s).lineTime = s.lineTime := by
  unfold arbitrate
  try dsimp only
  repeat' split
  all_goals simp
@[simp] theorem arbitrate_params (s : State) : (arbitrate s).params = s.params := by
  unfold arbitrate
  try dsimp only
  repeat' split
  all_goals simp
@[simp] theorem arbitrate_lineMap (s : State) : (arbitrate s).lineMap = s.lineMap := by
  unfold arbitrate
  try dsimp only
  repeat' split
  all_goals simp
@[simp] theorem arbitrate_sig (s : State) : (arbitrate s).sig = s.sig := by
  unfold arbitrate
  try dsimp only
  repeat' split
  all_goals simp
@[simp] theorem arbitrate_findings (s : State) : (arbitrate s).findings = s.findings := by
  unfold arbitrate
  try dsimp only
  repeat' split
  all_goals simp
@[simp] theorem arbitrate_pending (s : State) : (arbitrate s).pending = s.pending := by
  unfold arbitrate
  try dsimp only
  repeat' split
  all_goals simp

/-! ### cutJob -/

@[simp] theorem cutJob_lineTime (s : State) (j : Job) : (cutJob j s).lineTime = s.lineTime := by
  unfold cutJob
  try dsimp only
  repeat' split
  all_goals simp
@[simp] theorem cutJob_params (s : State) (j : Job) : (cutJob j s).params = s.params := by
  unfold cutJob
  try dsimp only
  repeat' split
  all_goals simp
@[simp] theorem cutJob_lineMap (s : State) (j : Job) : (cutJob j s).lineMap = s.lineMap := by
  unfold cutJob
  try dsimp only
  repeat' split
  all_goals simp
@[simp] theorem cutJob_seq (s : State) (j : Job) : (cutJob j s).seq = s.seq := by
  unfold cutJob
  try dsimp only
  repeat' split
  all_goals simp
@[simp] theorem cutJob_intake (s : State) (j : Job) : (cutJob j s).intake = s.intake := by
  unfold cutJob
  try dsimp only
  repeat' split
  all_goals simp
@[simp] theorem cutJob_sig (s : State) (j : Job) : (cutJob j s).sig = s.sig := by
  unfold cutJob
  try dsimp only
  repeat' split
  all_goals simp
@[simp] theorem cutJob_findings (s : State) (j : Job) : (cutJob j s).findings = s.findings := by
  unfold cutJob
  try dsimp only
  repeat' split
  all_goals simp
@[simp] theorem cutJob_channel (s : State) (j : Job) : (cutJob j s).channel = s.channel := by
  unfold cutJob
  try dsimp only
  repeat' split
  all_goals simp
@[simp] theorem cutJob_synth (s : State) (j : Job) : (cutJob j s).synth = s.synth := by
  unfold cutJob
  try dsimp only
  repeat' split
  all_goals simp
@[simp] theorem cutJob_pending (s : State) (j : Job) : (cutJob j s).pending = s.pending := by
  unfold cutJob
  try dsimp only
  repeat' split
  all_goals simp

/-! ### becameEligible -/

@[simp] theorem becameEligible_lineTime (s : State) (u : Bool) : (becameEligible u s).lineTime = s.lineTime := by
  unfold becameEligible
  try dsimp only
  repeat' split
  all_goals simp
@[simp] theorem becameEligible_params (s : State) (u : Bool) : (becameEligible u s).params = s.params := by
  unfold becameEligible
  try dsimp only
  repeat' split
  all_goals simp
@[simp] theorem becameEligible_lineMap (s : State) (u : Bool) : (becameEligible u s).lineMap = s.lineMap := by
  unfold becameEligible
  try dsimp only
  repeat' split
  all_goals simp
@[simp] theorem becameEligible_sig (s : State) (u : Bool) : (becameEligible u s).sig = s.sig := by
  unfold becameEligible
  try dsimp only
  repeat' split
  all_goals simp
@[simp] theorem becameEligible_findings (s : State) (u : Bool) : (becameEligible u s).findings = s.findings := by
  unfold becameEligible
  try dsimp only
  repeat' split
  all_goals simp
@[simp] theorem becameEligible_pending (s : State) (u : Bool) : (becameEligible u s).pending = s.pending := by
  unfold becameEligible
  try dsimp only
  repeat' split
  all_goals simp

/-! ### acceptJob -/

@[simp] theorem acceptJob_lineTime (s : State) (j : Job) : (acceptJob j s).lineTime = s.lineTime := by
  unfold acceptJob
  try dsimp only
  repeat' split
  all_goals simp
@[simp] theorem acceptJob_params (s : State) (j : Job) : (acceptJob j s).params = s.params := by
  unfold acceptJob
  try dsimp only
  repeat' split
  all_goals simp
@[simp] theorem acceptJob_lineMap (s : State) (j : Job) : (acceptJob j s).lineMap = s.lineMap := by
  unfold acceptJob
  try dsimp only
  repeat' split
  all_goals simp
@[simp] theorem acceptJob_sig (s : State) (j : Job) : (acceptJob j s).sig = s.sig := by
  unfold acceptJob
  try dsimp only
  repeat' split
  all_goals simp
@[simp] theorem acceptJob_findings (s : State) (j : Job) : (acceptJob j s).findings = s.findings := by
  unfold acceptJob
  try dsimp only
  repeat' split
  all_goals simp
@[simp] theorem acceptJob_pending (s : State) (j : Job) : (acceptJob j s).pending = s.pending := by
  unfold acceptJob
  try dsimp only
  repeat' split
  all_goals simp

/-! ### takeFault -/

@[simp] theorem takeFault_lineTime (s : State) : (takeFault s).lineTime = s.lineTime := by
  unfold takeFault
  try dsimp only
  repeat' split
  all_goals simp
@[simp] theorem takeFault_params (s : State) : (takeFault s).params = s.params := by
  unfold takeFault
  try dsimp only
  repeat' split
  all_goals simp
@[simp] theorem takeFault_lineMap (s : State) : (takeFault s).lineMap = s.lineMap := by
  unfold takeFault
  try dsimp only
  repeat' split
  all_goals simp
@[simp] theorem takeFault_intake (s : State) : (takeFault s).intake = s.intake := by
  unfold takeFault
  try dsimp only
  repeat' split
  all_goals simp
@[simp] theorem takeFault_corr (s : State) : (takeFault s).corr = s.corr := by
  unfold takeFault
  try dsimp only
  repeat' split
  all_goals simp
@[simp] theorem takeFault_sig (s : State) : (takeFault s).sig = s.sig := by
  unfold takeFault
  try dsimp only
  repeat' split
  all_goals simp
@[simp] theorem takeFault_findings (s : State) : (takeFault s).findings = s.findings := by
  unfold takeFault
  try dsimp only
  repeat' split
  all_goals simp
@[simp] theorem takeFault_channel (s : State) : (takeFault s).channel = s.channel := by
  unfold takeFault
  try dsimp only
  repeat' split
  all_goals simp
@[simp] theorem takeFault_synth (s : State) : (takeFault s).synth = s.synth := by
  unfold takeFault
  try dsimp only
  repeat' split
  all_goals simp
@[simp] theorem takeFault_pending (s : State) : (takeFault s).pending = s.pending := by
  unfold takeFault
  try dsimp only
  repeat' split
  all_goals simp

/-! ### faultJob -/

@[simp] theorem faultJob_lineTime (s : State) (j : Job) : (faultJob j s).lineTime = s.lineTime := by
  unfold faultJob
  try dsimp only
  repeat' split
  all_goals simp
@[simp] theorem faultJob_params (s : State) (j : Job) : (faultJob j s).params = s.params := by
  unfold faultJob
  try dsimp only
  repeat' split
  all_goals simp
@[simp] theorem faultJob_lineMap (s : State) (j : Job) : (faultJob j s).lineMap = s.lineMap := by
  unfold faultJob
  try dsimp only
  repeat' split
  all_goals simp
@[simp] theorem faultJob_seq (s : State) (j : Job) : (faultJob j s).seq = s.seq := by
  unfold faultJob
  try dsimp only
  repeat' split
  all_goals simp
@[simp] theorem faultJob_intake (s : State) (j : Job) : (faultJob j s).intake = s.intake := by
  unfold faultJob
  try dsimp only
  repeat' split
  all_goals simp
@[simp] theorem faultJob_corr (s : State) (j : Job) : (faultJob j s).corr = s.corr := by
  unfold faultJob
  try dsimp only
  repeat' split
  all_goals simp
@[simp] theorem faultJob_sig (s : State) (j : Job) : (faultJob j s).sig = s.sig := by
  unfold faultJob
  try dsimp only
  repeat' split
  all_goals simp
@[simp] theorem faultJob_findings (s : State) (j : Job) : (faultJob j s).findings = s.findings := by
  unfold faultJob
  try dsimp only
  repeat' split
  all_goals simp
@[simp] theorem faultJob_channel (s : State) (j : Job) : (faultJob j s).channel = s.channel := by
  unfold faultJob
  try dsimp only
  repeat' split
  all_goals simp
@[simp] theorem faultJob_synth (s : State) (j : Job) : (faultJob j s).synth = s.synth := by
  unfold faultJob
  try dsimp only
  repeat' split
  all_goals simp
@[simp] theorem faultJob_pending (s : State) (j : Job) : (faultJob j s).pending = s.pending := by
  unfold faultJob
  try dsimp only
  repeat' split
  all_goals simp

/-! ### faultOnPair -/

@[simp] theorem faultOnPair_lineTime (s : State) : (faultOnPair s).lineTime = s.lineTime := by
  unfold faultOnPair
  try dsimp only
  repeat' split
  all_goals simp
@[simp] theorem faultOnPair_params (s : State) : (faultOnPair s).params = s.params := by
  unfold faultOnPair
  try dsimp only
  repeat' split
  all_goals simp
@[simp] theorem faultOnPair_lineMap (s : State) : (faultOnPair s).lineMap = s.lineMap := by
  unfold faultOnPair
  try dsimp only
  repeat' split
  all_goals simp
@[simp] theorem faultOnPair_intake (s : State) : (faultOnPair s).intake = s.intake := by
  unfold faultOnPair
  try dsimp only
  repeat' split
  all_goals simp
@[simp] theorem faultOnPair_sig (s : State) : (faultOnPair s).sig = s.sig := by
  unfold faultOnPair
  try dsimp only
  repeat' split
  all_goals simp
@[simp] theorem faultOnPair_findings (s : State) : (faultOnPair s).findings = s.findings := by
  unfold faultOnPair
  try dsimp only
  repeat' split
  all_goals simp
@[simp] theorem faultOnPair_channel (s : State) : (faultOnPair s).channel = s.channel := by
  unfold faultOnPair
  try dsimp only
  repeat' split
  all_goals simp
@[simp] theorem faultOnPair_synth (s : State) : (faultOnPair s).synth = s.synth := by
  unfold faultOnPair
  try dsimp only
  repeat' split
  all_goals simp
@[simp] theorem faultOnPair_pending (s : State) : (faultOnPair s).pending = s.pending := by
  unfold faultOnPair
  try dsimp only
  repeat' split
  all_goals simp

/-! ### deliver -/

@[simp] theorem deliver_lineTime (s : State) (n : Nat) (f : ResultList → ResultList) : (deliver n f s).lineTime = s.lineTime := by
  unfold deliver
  try dsimp only
  repeat' split
  all_goals simp
@[simp] theorem deliver_params (s : State) (n : Nat) (f : ResultList → ResultList) : (deliver n f s).params = s.params := by
  unfold deliver
  try dsimp only
  repeat' split
  all_goals simp
@[simp] theorem deliver_lineMap (s : State) (n : Nat) (f : ResultList → ResultList) : (deliver n f s).lineMap = s.lineMap := by
  unfold deliver
  try dsimp only
  repeat' split
  all_goals simp
@[simp] theorem deliver_seq (s : State) (n : Nat) (f : ResultList → ResultList) : (deliver n f s).seq = s.seq := by
  unfold deliver
  try dsimp only
  repeat' split
  all_goals simp
@[simp] theorem deliver_intake (s : State) (n : Nat) (f : ResultList → ResultList) : (deliver n f s).intake = s.intake := by
  unfold deliver
  try dsimp only
  repeat' split
  all_goals simp
@[simp] theorem deliver_corr (s : State) (n : Nat) (f : ResultList → ResultList) : (deliver n f s).corr = s.corr := by
  unfold deliver
  try dsimp only
  repeat' split
  all_goals simp
@[simp] theorem deliver_sig (s : State) (n : Nat) (f : ResultList → ResultList) : (deliver n f s).sig = s.sig := by
  unfold deliver
  try dsimp only
  repeat' split
  all_goals simp
@[simp] theorem deliver_findings (s : State) (n : Nat) (f : ResultList → ResultList) : (deliver n f s).findings = s.findings := by
  unfold deliver
  try dsimp only
  repeat' split
  all_goals simp
@[simp] theorem deliver_channel (s : State) (n : Nat) (f : ResultList → ResultList) : (deliver n f s).channel = s.channel := by
  unfold deliver
  try dsimp only
  repeat' split
  all_goals simp
@[simp] theorem deliver_ports (s : State) (n : Nat) (f : ResultList → ResultList) : (deliver n f s).ports = s.ports := by
  unfold deliver
  try dsimp only
  repeat' split
  all_goals simp
@[simp] theorem deliver_synth (s : State) (n : Nat) (f : ResultList → ResultList) : (deliver n f s).synth = s.synth := by
  unfold deliver
  try dsimp only
  repeat' split
  all_goals simp
@[simp] theorem deliver_pending (s : State) (n : Nat) (f : ResultList → ResultList) : (deliver n f s).pending = s.pending := by
  unfold deliver
  try dsimp only
  repeat' split
  all_goals simp

/-! ### advanceJob -/

@[simp] theorem advanceJob_lineTime (s : State) (r : PassRecord) : (advanceJob r s).lineTime = s.lineTime := rfl
@[simp] theorem advanceJob_params (s : State) (r : PassRecord) : (advanceJob r s).params = s.params := rfl
@[simp] theorem advanceJob_lineMap (s : State) (r : PassRecord) : (advanceJob r s).lineMap = s.lineMap := rfl
@[simp] theorem advanceJob_seq (s : State) (r : PassRecord) : (advanceJob r s).seq = s.seq := rfl
@[simp] theorem advanceJob_intake (s : State) (r : PassRecord) : (advanceJob r s).intake = s.intake := rfl
@[simp] theorem advanceJob_corr (s : State) (r : PassRecord) : (advanceJob r s).corr = s.corr := rfl
@[simp] theorem advanceJob_sig (s : State) (r : PassRecord) : (advanceJob r s).sig = s.sig := rfl
@[simp] theorem advanceJob_findings (s : State) (r : PassRecord) : (advanceJob r s).findings = s.findings := rfl
@[simp] theorem advanceJob_channel (s : State) (r : PassRecord) : (advanceJob r s).channel = s.channel := rfl
@[simp] theorem advanceJob_ports (s : State) (r : PassRecord) : (advanceJob r s).ports = s.ports := rfl
@[simp] theorem advanceJob_synth (s : State) (r : PassRecord) : (advanceJob r s).synth = s.synth := rfl
@[simp] theorem advanceJob_pending (s : State) (r : PassRecord) : (advanceJob r s).pending = s.pending := rfl

/-! ### noticeOverdrive -/

@[simp] theorem noticeOverdrive_lineTime (s : State) (r : PassRecord) : (noticeOverdrive r s).lineTime = s.lineTime := by
  unfold noticeOverdrive
  try dsimp only
  repeat' split
  all_goals simp
@[simp] theorem noticeOverdrive_params (s : State) (r : PassRecord) : (noticeOverdrive r s).params = s.params := by
  unfold noticeOverdrive
  try dsimp only
  repeat' split
  all_goals simp
@[simp] theorem noticeOverdrive_lineMap (s : State) (r : PassRecord) : (noticeOverdrive r s).lineMap = s.lineMap := by
  unfold noticeOverdrive
  try dsimp only
  repeat' split
  all_goals simp
@[simp] theorem noticeOverdrive_seq (s : State) (r : PassRecord) : (noticeOverdrive r s).seq = s.seq := by
  unfold noticeOverdrive
  try dsimp only
  repeat' split
  all_goals simp
@[simp] theorem noticeOverdrive_intake (s : State) (r : PassRecord) : (noticeOverdrive r s).intake = s.intake := by
  unfold noticeOverdrive
  try dsimp only
  repeat' split
  all_goals simp
@[simp] theorem noticeOverdrive_corr (s : State) (r : PassRecord) : (noticeOverdrive r s).corr = s.corr := by
  unfold noticeOverdrive
  try dsimp only
  repeat' split
  all_goals simp
@[simp] theorem noticeOverdrive_sig (s : State) (r : PassRecord) : (noticeOverdrive r s).sig = s.sig := by
  unfold noticeOverdrive
  try dsimp only
  repeat' split
  all_goals simp
@[simp] theorem noticeOverdrive_findings (s : State) (r : PassRecord) : (noticeOverdrive r s).findings = s.findings := by
  unfold noticeOverdrive
  try dsimp only
  repeat' split
  all_goals simp
@[simp] theorem noticeOverdrive_sched (s : State) (r : PassRecord) : (noticeOverdrive r s).sched = s.sched := by
  unfold noticeOverdrive
  try dsimp only
  repeat' split
  all_goals simp
@[simp] theorem noticeOverdrive_channel (s : State) (r : PassRecord) : (noticeOverdrive r s).channel = s.channel := by
  unfold noticeOverdrive
  try dsimp only
  repeat' split
  all_goals simp
@[simp] theorem noticeOverdrive_synth (s : State) (r : PassRecord) : (noticeOverdrive r s).synth = s.synth := by
  unfold noticeOverdrive
  try dsimp only
  repeat' split
  all_goals simp
@[simp] theorem noticeOverdrive_pending (s : State) (r : PassRecord) : (noticeOverdrive r s).pending = s.pending := by
  unfold noticeOverdrive
  try dsimp only
  repeat' split
  all_goals simp

/-! ### countPass -/

@[simp] theorem countPass_lineTime (s : State) (r : PassRecord) : (countPass r s).lineTime = s.lineTime := by
  unfold countPass
  try dsimp only
  repeat' split
  all_goals simp
@[simp] theorem countPass_params (s : State) (r : PassRecord) : (countPass r s).params = s.params := by
  unfold countPass
  try dsimp only
  repeat' split
  all_goals simp
@[simp] theorem countPass_lineMap (s : State) (r : PassRecord) : (countPass r s).lineMap = s.lineMap := by
  unfold countPass
  try dsimp only
  repeat' split
  all_goals simp
@[simp] theorem countPass_seq (s : State) (r : PassRecord) : (countPass r s).seq = s.seq := by
  unfold countPass
  try dsimp only
  repeat' split
  all_goals simp
@[simp] theorem countPass_intake (s : State) (r : PassRecord) : (countPass r s).intake = s.intake := by
  unfold countPass
  try dsimp only
  repeat' split
  all_goals simp
@[simp] theorem countPass_corr (s : State) (r : PassRecord) : (countPass r s).corr = s.corr := by
  unfold countPass
  try dsimp only
  repeat' split
  all_goals simp
@[simp] theorem countPass_sig (s : State) (r : PassRecord) : (countPass r s).sig = s.sig := by
  unfold countPass
  try dsimp only
  repeat' split
  all_goals simp
@[simp] theorem countPass_findings (s : State) (r : PassRecord) : (countPass r s).findings = s.findings := by
  unfold countPass
  try dsimp only
  repeat' split
  all_goals simp
@[simp] theorem countPass_channel (s : State) (r : PassRecord) : (countPass r s).channel = s.channel := by
  unfold countPass
  try dsimp only
  repeat' split
  all_goals simp
@[simp] theorem countPass_synth (s : State) (r : PassRecord) : (countPass r s).synth = s.synth := by
  unfold countPass
  try dsimp only
  repeat' split
  all_goals simp
@[simp] theorem countPass_pending (s : State) (r : PassRecord) : (countPass r s).pending = s.pending := by
  unfold countPass
  try dsimp only
  repeat' split
  all_goals simp

/-! ### refreshCount -/

@[simp] theorem refreshCount_lineTime (s : State) (d : Nat) : (refreshCount d s).lineTime = s.lineTime := by
  unfold refreshCount
  try dsimp only
  repeat' split
  all_goals simp
@[simp] theorem refreshCount_params (s : State) (d : Nat) : (refreshCount d s).params = s.params := by
  unfold refreshCount
  try dsimp only
  repeat' split
  all_goals simp
@[simp] theorem refreshCount_lineMap (s : State) (d : Nat) : (refreshCount d s).lineMap = s.lineMap := by
  unfold refreshCount
  try dsimp only
  repeat' split
  all_goals simp
@[simp] theorem refreshCount_seq (s : State) (d : Nat) : (refreshCount d s).seq = s.seq := by
  unfold refreshCount
  try dsimp only
  repeat' split
  all_goals simp
@[simp] theorem refreshCount_corr (s : State) (d : Nat) : (refreshCount d s).corr = s.corr := by
  unfold refreshCount
  try dsimp only
  repeat' split
  all_goals simp
@[simp] theorem refreshCount_sig (s : State) (d : Nat) : (refreshCount d s).sig = s.sig := by
  unfold refreshCount
  try dsimp only
  repeat' split
  all_goals simp
@[simp] theorem refreshCount_findings (s : State) (d : Nat) : (refreshCount d s).findings = s.findings := by
  unfold refreshCount
  try dsimp only
  repeat' split
  all_goals simp
@[simp] theorem refreshCount_channel (s : State) (d : Nat) : (refreshCount d s).channel = s.channel := by
  unfold refreshCount
  try dsimp only
  repeat' split
  all_goals simp
@[simp] theorem refreshCount_ports (s : State) (d : Nat) : (refreshCount d s).ports = s.ports := by
  unfold refreshCount
  try dsimp only
  repeat' split
  all_goals simp
@[simp] theorem refreshCount_synth (s : State) (d : Nat) : (refreshCount d s).synth = s.synth := by
  unfold refreshCount
  try dsimp only
  repeat' split
  all_goals simp
@[simp] theorem refreshCount_pending (s : State) (d : Nat) : (refreshCount d s).pending = s.pending := by
  unfold refreshCount
  try dsimp only
  repeat' split
  all_goals simp

/-! ### stepFive -/

@[simp] theorem stepFive_lineTime (s : State) (r : PassRecord) : (stepFive r s).lineTime = s.lineTime := by
  unfold stepFive
  try dsimp only
  repeat' split
  all_goals simp
@[simp] theorem stepFive_params (s : State) (r : PassRecord) : (stepFive r s).params = s.params := by
  unfold stepFive
  try dsimp only
  repeat' split
  all_goals simp
@[simp] theorem stepFive_lineMap (s : State) (r : PassRecord) : (stepFive r s).lineMap = s.lineMap := by
  unfold stepFive
  try dsimp only
  repeat' split
  all_goals simp
@[simp] theorem stepFive_seq (s : State) (r : PassRecord) : (stepFive r s).seq = s.seq := by
  unfold stepFive
  try dsimp only
  repeat' split
  all_goals simp
@[simp] theorem stepFive_corr (s : State) (r : PassRecord) : (stepFive r s).corr = s.corr := by
  unfold stepFive
  try dsimp only
  repeat' split
  all_goals simp
@[simp] theorem stepFive_sig (s : State) (r : PassRecord) : (stepFive r s).sig = s.sig := by
  unfold stepFive
  try dsimp only
  repeat' split
  all_goals simp
@[simp] theorem stepFive_findings (s : State) (r : PassRecord) : (stepFive r s).findings = s.findings := by
  unfold stepFive
  try dsimp only
  repeat' split
  all_goals simp
@[simp] theorem stepFive_channel (s : State) (r : PassRecord) : (stepFive r s).channel = s.channel := by
  unfold stepFive
  try dsimp only
  repeat' split
  all_goals simp
@[simp] theorem stepFive_synth (s : State) (r : PassRecord) : (stepFive r s).synth = s.synth := by
  unfold stepFive
  try dsimp only
  repeat' split
  all_goals simp
@[simp] theorem stepFive_pending (s : State) (r : PassRecord) : (stepFive r s).pending = s.pending := by
  unfold stepFive
  try dsimp only
  repeat' split
  all_goals simp

/-! ### raiseNew -/

@[simp] theorem raiseNew_lineTime (s : State) (par : Params) (p : PairNo) : (raiseNew par p s).lineTime = s.lineTime := by
  unfold raiseNew
  try dsimp only
  repeat' split
  all_goals simp
@[simp] theorem raiseNew_params (s : State) (par : Params) (p : PairNo) : (raiseNew par p s).params = s.params := by
  unfold raiseNew
  try dsimp only
  repeat' split
  all_goals simp
@[simp] theorem raiseNew_lineMap (s : State) (par : Params) (p : PairNo) : (raiseNew par p s).lineMap = s.lineMap := by
  unfold raiseNew
  try dsimp only
  repeat' split
  all_goals simp
@[simp] theorem raiseNew_seq (s : State) (par : Params) (p : PairNo) : (raiseNew par p s).seq = s.seq := by
  unfold raiseNew
  try dsimp only
  repeat' split
  all_goals simp
@[simp] theorem raiseNew_intake (s : State) (par : Params) (p : PairNo) : (raiseNew par p s).intake = s.intake := by
  unfold raiseNew
  try dsimp only
  repeat' split
  all_goals simp
@[simp] theorem raiseNew_corr (s : State) (par : Params) (p : PairNo) : (raiseNew par p s).corr = s.corr := by
  unfold raiseNew
  try dsimp only
  repeat' split
  all_goals simp
@[simp] theorem raiseNew_sig (s : State) (par : Params) (p : PairNo) : (raiseNew par p s).sig = s.sig := by
  unfold raiseNew
  try dsimp only
  repeat' split
  all_goals simp
@[simp] theorem raiseNew_findings (s : State) (par : Params) (p : PairNo) : (raiseNew par p s).findings = s.findings := by
  unfold raiseNew
  try dsimp only
  repeat' split
  all_goals simp
@[simp] theorem raiseNew_sched (s : State) (par : Params) (p : PairNo) : (raiseNew par p s).sched = s.sched := by
  unfold raiseNew
  try dsimp only
  repeat' split
  all_goals simp
@[simp] theorem raiseNew_channel (s : State) (par : Params) (p : PairNo) : (raiseNew par p s).channel = s.channel := by
  unfold raiseNew
  try dsimp only
  repeat' split
  all_goals simp
@[simp] theorem raiseNew_synth (s : State) (par : Params) (p : PairNo) : (raiseNew par p s).synth = s.synth := by
  unfold raiseNew
  try dsimp only
  repeat' split
  all_goals simp
@[simp] theorem raiseNew_pending (s : State) (par : Params) (p : PairNo) : (raiseNew par p s).pending = s.pending := by
  unfold raiseNew
  try dsimp only
  repeat' split
  all_goals simp

/-! ### raiseAll -/

@[simp] theorem raiseAll_lineTime (s : State) (k : Notice) (ps : List Port) : (raiseAll k ps s).lineTime = s.lineTime := by
  unfold raiseAll
  induction ps generalizing s with
  | nil => rfl
  | cons p ps ih => simp [ih]
@[simp] theorem raiseAll_params (s : State) (k : Notice) (ps : List Port) : (raiseAll k ps s).params = s.params := by
  unfold raiseAll
  induction ps generalizing s with
  | nil => rfl
  | cons p ps ih => simp [ih]
@[simp] theorem raiseAll_lineMap (s : State) (k : Notice) (ps : List Port) : (raiseAll k ps s).lineMap = s.lineMap := by
  unfold raiseAll
  induction ps generalizing s with
  | nil => rfl
  | cons p ps ih => simp [ih]
@[simp] theorem raiseAll_seq (s : State) (k : Notice) (ps : List Port) : (raiseAll k ps s).seq = s.seq := by
  unfold raiseAll
  induction ps generalizing s with
  | nil => rfl
  | cons p ps ih => simp [ih]
@[simp] theorem raiseAll_intake (s : State) (k : Notice) (ps : List Port) : (raiseAll k ps s).intake = s.intake := by
  unfold raiseAll
  induction ps generalizing s with
  | nil => rfl
  | cons p ps ih => simp [ih]
@[simp] theorem raiseAll_corr (s : State) (k : Notice) (ps : List Port) : (raiseAll k ps s).corr = s.corr := by
  unfold raiseAll
  induction ps generalizing s with
  | nil => rfl
  | cons p ps ih => simp [ih]
@[simp] theorem raiseAll_sig (s : State) (k : Notice) (ps : List Port) : (raiseAll k ps s).sig = s.sig := by
  unfold raiseAll
  induction ps generalizing s with
  | nil => rfl
  | cons p ps ih => simp [ih]
@[simp] theorem raiseAll_findings (s : State) (k : Notice) (ps : List Port) : (raiseAll k ps s).findings = s.findings := by
  unfold raiseAll
  induction ps generalizing s with
  | nil => rfl
  | cons p ps ih => simp [ih]
@[simp] theorem raiseAll_sched (s : State) (k : Notice) (ps : List Port) : (raiseAll k ps s).sched = s.sched := by
  unfold raiseAll
  induction ps generalizing s with
  | nil => rfl
  | cons p ps ih => simp [ih]
@[simp] theorem raiseAll_channel (s : State) (k : Notice) (ps : List Port) : (raiseAll k ps s).channel = s.channel := by
  unfold raiseAll
  induction ps generalizing s with
  | nil => rfl
  | cons p ps ih => simp [ih]
@[simp] theorem raiseAll_synth (s : State) (k : Notice) (ps : List Port) : (raiseAll k ps s).synth = s.synth := by
  unfold raiseAll
  induction ps generalizing s with
  | nil => rfl
  | cons p ps ih => simp [ih]
@[simp] theorem raiseAll_pending (s : State) (k : Notice) (ps : List Port) : (raiseAll k ps s).pending = s.pending := by
  unfold raiseAll
  induction ps generalizing s with
  | nil => rfl
  | cons p ps ih => simp [ih]

/-! ### applyDetection -/

@[simp] theorem applyDetection_lineTime (s : State) (par : Params) (p : PairNo) (t : Nat) (d : Detection) : (applyDetection par p t d s).1.lineTime = s.lineTime := by
  unfold applyDetection
  try dsimp only
  repeat' split
  all_goals simp
@[simp] theorem applyDetection_params (s : State) (par : Params) (p : PairNo) (t : Nat) (d : Detection) : (applyDetection par p t d s).1.params = s.params := by
  unfold applyDetection
  try dsimp only
  repeat' split
  all_goals simp
@[simp] theorem applyDetection_lineMap (s : State) (par : Params) (p : PairNo) (t : Nat) (d : Detection) : (applyDetection par p t d s).1.lineMap = s.lineMap := by
  unfold applyDetection
  try dsimp only
  repeat' split
  all_goals simp
@[simp] theorem applyDetection_seq (s : State) (par : Params) (p : PairNo) (t : Nat) (d : Detection) : (applyDetection par p t d s).1.seq = s.seq := by
  unfold applyDetection
  try dsimp only
  repeat' split
  all_goals simp
@[simp] theorem applyDetection_intake (s : State) (par : Params) (p : PairNo) (t : Nat) (d : Detection) : (applyDetection par p t d s).1.intake = s.intake := by
  unfold applyDetection
  try dsimp only
  repeat' split
  all_goals simp
@[simp] theorem applyDetection_corr (s : State) (par : Params) (p : PairNo) (t : Nat) (d : Detection) : (applyDetection par p t d s).1.corr = s.corr := by
  unfold applyDetection
  try dsimp only
  repeat' split
  all_goals simp
@[simp] theorem applyDetection_sig (s : State) (par : Params) (p : PairNo) (t : Nat) (d : Detection) : (applyDetection par p t d s).1.sig = s.sig := by
  unfold applyDetection
  try dsimp only
  repeat' split
  all_goals simp
@[simp] theorem applyDetection_sched (s : State) (par : Params) (p : PairNo) (t : Nat) (d : Detection) : (applyDetection par p t d s).1.sched = s.sched := by
  unfold applyDetection
  try dsimp only
  repeat' split
  all_goals simp
@[simp] theorem applyDetection_channel (s : State) (par : Params) (p : PairNo) (t : Nat) (d : Detection) : (applyDetection par p t d s).1.channel = s.channel := by
  unfold applyDetection
  try dsimp only
  repeat' split
  all_goals simp
@[simp] theorem applyDetection_synth (s : State) (par : Params) (p : PairNo) (t : Nat) (d : Detection) : (applyDetection par p t d s).1.synth = s.synth := by
  unfold applyDetection
  try dsimp only
  repeat' split
  all_goals simp
@[simp] theorem applyDetection_pending (s : State) (par : Params) (p : PairNo) (t : Nat) (d : Detection) : (applyDetection par p t d s).1.pending = s.pending := by
  unfold applyDetection
  try dsimp only
  repeat' split
  all_goals simp

/-! ### applyDetections -/

@[simp] theorem applyDetections_lineTime (s : State) (par : Params) (p : PairNo) (t : Nat) (l : List Detection) : (applyDetections par p t l s).1.lineTime = s.lineTime := by
  induction l generalizing s with
  | nil => rfl
  | cons d l ih => simp [applyDetections, ih]
@[simp] theorem applyDetections_params (s : State) (par : Params) (p : PairNo) (t : Nat) (l : List Detection) : (applyDetections par p t l s).1.params = s.params := by
  induction l generalizing s with
  | nil => rfl
  | cons d l ih => simp [applyDetections, ih]
@[simp] theorem applyDetections_lineMap (s : State) (par : Params) (p : PairNo) (t : Nat) (l : List Detection) : (applyDetections par p t l s).1.lineMap = s.lineMap := by
  induction l generalizing s with
  | nil => rfl
  | cons d l ih => simp [applyDetections, ih]
@[simp] theorem applyDetections_seq (s : State) (par : Params) (p : PairNo) (t : Nat) (l : List Detection) : (applyDetections par p t l s).1.seq = s.seq := by
  induction l generalizing s with
  | nil => rfl
  | cons d l ih => simp [applyDetections, ih]
@[simp] theorem applyDetections_intake (s : State) (par : Params) (p : PairNo) (t : Nat) (l : List Detection) : (applyDetections par p t l s).1.intake = s.intake := by
  induction l generalizing s with
  | nil => rfl
  | cons d l ih => simp [applyDetections, ih]
@[simp] theorem applyDetections_corr (s : State) (par : Params) (p : PairNo) (t : Nat) (l : List Detection) : (applyDetections par p t l s).1.corr = s.corr := by
  induction l generalizing s with
  | nil => rfl
  | cons d l ih => simp [applyDetections, ih]
@[simp] theorem applyDetections_sig (s : State) (par : Params) (p : PairNo) (t : Nat) (l : List Detection) : (applyDetections par p t l s).1.sig = s.sig := by
  induction l generalizing s with
  | nil => rfl
  | cons d l ih => simp [applyDetections, ih]
@[simp] theorem applyDetections_sched (s : State) (par : Params) (p : PairNo) (t : Nat) (l : List Detection) : (applyDetections par p t l s).1.sched = s.sched := by
  induction l generalizing s with
  | nil => rfl
  | cons d l ih => simp [applyDetections, ih]
@[simp] theorem applyDetections_channel (s : State) (par : Params) (p : PairNo) (t : Nat) (l : List Detection) : (applyDetections par p t l s).1.channel = s.channel := by
  induction l generalizing s with
  | nil => rfl
  | cons d l ih => simp [applyDetections, ih]
@[simp] theorem applyDetections_synth (s : State) (par : Params) (p : PairNo) (t : Nat) (l : List Detection) : (applyDetections par p t l s).1.synth = s.synth := by
  induction l generalizing s with
  | nil => rfl
  | cons d l ih => simp [applyDetections, ih]
@[simp] theorem applyDetections_pending (s : State) (par : Params) (p : PairNo) (t : Nat) (l : List Detection) : (applyDetections par p t l s).1.pending = s.pending := by
  induction l generalizing s with
  | nil => rfl
  | cons d l ih => simp [applyDetections, ih]

/-! ### cleanObservations -/

@[simp] theorem cleanObservations_lineTime (s : State) (par : Params) (p : PairNo) (a b : Nat) (r : List EchoRecord) (l : List Detection) : (cleanObservations par p a b r l s).lineTime = s.lineTime := by
  unfold cleanObservations
  try dsimp only
  repeat' split
  all_goals simp
@[simp] theorem cleanObservations_params (s : State) (par : Params) (p : PairNo) (a b : Nat) (r : List EchoRecord) (l : List Detection) : (cleanObservations par p a b r l s).params = s.params := by
  unfold cleanObservations
  try dsimp only
  repeat' split
  all_goals simp
@[simp] theorem cleanObservations_lineMap (s : State) (par : Params) (p : PairNo) (a b : Nat) (r : List EchoRecord) (l : List Detection) : (cleanObservations par p a b r l s).lineMap = s.lineMap := by
  unfold cleanObservations
  try dsimp only
  repeat' split
  all_goals simp
@[simp] theorem cleanObservations_seq (s : State) (par : Params) (p : PairNo) (a b : Nat) (r : List EchoRecord) (l : List Detection) : (cleanObservations par p a b r l s).seq = s.seq := by
  unfold cleanObservations
  try dsimp only
  repeat' split
  all_goals simp
@[simp] theorem cleanObservations_intake (s : State) (par : Params) (p : PairNo) (a b : Nat) (r : List EchoRecord) (l : List Detection) : (cleanObservations par p a b r l s).intake = s.intake := by
  unfold cleanObservations
  try dsimp only
  repeat' split
  all_goals simp
@[simp] theorem cleanObservations_corr (s : State) (par : Params) (p : PairNo) (a b : Nat) (r : List EchoRecord) (l : List Detection) : (cleanObservations par p a b r l s).corr = s.corr := by
  unfold cleanObservations
  try dsimp only
  repeat' split
  all_goals simp
@[simp] theorem cleanObservations_sig (s : State) (par : Params) (p : PairNo) (a b : Nat) (r : List EchoRecord) (l : List Detection) : (cleanObservations par p a b r l s).sig = s.sig := by
  unfold cleanObservations
  try dsimp only
  repeat' split
  all_goals simp
@[simp] theorem cleanObservations_sched (s : State) (par : Params) (p : PairNo) (a b : Nat) (r : List EchoRecord) (l : List Detection) : (cleanObservations par p a b r l s).sched = s.sched := by
  unfold cleanObservations
  try dsimp only
  repeat' split
  all_goals simp
@[simp] theorem cleanObservations_channel (s : State) (par : Params) (p : PairNo) (a b : Nat) (r : List EchoRecord) (l : List Detection) : (cleanObservations par p a b r l s).channel = s.channel := by
  unfold cleanObservations
  try dsimp only
  repeat' split
  all_goals simp
@[simp] theorem cleanObservations_synth (s : State) (par : Params) (p : PairNo) (a b : Nat) (r : List EchoRecord) (l : List Detection) : (cleanObservations par p a b r l s).synth = s.synth := by
  unfold cleanObservations
  try dsimp only
  repeat' split
  all_goals simp
@[simp] theorem cleanObservations_pending (s : State) (par : Params) (p : PairNo) (a b : Nat) (r : List EchoRecord) (l : List Detection) : (cleanObservations par p a b r l s).pending = s.pending := by
  unfold cleanObservations
  try dsimp only
  repeat' split
  all_goals simp

/-! ### takeConfirm -/

@[simp] theorem takeConfirm_lineTime (s : State) (r : ConfirmRequest) : (takeConfirm r s).lineTime = s.lineTime := by
  unfold takeConfirm
  try dsimp only
  repeat' split
  all_goals simp
@[simp] theorem takeConfirm_params (s : State) (r : ConfirmRequest) : (takeConfirm r s).params = s.params := by
  unfold takeConfirm
  try dsimp only
  repeat' split
  all_goals simp
@[simp] theorem takeConfirm_lineMap (s : State) (r : ConfirmRequest) : (takeConfirm r s).lineMap = s.lineMap := by
  unfold takeConfirm
  try dsimp only
  repeat' split
  all_goals simp
@[simp] theorem takeConfirm_seq (s : State) (r : ConfirmRequest) : (takeConfirm r s).seq = s.seq := by
  unfold takeConfirm
  try dsimp only
  repeat' split
  all_goals simp
@[simp] theorem takeConfirm_intake (s : State) (r : ConfirmRequest) : (takeConfirm r s).intake = s.intake := by
  unfold takeConfirm
  try dsimp only
  repeat' split
  all_goals simp
@[simp] theorem takeConfirm_corr (s : State) (r : ConfirmRequest) : (takeConfirm r s).corr = s.corr := by
  unfold takeConfirm
  try dsimp only
  repeat' split
  all_goals simp
@[simp] theorem takeConfirm_sig (s : State) (r : ConfirmRequest) : (takeConfirm r s).sig = s.sig := by
  unfold takeConfirm
  try dsimp only
  repeat' split
  all_goals simp
@[simp] theorem takeConfirm_findings (s : State) (r : ConfirmRequest) : (takeConfirm r s).findings = s.findings := by
  unfold takeConfirm
  try dsimp only
  repeat' split
  all_goals simp
@[simp] theorem takeConfirm_channel (s : State) (r : ConfirmRequest) : (takeConfirm r s).channel = s.channel := by
  unfold takeConfirm
  try dsimp only
  repeat' split
  all_goals simp
@[simp] theorem takeConfirm_ports (s : State) (r : ConfirmRequest) : (takeConfirm r s).ports = s.ports := by
  unfold takeConfirm
  try dsimp only
  repeat' split
  all_goals simp
@[simp] theorem takeConfirm_synth (s : State) (r : ConfirmRequest) : (takeConfirm r s).synth = s.synth := by
  unfold takeConfirm
  try dsimp only
  repeat' split
  all_goals simp
@[simp] theorem takeConfirm_pending (s : State) (r : ConfirmRequest) : (takeConfirm r s).pending = s.pending := by
  unfold takeConfirm
  try dsimp only
  repeat' split
  all_goals simp

/-! ### locate -/

@[simp] theorem locate_lineTime (s : State) (rec : PassRecord) (p : PairNo) (t : Nat) (r : List EchoRecord) (l : List (Nat × Int)) : (locate rec p t r l s).1.lineTime = s.lineTime := by
  have h : ∀ (g : Nat → State → ConfirmRequest) (l : List Nat) (s : State),
      (l.foldl (fun s k => takeConfirm (g k s) s) s).lineTime = s.lineTime := by
    intro g l
    induction l with
    | nil => intro s; rfl
    | cons k l ih => intro s; simp [ih]
  simp [locate, h (fun k s => confirmRequest rec.params s p k)]
@[simp] theorem locate_params (s : State) (rec : PassRecord) (p : PairNo) (t : Nat) (r : List EchoRecord) (l : List (Nat × Int)) : (locate rec p t r l s).1.params = s.params := by
  have h : ∀ (g : Nat → State → ConfirmRequest) (l : List Nat) (s : State),
      (l.foldl (fun s k => takeConfirm (g k s) s) s).params = s.params := by
    intro g l
    induction l with
    | nil => intro s; rfl
    | cons k l ih => intro s; simp [ih]
  simp [locate, h (fun k s => confirmRequest rec.params s p k)]
@[simp] theorem locate_lineMap (s : State) (rec : PassRecord) (p : PairNo) (t : Nat) (r : List EchoRecord) (l : List (Nat × Int)) : (locate rec p t r l s).1.lineMap = s.lineMap := by
  have h : ∀ (g : Nat → State → ConfirmRequest) (l : List Nat) (s : State),
      (l.foldl (fun s k => takeConfirm (g k s) s) s).lineMap = s.lineMap := by
    intro g l
    induction l with
    | nil => intro s; rfl
    | cons k l ih => intro s; simp [ih]
  simp [locate, h (fun k s => confirmRequest rec.params s p k)]
@[simp] theorem locate_seq (s : State) (rec : PassRecord) (p : PairNo) (t : Nat) (r : List EchoRecord) (l : List (Nat × Int)) : (locate rec p t r l s).1.seq = s.seq := by
  have h : ∀ (g : Nat → State → ConfirmRequest) (l : List Nat) (s : State),
      (l.foldl (fun s k => takeConfirm (g k s) s) s).seq = s.seq := by
    intro g l
    induction l with
    | nil => intro s; rfl
    | cons k l ih => intro s; simp [ih]
  simp [locate, h (fun k s => confirmRequest rec.params s p k)]
@[simp] theorem locate_intake (s : State) (rec : PassRecord) (p : PairNo) (t : Nat) (r : List EchoRecord) (l : List (Nat × Int)) : (locate rec p t r l s).1.intake = s.intake := by
  have h : ∀ (g : Nat → State → ConfirmRequest) (l : List Nat) (s : State),
      (l.foldl (fun s k => takeConfirm (g k s) s) s).intake = s.intake := by
    intro g l
    induction l with
    | nil => intro s; rfl
    | cons k l ih => intro s; simp [ih]
  simp [locate, h (fun k s => confirmRequest rec.params s p k)]
@[simp] theorem locate_corr (s : State) (rec : PassRecord) (p : PairNo) (t : Nat) (r : List EchoRecord) (l : List (Nat × Int)) : (locate rec p t r l s).1.corr = s.corr := by
  have h : ∀ (g : Nat → State → ConfirmRequest) (l : List Nat) (s : State),
      (l.foldl (fun s k => takeConfirm (g k s) s) s).corr = s.corr := by
    intro g l
    induction l with
    | nil => intro s; rfl
    | cons k l ih => intro s; simp [ih]
  simp [locate, h (fun k s => confirmRequest rec.params s p k)]
@[simp] theorem locate_sig (s : State) (rec : PassRecord) (p : PairNo) (t : Nat) (r : List EchoRecord) (l : List (Nat × Int)) : (locate rec p t r l s).1.sig = s.sig := by
  have h : ∀ (g : Nat → State → ConfirmRequest) (l : List Nat) (s : State),
      (l.foldl (fun s k => takeConfirm (g k s) s) s).sig = s.sig := by
    intro g l
    induction l with
    | nil => intro s; rfl
    | cons k l ih => intro s; simp [ih]
  simp [locate, h (fun k s => confirmRequest rec.params s p k)]
@[simp] theorem locate_channel (s : State) (rec : PassRecord) (p : PairNo) (t : Nat) (r : List EchoRecord) (l : List (Nat × Int)) : (locate rec p t r l s).1.channel = s.channel := by
  have h : ∀ (g : Nat → State → ConfirmRequest) (l : List Nat) (s : State),
      (l.foldl (fun s k => takeConfirm (g k s) s) s).channel = s.channel := by
    intro g l
    induction l with
    | nil => intro s; rfl
    | cons k l ih => intro s; simp [ih]
  simp [locate, h (fun k s => confirmRequest rec.params s p k)]
@[simp] theorem locate_synth (s : State) (rec : PassRecord) (p : PairNo) (t : Nat) (r : List EchoRecord) (l : List (Nat × Int)) : (locate rec p t r l s).1.synth = s.synth := by
  have h : ∀ (g : Nat → State → ConfirmRequest) (l : List Nat) (s : State),
      (l.foldl (fun s k => takeConfirm (g k s) s) s).synth = s.synth := by
    intro g l
    induction l with
    | nil => intro s; rfl
    | cons k l ih => intro s; simp [ih]
  simp [locate, h (fun k s => confirmRequest rec.params s p k)]
@[simp] theorem locate_pending (s : State) (rec : PassRecord) (p : PairNo) (t : Nat) (r : List EchoRecord) (l : List (Nat × Int)) : (locate rec p t r l s).1.pending = s.pending := by
  have h : ∀ (g : Nat → State → ConfirmRequest) (l : List Nat) (s : State),
      (l.foldl (fun s k => takeConfirm (g k s) s) s).pending = s.pending := by
    intro g l
    induction l with
    | nil => intro s; rfl
    | cons k l ih => intro s; simp [ih]
  simp [locate, h (fun k s => confirmRequest rec.params s p k)]

/-! ### sigPass -/

@[simp] theorem sigPass_lineTime (s : State) (m : SigMode) (par : Params) (p : PairNo) (r : List EchoRecord) : (sigPass m par p r s).1.lineTime = s.lineTime := by
  induction r generalizing s with
  | nil => rfl
  | cons d r ih => cases m <;> simp [sigPass, ih]
@[simp] theorem sigPass_params (s : State) (m : SigMode) (par : Params) (p : PairNo) (r : List EchoRecord) : (sigPass m par p r s).1.params = s.params := by
  induction r generalizing s with
  | nil => rfl
  | cons d r ih => cases m <;> simp [sigPass, ih]
@[simp] theorem sigPass_lineMap (s : State) (m : SigMode) (par : Params) (p : PairNo) (r : List EchoRecord) : (sigPass m par p r s).1.lineMap = s.lineMap := by
  induction r generalizing s with
  | nil => rfl
  | cons d r ih => cases m <;> simp [sigPass, ih]
@[simp] theorem sigPass_seq (s : State) (m : SigMode) (par : Params) (p : PairNo) (r : List EchoRecord) : (sigPass m par p r s).1.seq = s.seq := by
  induction r generalizing s with
  | nil => rfl
  | cons d r ih => cases m <;> simp [sigPass, ih]
@[simp] theorem sigPass_intake (s : State) (m : SigMode) (par : Params) (p : PairNo) (r : List EchoRecord) : (sigPass m par p r s).1.intake = s.intake := by
  induction r generalizing s with
  | nil => rfl
  | cons d r ih => cases m <;> simp [sigPass, ih]
@[simp] theorem sigPass_corr (s : State) (m : SigMode) (par : Params) (p : PairNo) (r : List EchoRecord) : (sigPass m par p r s).1.corr = s.corr := by
  induction r generalizing s with
  | nil => rfl
  | cons d r ih => cases m <;> simp [sigPass, ih]
@[simp] theorem sigPass_findings (s : State) (m : SigMode) (par : Params) (p : PairNo) (r : List EchoRecord) : (sigPass m par p r s).1.findings = s.findings := by
  induction r generalizing s with
  | nil => rfl
  | cons d r ih => cases m <;> simp [sigPass, ih]
@[simp] theorem sigPass_sched (s : State) (m : SigMode) (par : Params) (p : PairNo) (r : List EchoRecord) : (sigPass m par p r s).1.sched = s.sched := by
  induction r generalizing s with
  | nil => rfl
  | cons d r ih => cases m <;> simp [sigPass, ih]
@[simp] theorem sigPass_channel (s : State) (m : SigMode) (par : Params) (p : PairNo) (r : List EchoRecord) : (sigPass m par p r s).1.channel = s.channel := by
  induction r generalizing s with
  | nil => rfl
  | cons d r ih => cases m <;> simp [sigPass, ih]
@[simp] theorem sigPass_ports (s : State) (m : SigMode) (par : Params) (p : PairNo) (r : List EchoRecord) : (sigPass m par p r s).1.ports = s.ports := by
  induction r generalizing s with
  | nil => rfl
  | cons d r ih => cases m <;> simp [sigPass, ih]
@[simp] theorem sigPass_synth (s : State) (m : SigMode) (par : Params) (p : PairNo) (r : List EchoRecord) : (sigPass m par p r s).1.synth = s.synth := by
  induction r generalizing s with
  | nil => rfl
  | cons d r ih => cases m <;> simp [sigPass, ih]
@[simp] theorem sigPass_pending (s : State) (m : SigMode) (par : Params) (p : PairNo) (r : List EchoRecord) : (sigPass m par p r s).1.pending = s.pending := by
  induction r generalizing s with
  | nil => rfl
  | cons d r ih => cases m <;> simp [sigPass, ih]

/-! ### stepsTwoThree -/

@[simp] theorem stepsTwoThree_lineTime (s : State) (rec : PassRecord) (r : List EchoRecord) : (stepsTwoThree rec r s).1.lineTime = s.lineTime := by
  unfold stepsTwoThree
  try dsimp only
  repeat' split
  all_goals simp
@[simp] theorem stepsTwoThree_params (s : State) (rec : PassRecord) (r : List EchoRecord) : (stepsTwoThree rec r s).1.params = s.params := by
  unfold stepsTwoThree
  try dsimp only
  repeat' split
  all_goals simp
@[simp] theorem stepsTwoThree_lineMap (s : State) (rec : PassRecord) (r : List EchoRecord) : (stepsTwoThree rec r s).1.lineMap = s.lineMap := by
  unfold stepsTwoThree
  try dsimp only
  repeat' split
  all_goals simp
@[simp] theorem stepsTwoThree_seq (s : State) (rec : PassRecord) (r : List EchoRecord) : (stepsTwoThree rec r s).1.seq = s.seq := by
  unfold stepsTwoThree
  try dsimp only
  repeat' split
  all_goals simp
@[simp] theorem stepsTwoThree_intake (s : State) (rec : PassRecord) (r : List EchoRecord) : (stepsTwoThree rec r s).1.intake = s.intake := by
  unfold stepsTwoThree
  try dsimp only
  repeat' split
  all_goals simp
@[simp] theorem stepsTwoThree_corr (s : State) (rec : PassRecord) (r : List EchoRecord) : (stepsTwoThree rec r s).1.corr = s.corr := by
  unfold stepsTwoThree
  try dsimp only
  repeat' split
  all_goals simp
@[simp] theorem stepsTwoThree_channel (s : State) (rec : PassRecord) (r : List EchoRecord) : (stepsTwoThree rec r s).1.channel = s.channel := by
  unfold stepsTwoThree
  try dsimp only
  repeat' split
  all_goals simp
@[simp] theorem stepsTwoThree_synth (s : State) (rec : PassRecord) (r : List EchoRecord) : (stepsTwoThree rec r s).1.synth = s.synth := by
  unfold stepsTwoThree
  try dsimp only
  repeat' split
  all_goals simp
@[simp] theorem stepsTwoThree_pending (s : State) (rec : PassRecord) (r : List EchoRecord) : (stepsTwoThree rec r s).1.pending = s.pending := by
  unfold stepsTwoThree
  try dsimp only
  repeat' split
  all_goals simp

/-! ### evaluatePass -/

@[simp] theorem evaluatePass_lineTime (s : State) (r : PassRecord) : (evaluatePass r s).lineTime = s.lineTime := by
  unfold evaluatePass
  try dsimp only
  repeat' split
  all_goals simp
@[simp] theorem evaluatePass_params (s : State) (r : PassRecord) : (evaluatePass r s).params = s.params := by
  unfold evaluatePass
  try dsimp only
  repeat' split
  all_goals simp
@[simp] theorem evaluatePass_lineMap (s : State) (r : PassRecord) : (evaluatePass r s).lineMap = s.lineMap := by
  unfold evaluatePass
  try dsimp only
  repeat' split
  all_goals simp
@[simp] theorem evaluatePass_seq (s : State) (r : PassRecord) : (evaluatePass r s).seq = s.seq := by
  unfold evaluatePass
  try dsimp only
  repeat' split
  all_goals simp
@[simp] theorem evaluatePass_channel (s : State) (r : PassRecord) : (evaluatePass r s).channel = s.channel := by
  unfold evaluatePass
  try dsimp only
  repeat' split
  all_goals simp
@[simp] theorem evaluatePass_synth (s : State) (r : PassRecord) : (evaluatePass r s).synth = s.synth := by
  unfold evaluatePass
  try dsimp only
  repeat' split
  all_goals simp
@[simp] theorem evaluatePass_pending (s : State) (r : PassRecord) : (evaluatePass r s).pending = s.pending := by
  unfold evaluatePass
  try dsimp only
  repeat' split
  all_goals simp

/-! ### endAtPassEnd -/

@[simp] theorem endAtPassEnd_lineTime (s : State) (j : Job) (o : JobOutcome) : (endAtPassEnd j o s).lineTime = s.lineTime := by
  unfold endAtPassEnd
  try dsimp only
  repeat' split
  all_goals simp
@[simp] theorem endAtPassEnd_params (s : State) (j : Job) (o : JobOutcome) : (endAtPassEnd j o s).params = s.params := by
  unfold endAtPassEnd
  try dsimp only
  repeat' split
  all_goals simp
@[simp] theorem endAtPassEnd_lineMap (s : State) (j : Job) (o : JobOutcome) : (endAtPassEnd j o s).lineMap = s.lineMap := by
  unfold endAtPassEnd
  try dsimp only
  repeat' split
  all_goals simp
@[simp] theorem endAtPassEnd_sig (s : State) (j : Job) (o : JobOutcome) : (endAtPassEnd j o s).sig = s.sig := by
  unfold endAtPassEnd
  try dsimp only
  repeat' split
  all_goals simp
@[simp] theorem endAtPassEnd_findings (s : State) (j : Job) (o : JobOutcome) : (endAtPassEnd j o s).findings = s.findings := by
  unfold endAtPassEnd
  try dsimp only
  repeat' split
  all_goals simp
@[simp] theorem endAtPassEnd_pending (s : State) (j : Job) (o : JobOutcome) : (endAtPassEnd j o s).pending = s.pending := by
  unfold endAtPassEnd
  try dsimp only
  repeat' split
  all_goals simp

/-! ### afterPass -/

@[simp] theorem afterPass_lineTime (s : State) (r : PassRecord) : (afterPass r s).lineTime = s.lineTime := by
  unfold afterPass
  try dsimp only
  repeat' split
  all_goals simp
@[simp] theorem afterPass_params (s : State) (r : PassRecord) : (afterPass r s).params = s.params := by
  unfold afterPass
  try dsimp only
  repeat' split
  all_goals simp
@[simp] theorem afterPass_lineMap (s : State) (r : PassRecord) : (afterPass r s).lineMap = s.lineMap := by
  unfold afterPass
  try dsimp only
  repeat' split
  all_goals simp
@[simp] theorem afterPass_sig (s : State) (r : PassRecord) : (afterPass r s).sig = s.sig := by
  unfold afterPass
  try dsimp only
  repeat' split
  all_goals simp
@[simp] theorem afterPass_findings (s : State) (r : PassRecord) : (afterPass r s).findings = s.findings := by
  unfold afterPass
  try dsimp only
  repeat' split
  all_goals simp
@[simp] theorem afterPass_pending (s : State) (r : PassRecord) : (afterPass r s).pending = s.pending := by
  unfold afterPass
  try dsimp only
  repeat' split
  all_goals simp

/-! ### relearnRange -/

@[simp] theorem relearnRange_lineTime (s : State) (p : PairNo) (a b : Nat) : (relearnRange p a b s).lineTime = s.lineTime := by
  unfold relearnRange
  generalize List.range' a (b + 1 - a) = l
  induction l generalizing s with
  | nil => rfl
  | cons d l ih => simp [ih]
@[simp] theorem relearnRange_params (s : State) (p : PairNo) (a b : Nat) : (relearnRange p a b s).params = s.params := by
  unfold relearnRange
  generalize List.range' a (b + 1 - a) = l
  induction l generalizing s with
  | nil => rfl
  | cons d l ih => simp [ih]
@[simp] theorem relearnRange_lineMap (s : State) (p : PairNo) (a b : Nat) : (relearnRange p a b s).lineMap = s.lineMap := by
  unfold relearnRange
  generalize List.range' a (b + 1 - a) = l
  induction l generalizing s with
  | nil => rfl
  | cons d l ih => simp [ih]
@[simp] theorem relearnRange_seq (s : State) (p : PairNo) (a b : Nat) : (relearnRange p a b s).seq = s.seq := by
  unfold relearnRange
  generalize List.range' a (b + 1 - a) = l
  induction l generalizing s with
  | nil => rfl
  | cons d l ih => simp [ih]
@[simp] theorem relearnRange_intake (s : State) (p : PairNo) (a b : Nat) : (relearnRange p a b s).intake = s.intake := by
  unfold relearnRange
  generalize List.range' a (b + 1 - a) = l
  induction l generalizing s with
  | nil => rfl
  | cons d l ih => simp [ih]
@[simp] theorem relearnRange_corr (s : State) (p : PairNo) (a b : Nat) : (relearnRange p a b s).corr = s.corr := by
  unfold relearnRange
  generalize List.range' a (b + 1 - a) = l
  induction l generalizing s with
  | nil => rfl
  | cons d l ih => simp [ih]
@[simp] theorem relearnRange_findings (s : State) (p : PairNo) (a b : Nat) : (relearnRange p a b s).findings = s.findings := by
  unfold relearnRange
  generalize List.range' a (b + 1 - a) = l
  induction l generalizing s with
  | nil => rfl
  | cons d l ih => simp [ih]
@[simp] theorem relearnRange_sched (s : State) (p : PairNo) (a b : Nat) : (relearnRange p a b s).sched = s.sched := by
  unfold relearnRange
  generalize List.range' a (b + 1 - a) = l
  induction l generalizing s with
  | nil => rfl
  | cons d l ih => simp [ih]
@[simp] theorem relearnRange_channel (s : State) (p : PairNo) (a b : Nat) : (relearnRange p a b s).channel = s.channel := by
  unfold relearnRange
  generalize List.range' a (b + 1 - a) = l
  induction l generalizing s with
  | nil => rfl
  | cons d l ih => simp [ih]
@[simp] theorem relearnRange_ports (s : State) (p : PairNo) (a b : Nat) : (relearnRange p a b s).ports = s.ports := by
  unfold relearnRange
  generalize List.range' a (b + 1 - a) = l
  induction l generalizing s with
  | nil => rfl
  | cons d l ih => simp [ih]
@[simp] theorem relearnRange_synth (s : State) (p : PairNo) (a b : Nat) : (relearnRange p a b s).synth = s.synth := by
  unfold relearnRange
  generalize List.range' a (b + 1 - a) = l
  induction l generalizing s with
  | nil => rfl
  | cons d l ih => simp [ih]
@[simp] theorem relearnRange_pending (s : State) (p : PairNo) (a b : Nat) : (relearnRange p a b s).pending = s.pending := by
  unfold relearnRange
  generalize List.range' a (b + 1 - a) = l
  induction l generalizing s with
  | nil => rfl
  | cons d l ih => simp [ih]

/-! ### relearnAndIsolate -/

@[simp] theorem relearnAndIsolate_lineTime (s : State) (h : Nat) (p : PairNo) : (relearnAndIsolate h p s).lineTime = s.lineTime := by simp [relearnAndIsolate]
@[simp] theorem relearnAndIsolate_params (s : State) (h : Nat) (p : PairNo) : (relearnAndIsolate h p s).params = s.params := by simp [relearnAndIsolate]
@[simp] theorem relearnAndIsolate_lineMap (s : State) (h : Nat) (p : PairNo) : (relearnAndIsolate h p s).lineMap = s.lineMap := by simp [relearnAndIsolate]
@[simp] theorem relearnAndIsolate_seq (s : State) (h : Nat) (p : PairNo) : (relearnAndIsolate h p s).seq = s.seq := by simp [relearnAndIsolate]
@[simp] theorem relearnAndIsolate_intake (s : State) (h : Nat) (p : PairNo) : (relearnAndIsolate h p s).intake = s.intake := by simp [relearnAndIsolate]
@[simp] theorem relearnAndIsolate_corr (s : State) (h : Nat) (p : PairNo) : (relearnAndIsolate h p s).corr = s.corr := by simp [relearnAndIsolate]
@[simp] theorem relearnAndIsolate_sched (s : State) (h : Nat) (p : PairNo) : (relearnAndIsolate h p s).sched = s.sched := by simp [relearnAndIsolate]
@[simp] theorem relearnAndIsolate_channel (s : State) (h : Nat) (p : PairNo) : (relearnAndIsolate h p s).channel = s.channel := by simp [relearnAndIsolate]
@[simp] theorem relearnAndIsolate_ports (s : State) (h : Nat) (p : PairNo) : (relearnAndIsolate h p s).ports = s.ports := by simp [relearnAndIsolate]
@[simp] theorem relearnAndIsolate_synth (s : State) (h : Nat) (p : PairNo) : (relearnAndIsolate h p s).synth = s.synth := by simp [relearnAndIsolate]
@[simp] theorem relearnAndIsolate_pending (s : State) (h : Nat) (p : PairNo) : (relearnAndIsolate h p s).pending = s.pending := by simp [relearnAndIsolate]

/-! ### writeJobToggle -/

@[simp] theorem writeJobToggle_lineTime (s : State) (j : Job) (t : Option Bool) : (writeJobToggle j t s).lineTime = s.lineTime := by
  unfold writeJobToggle
  try dsimp only
  repeat' split
  all_goals simp
@[simp] theorem writeJobToggle_params (s : State) (j : Job) (t : Option Bool) : (writeJobToggle j t s).params = s.params := by
  unfold writeJobToggle
  try dsimp only
  repeat' split
  all_goals simp
@[simp] theorem writeJobToggle_seq (s : State) (j : Job) (t : Option Bool) : (writeJobToggle j t s).seq = s.seq := by
  unfold writeJobToggle
  try dsimp only
  repeat' split
  all_goals simp
@[simp] theorem writeJobToggle_intake (s : State) (j : Job) (t : Option Bool) : (writeJobToggle j t s).intake = s.intake := by
  unfold writeJobToggle
  try dsimp only
  repeat' split
  all_goals simp
@[simp] theorem writeJobToggle_corr (s : State) (j : Job) (t : Option Bool) : (writeJobToggle j t s).corr = s.corr := by
  unfold writeJobToggle
  try dsimp only
  repeat' split
  all_goals simp
@[simp] theorem writeJobToggle_sig (s : State) (j : Job) (t : Option Bool) : (writeJobToggle j t s).sig = s.sig := by
  unfold writeJobToggle
  try dsimp only
  repeat' split
  all_goals simp
@[simp] theorem writeJobToggle_findings (s : State) (j : Job) (t : Option Bool) : (writeJobToggle j t s).findings = s.findings := by
  unfold writeJobToggle
  try dsimp only
  repeat' split
  all_goals simp
@[simp] theorem writeJobToggle_sched (s : State) (j : Job) (t : Option Bool) : (writeJobToggle j t s).sched = s.sched := by
  unfold writeJobToggle
  try dsimp only
  repeat' split
  all_goals simp
@[simp] theorem writeJobToggle_channel (s : State) (j : Job) (t : Option Bool) : (writeJobToggle j t s).channel = s.channel := by
  unfold writeJobToggle
  try dsimp only
  repeat' split
  all_goals simp
@[simp] theorem writeJobToggle_ports (s : State) (j : Job) (t : Option Bool) : (writeJobToggle j t s).ports = s.ports := by
  unfold writeJobToggle
  try dsimp only
  repeat' split
  all_goals simp
@[simp] theorem writeJobToggle_synth (s : State) (j : Job) (t : Option Bool) : (writeJobToggle j t s).synth = s.synth := by
  unfold writeJobToggle
  try dsimp only
  repeat' split
  all_goals simp
@[simp] theorem writeJobToggle_pending (s : State) (j : Job) (t : Option Bool) : (writeJobToggle j t s).pending = s.pending := by
  unfold writeJobToggle
  try dsimp only
  repeat' split
  all_goals simp

/-! ### completeShared -/

@[simp] theorem completeShared_lineTime (s : State) (p : PairNo) (c : CommandFields) : (completeShared p c s).lineTime = s.lineTime := by
  have h : ∀ (l : List PairNo) (s : State),
      (l.foldl (fun s r => relearnAndIsolate c.housing r s) s).lineTime = s.lineTime := by
    intro l
    induction l with
    | nil => intro s; rfl
    | cons k l ih => intro s; simp [ih]
  unfold completeShared
  dsimp only
  rw [h]
  split <;> simp
@[simp] theorem completeShared_params (s : State) (p : PairNo) (c : CommandFields) : (completeShared p c s).params = s.params := by
  have h : ∀ (l : List PairNo) (s : State),
      (l.foldl (fun s r => relearnAndIsolate c.housing r s) s).params = s.params := by
    intro l
    induction l with
    | nil => intro s; rfl
    | cons k l ih => intro s; simp [ih]
  unfold completeShared
  dsimp only
  rw [h]
  split <;> simp
@[simp] theorem completeShared_seq (s : State) (p : PairNo) (c : CommandFields) : (completeShared p c s).seq = s.seq := by
  have h : ∀ (l : List PairNo) (s : State),
      (l.foldl (fun s r => relearnAndIsolate c.housing r s) s).seq = s.seq := by
    intro l
    induction l with
    | nil => intro s; rfl
    | cons k l ih => intro s; simp [ih]
  unfold completeShared
  dsimp only
  rw [h]
  split <;> simp
@[simp] theorem completeShared_intake (s : State) (p : PairNo) (c : CommandFields) : (completeShared p c s).intake = s.intake := by
  have h : ∀ (l : List PairNo) (s : State),
      (l.foldl (fun s r => relearnAndIsolate c.housing r s) s).intake = s.intake := by
    intro l
    induction l with
    | nil => intro s; rfl
    | cons k l ih => intro s; simp [ih]
  unfold completeShared
  dsimp only
  rw [h]
  split <;> simp
@[simp] theorem completeShared_corr (s : State) (p : PairNo) (c : CommandFields) : (completeShared p c s).corr = s.corr := by
  have h : ∀ (l : List PairNo) (s : State),
      (l.foldl (fun s r => relearnAndIsolate c.housing r s) s).corr = s.corr := by
    intro l
    induction l with
    | nil => intro s; rfl
    | cons k l ih => intro s; simp [ih]
  unfold completeShared
  dsimp only
  rw [h]
  split <;> simp
@[simp] theorem completeShared_sched (s : State) (p : PairNo) (c : CommandFields) : (completeShared p c s).sched = s.sched := by
  have h : ∀ (l : List PairNo) (s : State),
      (l.foldl (fun s r => relearnAndIsolate c.housing r s) s).sched = s.sched := by
    intro l
    induction l with
    | nil => intro s; rfl
    | cons k l ih => intro s; simp [ih]
  unfold completeShared
  dsimp only
  rw [h]
  split <;> simp
@[simp] theorem completeShared_channel (s : State) (p : PairNo) (c : CommandFields) : (completeShared p c s).channel = s.channel := by
  have h : ∀ (l : List PairNo) (s : State),
      (l.foldl (fun s r => relearnAndIsolate c.housing r s) s).channel = s.channel := by
    intro l
    induction l with
    | nil => intro s; rfl
    | cons k l ih => intro s; simp [ih]
  unfold completeShared
  dsimp only
  rw [h]
  split <;> simp
@[simp] theorem completeShared_ports (s : State) (p : PairNo) (c : CommandFields) : (completeShared p c s).ports = s.ports := by
  have h : ∀ (l : List PairNo) (s : State),
      (l.foldl (fun s r => relearnAndIsolate c.housing r s) s).ports = s.ports := by
    intro l
    induction l with
    | nil => intro s; rfl
    | cons k l ih => intro s; simp [ih]
  unfold completeShared
  dsimp only
  rw [h]
  split <;> simp
@[simp] theorem completeShared_synth (s : State) (p : PairNo) (c : CommandFields) : (completeShared p c s).synth = s.synth := by
  have h : ∀ (l : List PairNo) (s : State),
      (l.foldl (fun s r => relearnAndIsolate c.housing r s) s).synth = s.synth := by
    intro l
    induction l with
    | nil => intro s; rfl
    | cons k l ih => intro s; simp [ih]
  unfold completeShared
  dsimp only
  rw [h]
  split <;> simp
@[simp] theorem completeShared_pending (s : State) (p : PairNo) (c : CommandFields) : (completeShared p c s).pending = s.pending := by
  have h : ∀ (l : List PairNo) (s : State),
      (l.foldl (fun s r => relearnAndIsolate c.housing r s) s).pending = s.pending := by
    intro l
    induction l with
    | nil => intro s; rfl
    | cons k l ih => intro s; simp [ih]
  unfold completeShared
  dsimp only
  rw [h]
  split <;> simp

/-! ### completeMute -/

@[simp] theorem completeMute_lineTime (s : State) (p : PairNo) (c : CommandFields) (m : Bool) : (completeMute p c m s).lineTime = s.lineTime := by
  unfold completeMute
  try dsimp only
  repeat' split
  all_goals simp
@[simp] theorem completeMute_params (s : State) (p : PairNo) (c : CommandFields) (m : Bool) : (completeMute p c m s).params = s.params := by
  unfold completeMute
  try dsimp only
  repeat' split
  all_goals simp
@[simp] theorem completeMute_seq (s : State) (p : PairNo) (c : CommandFields) (m : Bool) : (completeMute p c m s).seq = s.seq := by
  unfold completeMute
  try dsimp only
  repeat' split
  all_goals simp
@[simp] theorem completeMute_intake (s : State) (p : PairNo) (c : CommandFields) (m : Bool) : (completeMute p c m s).intake = s.intake := by
  unfold completeMute
  try dsimp only
  repeat' split
  all_goals simp
@[simp] theorem completeMute_corr (s : State) (p : PairNo) (c : CommandFields) (m : Bool) : (completeMute p c m s).corr = s.corr := by
  unfold completeMute
  try dsimp only
  repeat' split
  all_goals simp
@[simp] theorem completeMute_sched (s : State) (p : PairNo) (c : CommandFields) (m : Bool) : (completeMute p c m s).sched = s.sched := by
  unfold completeMute
  try dsimp only
  repeat' split
  all_goals simp
@[simp] theorem completeMute_channel (s : State) (p : PairNo) (c : CommandFields) (m : Bool) : (completeMute p c m s).channel = s.channel := by
  unfold completeMute
  try dsimp only
  repeat' split
  all_goals simp
@[simp] theorem completeMute_ports (s : State) (p : PairNo) (c : CommandFields) (m : Bool) : (completeMute p c m s).ports = s.ports := by
  unfold completeMute
  try dsimp only
  repeat' split
  all_goals simp
@[simp] theorem completeMute_synth (s : State) (p : PairNo) (c : CommandFields) (m : Bool) : (completeMute p c m s).synth = s.synth := by
  unfold completeMute
  try dsimp only
  repeat' split
  all_goals simp
@[simp] theorem completeMute_pending (s : State) (p : PairNo) (c : CommandFields) (m : Bool) : (completeMute p c m s).pending = s.pending := by
  unfold completeMute
  try dsimp only
  repeat' split
  all_goals simp

/-! ### completeLoopback -/

@[simp] theorem completeLoopback_lineTime (s : State) (p : PairNo) (c : CommandFields) : (completeLoopback p c s).lineTime = s.lineTime := by simp [completeLoopback]
@[simp] theorem completeLoopback_params (s : State) (p : PairNo) (c : CommandFields) : (completeLoopback p c s).params = s.params := by simp [completeLoopback]
@[simp] theorem completeLoopback_seq (s : State) (p : PairNo) (c : CommandFields) : (completeLoopback p c s).seq = s.seq := by simp [completeLoopback]
@[simp] theorem completeLoopback_intake (s : State) (p : PairNo) (c : CommandFields) : (completeLoopback p c s).intake = s.intake := by simp [completeLoopback]
@[simp] theorem completeLoopback_corr (s : State) (p : PairNo) (c : CommandFields) : (completeLoopback p c s).corr = s.corr := by simp [completeLoopback]
@[simp] theorem completeLoopback_sched (s : State) (p : PairNo) (c : CommandFields) : (completeLoopback p c s).sched = s.sched := by simp [completeLoopback]
@[simp] theorem completeLoopback_channel (s : State) (p : PairNo) (c : CommandFields) : (completeLoopback p c s).channel = s.channel := by simp [completeLoopback]
@[simp] theorem completeLoopback_ports (s : State) (p : PairNo) (c : CommandFields) : (completeLoopback p c s).ports = s.ports := by simp [completeLoopback]
@[simp] theorem completeLoopback_synth (s : State) (p : PairNo) (c : CommandFields) : (completeLoopback p c s).synth = s.synth := by simp [completeLoopback]
@[simp] theorem completeLoopback_pending (s : State) (p : PairNo) (c : CommandFields) : (completeLoopback p c s).pending = s.pending := by simp [completeLoopback]

/-! ### completeCommand -/

@[simp] theorem completeCommand_lineTime (s : State) (p : PairNo) (c : CommandFields) : (completeCommand p c s).lineTime = s.lineTime := by
  unfold completeCommand
  try dsimp only
  repeat' split
  all_goals simp
@[simp] theorem completeCommand_params (s : State) (p : PairNo) (c : CommandFields) : (completeCommand p c s).params = s.params := by
  unfold completeCommand
  try dsimp only
  repeat' split
  all_goals simp
@[simp] theorem completeCommand_seq (s : State) (p : PairNo) (c : CommandFields) : (completeCommand p c s).seq = s.seq := by
  unfold completeCommand
  try dsimp only
  repeat' split
  all_goals simp
@[simp] theorem completeCommand_intake (s : State) (p : PairNo) (c : CommandFields) : (completeCommand p c s).intake = s.intake := by
  unfold completeCommand
  try dsimp only
  repeat' split
  all_goals simp
@[simp] theorem completeCommand_corr (s : State) (p : PairNo) (c : CommandFields) : (completeCommand p c s).corr = s.corr := by
  unfold completeCommand
  try dsimp only
  repeat' split
  all_goals simp
@[simp] theorem completeCommand_sched (s : State) (p : PairNo) (c : CommandFields) : (completeCommand p c s).sched = s.sched := by
  unfold completeCommand
  try dsimp only
  repeat' split
  all_goals simp
@[simp] theorem completeCommand_channel (s : State) (p : PairNo) (c : CommandFields) : (completeCommand p c s).channel = s.channel := by
  unfold completeCommand
  try dsimp only
  repeat' split
  all_goals simp
@[simp] theorem completeCommand_ports (s : State) (p : PairNo) (c : CommandFields) : (completeCommand p c s).ports = s.ports := by
  unfold completeCommand
  try dsimp only
  repeat' split
  all_goals simp
@[simp] theorem completeCommand_synth (s : State) (p : PairNo) (c : CommandFields) : (completeCommand p c s).synth = s.synth := by
  unfold completeCommand
  try dsimp only
  repeat' split
  all_goals simp
@[simp] theorem completeCommand_pending (s : State) (p : PairNo) (c : CommandFields) : (completeCommand p c s).pending = s.pending := by
  unfold completeCommand
  try dsimp only
  repeat' split
  all_goals simp

/-! ### wordSucceeded -/

@[simp] theorem wordSucceeded_lineTime (s : State) (j : Job) (p : PairNo) (c : CommandFields) (x : Exchange) : (wordSucceeded j p c x s).lineTime = s.lineTime := by
  unfold wordSucceeded
  try dsimp only
  repeat' split
  all_goals simp
@[simp] theorem wordSucceeded_params (s : State) (j : Job) (p : PairNo) (c : CommandFields) (x : Exchange) : (wordSucceeded j p c x s).params = s.params := by
  unfold wordSucceeded
  try dsimp only
  repeat' split
  all_goals simp
@[simp] theorem wordSucceeded_seq (s : State) (j : Job) (p : PairNo) (c : CommandFields) (x : Exchange) : (wordSucceeded j p c x s).seq = s.seq := by
  unfold wordSucceeded
  try dsimp only
  repeat' split
  all_goals simp
@[simp] theorem wordSucceeded_intake (s : State) (j : Job) (p : PairNo) (c : CommandFields) (x : Exchange) : (wordSucceeded j p c x s).intake = s.intake := by
  unfold wordSucceeded
  try dsimp only
  repeat' split
  all_goals simp
@[simp] theorem wordSucceeded_corr (s : State) (j : Job) (p : PairNo) (c : CommandFields) (x : Exchange) : (wordSucceeded j p c x s).corr = s.corr := by
  unfold wordSucceeded
  try dsimp only
  repeat' split
  all_goals simp
@[simp] theorem wordSucceeded_channel (s : State) (j : Job) (p : PairNo) (c : CommandFields) (x : Exchange) : (wordSucceeded j p c x s).channel = s.channel := by
  unfold wordSucceeded
  try dsimp only
  repeat' split
  all_goals simp
@[simp] theorem wordSucceeded_ports (s : State) (j : Job) (p : PairNo) (c : CommandFields) (x : Exchange) : (wordSucceeded j p c x s).ports = s.ports := by
  unfold wordSucceeded
  try dsimp only
  repeat' split
  all_goals simp
@[simp] theorem wordSucceeded_synth (s : State) (j : Job) (p : PairNo) (c : CommandFields) (x : Exchange) : (wordSucceeded j p c x s).synth = s.synth := by
  unfold wordSucceeded
  try dsimp only
  repeat' split
  all_goals simp
@[simp] theorem wordSucceeded_pending (s : State) (j : Job) (p : PairNo) (c : CommandFields) (x : Exchange) : (wordSucceeded j p c x s).pending = s.pending := by
  unfold wordSucceeded
  try dsimp only
  repeat' split
  all_goals simp

/-! ### wordExhausted -/

@[simp] theorem wordExhausted_lineTime (s : State) (j : Job) (p : PairNo) : (wordExhausted j p s).lineTime = s.lineTime := by simp [wordExhausted]
@[simp] theorem wordExhausted_params (s : State) (j : Job) (p : PairNo) : (wordExhausted j p s).params = s.params := by simp [wordExhausted]
@[simp] theorem wordExhausted_seq (s : State) (j : Job) (p : PairNo) : (wordExhausted j p s).seq = s.seq := by simp [wordExhausted]
@[simp] theorem wordExhausted_intake (s : State) (j : Job) (p : PairNo) : (wordExhausted j p s).intake = s.intake := by simp [wordExhausted]
@[simp] theorem wordExhausted_corr (s : State) (j : Job) (p : PairNo) : (wordExhausted j p s).corr = s.corr := by simp [wordExhausted]
@[simp] theorem wordExhausted_sig (s : State) (j : Job) (p : PairNo) : (wordExhausted j p s).sig = s.sig := by simp [wordExhausted]
@[simp] theorem wordExhausted_findings (s : State) (j : Job) (p : PairNo) : (wordExhausted j p s).findings = s.findings := by simp [wordExhausted]
@[simp] theorem wordExhausted_channel (s : State) (j : Job) (p : PairNo) : (wordExhausted j p s).channel = s.channel := by simp [wordExhausted]
@[simp] theorem wordExhausted_synth (s : State) (j : Job) (p : PairNo) : (wordExhausted j p s).synth = s.synth := by simp [wordExhausted]
@[simp] theorem wordExhausted_pending (s : State) (j : Job) (p : PairNo) : (wordExhausted j p s).pending = s.pending := by simp [wordExhausted]

/-! ### decideWord -/

@[simp] theorem decideWord_lineTime (s : State) (n : Nat) : (decideWord n s).lineTime = s.lineTime := by
  unfold decideWord
  try dsimp only
  repeat' split
  all_goals simp
@[simp] theorem decideWord_params (s : State) (n : Nat) : (decideWord n s).params = s.params := by
  unfold decideWord
  try dsimp only
  repeat' split
  all_goals simp
@[simp] theorem decideWord_seq (s : State) (n : Nat) : (decideWord n s).seq = s.seq := by
  unfold decideWord
  try dsimp only
  repeat' split
  all_goals simp
@[simp] theorem decideWord_intake (s : State) (n : Nat) : (decideWord n s).intake = s.intake := by
  unfold decideWord
  try dsimp only
  repeat' split
  all_goals simp
@[simp] theorem decideWord_corr (s : State) (n : Nat) : (decideWord n s).corr = s.corr := by
  unfold decideWord
  try dsimp only
  repeat' split
  all_goals simp
@[simp] theorem decideWord_synth (s : State) (n : Nat) : (decideWord n s).synth = s.synth := by
  unfold decideWord
  try dsimp only
  repeat' split
  all_goals simp
@[simp] theorem decideWord_pending (s : State) (n : Nat) : (decideWord n s).pending = s.pending := by
  unfold decideWord
  try dsimp only
  repeat' split
  all_goals simp

/-! ### endUnresolved -/

@[simp] theorem endUnresolved_lineTime (s : State) (j : Job) (w : Option WordOutcome) (o : JobOutcome) : (endUnresolved j w o s).lineTime = s.lineTime := by
  unfold endUnresolved
  try dsimp only
  repeat' split
  all_goals simp
@[simp] theorem endUnresolved_params (s : State) (j : Job) (w : Option WordOutcome) (o : JobOutcome) : (endUnresolved j w o s).params = s.params := by
  unfold endUnresolved
  try dsimp only
  repeat' split
  all_goals simp
@[simp] theorem endUnresolved_sig (s : State) (j : Job) (w : Option WordOutcome) (o : JobOutcome) : (endUnresolved j w o s).sig = s.sig := by
  unfold endUnresolved
  try dsimp only
  repeat' split
  all_goals simp
@[simp] theorem endUnresolved_findings (s : State) (j : Job) (w : Option WordOutcome) (o : JobOutcome) : (endUnresolved j w o s).findings = s.findings := by
  unfold endUnresolved
  try dsimp only
  repeat' split
  all_goals simp
@[simp] theorem endUnresolved_pending (s : State) (j : Job) (w : Option WordOutcome) (o : JobOutcome) : (endUnresolved j w o s).pending = s.pending := by
  unfold endUnresolved
  try dsimp only
  repeat' split
  all_goals simp

/-! ### afterExchange -/

@[simp] theorem afterExchange_lineTime (s : State) (j : Job) (c : CommandFields) (x : Exchange) : (afterExchange j c x s).lineTime = s.lineTime := by
  unfold afterExchange
  try dsimp only
  repeat' split
  all_goals simp
@[simp] theorem afterExchange_params (s : State) (j : Job) (c : CommandFields) (x : Exchange) : (afterExchange j c x s).params = s.params := by
  unfold afterExchange
  try dsimp only
  repeat' split
  all_goals simp
@[simp] theorem afterExchange_sig (s : State) (j : Job) (c : CommandFields) (x : Exchange) : (afterExchange j c x s).sig = s.sig := by
  unfold afterExchange
  try dsimp only
  repeat' split
  all_goals simp
@[simp] theorem afterExchange_findings (s : State) (j : Job) (c : CommandFields) (x : Exchange) : (afterExchange j c x s).findings = s.findings := by
  unfold afterExchange
  try dsimp only
  repeat' split
  all_goals simp
@[simp] theorem afterExchange_pending (s : State) (j : Job) (c : CommandFields) (x : Exchange) : (afterExchange j c x s).pending = s.pending := by
  unfold afterExchange
  try dsimp only
  repeat' split
  all_goals simp

/-! ### enterReply -/

@[simp] theorem enterReply_lineTime (s : State) : (enterReply s).lineTime = s.lineTime := by
  unfold enterReply
  try dsimp only
  repeat' split
  all_goals simp
@[simp] theorem enterReply_params (s : State) : (enterReply s).params = s.params := by
  unfold enterReply
  try dsimp only
  repeat' split
  all_goals simp
@[simp] theorem enterReply_lineMap (s : State) : (enterReply s).lineMap = s.lineMap := by
  unfold enterReply
  try dsimp only
  repeat' split
  all_goals simp
@[simp] theorem enterReply_seq (s : State) : (enterReply s).seq = s.seq := by
  unfold enterReply
  try dsimp only
  repeat' split
  all_goals simp
@[simp] theorem enterReply_intake (s : State) : (enterReply s).intake = s.intake := by
  unfold enterReply
  try dsimp only
  repeat' split
  all_goals simp
@[simp] theorem enterReply_sig (s : State) : (enterReply s).sig = s.sig := by
  unfold enterReply
  try dsimp only
  repeat' split
  all_goals simp
@[simp] theorem enterReply_findings (s : State) : (enterReply s).findings = s.findings := by
  unfold enterReply
  try dsimp only
  repeat' split
  all_goals simp
@[simp] theorem enterReply_sched (s : State) : (enterReply s).sched = s.sched := by
  unfold enterReply
  try dsimp only
  repeat' split
  all_goals simp
@[simp] theorem enterReply_ports (s : State) : (enterReply s).ports = s.ports := by
  unfold enterReply
  try dsimp only
  repeat' split
  all_goals simp
@[simp] theorem enterReply_synth (s : State) : (enterReply s).synth = s.synth := by
  unfold enterReply
  try dsimp only
  repeat' split
  all_goals simp
@[simp] theorem enterReply_pending (s : State) : (enterReply s).pending = s.pending := by
  unfold enterReply
  try dsimp only
  repeat' split
  all_goals simp

/-! ### writeBases -/

@[simp] theorem writeBases_lineTime (s : State) (p : PairNo) (k : Nat) (l : List Nat) : (writeBases p k l s).lineTime = s.lineTime := by
  induction l generalizing s k with
  | nil => rfl
  | cons d l ih => simp [writeBases, ih]
@[simp] theorem writeBases_params (s : State) (p : PairNo) (k : Nat) (l : List Nat) : (writeBases p k l s).params = s.params := by
  induction l generalizing s k with
  | nil => rfl
  | cons d l ih => simp [writeBases, ih]
@[simp] theorem writeBases_lineMap (s : State) (p : PairNo) (k : Nat) (l : List Nat) : (writeBases p k l s).lineMap = s.lineMap := by
  induction l generalizing s k with
  | nil => rfl
  | cons d l ih => simp [writeBases, ih]
@[simp] theorem writeBases_seq (s : State) (p : PairNo) (k : Nat) (l : List Nat) : (writeBases p k l s).seq = s.seq := by
  induction l generalizing s k with
  | nil => rfl
  | cons d l ih => simp [writeBases, ih]
@[simp] theorem writeBases_intake (s : State) (p : PairNo) (k : Nat) (l : List Nat) : (writeBases p k l s).intake = s.intake := by
  induction l generalizing s k with
  | nil => rfl
  | cons d l ih => simp [writeBases, ih]
@[simp] theorem writeBases_corr (s : State) (p : PairNo) (k : Nat) (l : List Nat) : (writeBases p k l s).corr = s.corr := by
  induction l generalizing s k with
  | nil => rfl
  | cons d l ih => simp [writeBases, ih]
@[simp] theorem writeBases_findings (s : State) (p : PairNo) (k : Nat) (l : List Nat) : (writeBases p k l s).findings = s.findings := by
  induction l generalizing s k with
  | nil => rfl
  | cons d l ih => simp [writeBases, ih]
@[simp] theorem writeBases_sched (s : State) (p : PairNo) (k : Nat) (l : List Nat) : (writeBases p k l s).sched = s.sched := by
  induction l generalizing s k with
  | nil => rfl
  | cons d l ih => simp [writeBases, ih]
@[simp] theorem writeBases_channel (s : State) (p : PairNo) (k : Nat) (l : List Nat) : (writeBases p k l s).channel = s.channel := by
  induction l generalizing s k with
  | nil => rfl
  | cons d l ih => simp [writeBases, ih]
@[simp] theorem writeBases_ports (s : State) (p : PairNo) (k : Nat) (l : List Nat) : (writeBases p k l s).ports = s.ports := by
  induction l generalizing s k with
  | nil => rfl
  | cons d l ih => simp [writeBases, ih]
@[simp] theorem writeBases_synth (s : State) (p : PairNo) (k : Nat) (l : List Nat) : (writeBases p k l s).synth = s.synth := by
  induction l generalizing s k with
  | nil => rfl
  | cons d l ih => simp [writeBases, ih]
@[simp] theorem writeBases_pending (s : State) (p : PairNo) (k : Nat) (l : List Nat) : (writeBases p k l s).pending = s.pending := by
  induction l generalizing s k with
  | nil => rfl
  | cons d l ih => simp [writeBases, ih]

/-! ### openRoute -/

@[simp] theorem openRoute_lineTime (s : State) (p : PairNo) (u : Profile × Nat) : (openRoute p u s).lineTime = s.lineTime := rfl
@[simp] theorem openRoute_params (s : State) (p : PairNo) (u : Profile × Nat) : (openRoute p u s).params = s.params := rfl
@[simp] theorem openRoute_seq (s : State) (p : PairNo) (u : Profile × Nat) : (openRoute p u s).seq = s.seq := rfl
@[simp] theorem openRoute_intake (s : State) (p : PairNo) (u : Profile × Nat) : (openRoute p u s).intake = s.intake := rfl
@[simp] theorem openRoute_corr (s : State) (p : PairNo) (u : Profile × Nat) : (openRoute p u s).corr = s.corr := rfl
@[simp] theorem openRoute_channel (s : State) (p : PairNo) (u : Profile × Nat) : (openRoute p u s).channel = s.channel := rfl
@[simp] theorem openRoute_ports (s : State) (p : PairNo) (u : Profile × Nat) : (openRoute p u s).ports = s.ports := rfl
@[simp] theorem openRoute_synth (s : State) (p : PairNo) (u : Profile × Nat) : (openRoute p u s).synth = s.synth := rfl
@[simp] theorem openRoute_pending (s : State) (p : PairNo) (u : Profile × Nat) : (openRoute p u s).pending = s.pending := rfl

/-! ### closeRoute -/

@[simp] theorem closeRoute_lineTime (s : State) (p : PairNo) : (closeRoute p s).lineTime = s.lineTime := rfl
@[simp] theorem closeRoute_params (s : State) (p : PairNo) : (closeRoute p s).params = s.params := rfl
@[simp] theorem closeRoute_seq (s : State) (p : PairNo) : (closeRoute p s).seq = s.seq := rfl
@[simp] theorem closeRoute_intake (s : State) (p : PairNo) : (closeRoute p s).intake = s.intake := rfl
@[simp] theorem closeRoute_corr (s : State) (p : PairNo) : (closeRoute p s).corr = s.corr := rfl
@[simp] theorem closeRoute_sig (s : State) (p : PairNo) : (closeRoute p s).sig = s.sig := rfl
@[simp] theorem closeRoute_findings (s : State) (p : PairNo) : (closeRoute p s).findings = s.findings := rfl
@[simp] theorem closeRoute_channel (s : State) (p : PairNo) : (closeRoute p s).channel = s.channel := rfl
@[simp] theorem closeRoute_ports (s : State) (p : PairNo) : (closeRoute p s).ports = s.ports := rfl
@[simp] theorem closeRoute_synth (s : State) (p : PairNo) : (closeRoute p s).synth = s.synth := rfl
@[simp] theorem closeRoute_pending (s : State) (p : PairNo) : (closeRoute p s).pending = s.pending := rfl

/-! ### lapseJob -/

@[simp] theorem lapseJob_lineTime (s : State) (j : Job) : (lapseJob j s).lineTime = s.lineTime := by
  unfold lapseJob
  try dsimp only
  repeat' split
  all_goals simp
@[simp] theorem lapseJob_params (s : State) (j : Job) : (lapseJob j s).params = s.params := by
  unfold lapseJob
  try dsimp only
  repeat' split
  all_goals simp
@[simp] theorem lapseJob_lineMap (s : State) (j : Job) : (lapseJob j s).lineMap = s.lineMap := by
  unfold lapseJob
  try dsimp only
  repeat' split
  all_goals simp
@[simp] theorem lapseJob_seq (s : State) (j : Job) : (lapseJob j s).seq = s.seq := by
  unfold lapseJob
  try dsimp only
  repeat' split
  all_goals simp
@[simp] theorem lapseJob_intake (s : State) (j : Job) : (lapseJob j s).intake = s.intake := by
  unfold lapseJob
  try dsimp only
  repeat' split
  all_goals simp
@[simp] theorem lapseJob_corr (s : State) (j : Job) : (lapseJob j s).corr = s.corr := by
  unfold lapseJob
  try dsimp only
  repeat' split
  all_goals simp
@[simp] theorem lapseJob_sig (s : State) (j : Job) : (lapseJob j s).sig = s.sig := by
  unfold lapseJob
  try dsimp only
  repeat' split
  all_goals simp
@[simp] theorem lapseJob_findings (s : State) (j : Job) : (lapseJob j s).findings = s.findings := by
  unfold lapseJob
  try dsimp only
  repeat' split
  all_goals simp
@[simp] theorem lapseJob_channel (s : State) (j : Job) : (lapseJob j s).channel = s.channel := by
  unfold lapseJob
  try dsimp only
  repeat' split
  all_goals simp
@[simp] theorem lapseJob_synth (s : State) (j : Job) : (lapseJob j s).synth = s.synth := by
  unfold lapseJob
  try dsimp only
  repeat' split
  all_goals simp
@[simp] theorem lapseJob_pending (s : State) (j : Job) : (lapseJob j s).pending = s.pending := by
  unfold lapseJob
  try dsimp only
  repeat' split
  all_goals simp

/-! ### assignState -/

@[simp] theorem assignState_lineTime (s : State) (p : PairNo) (o : Option Port) : (assignState p o s).lineTime = s.lineTime := by
  have h : ∀ (l : List Job) (s : State), (l.foldl (fun s j => lapseJob j s) s).lineTime = s.lineTime := by
    intro l
    induction l with
    | nil => intro s; rfl
    | cons k l ih => intro s; simp [ih]
  simp [assignState, h]
@[simp] theorem assignState_params (s : State) (p : PairNo) (o : Option Port) : (assignState p o s).params = s.params := by
  have h : ∀ (l : List Job) (s : State), (l.foldl (fun s j => lapseJob j s) s).params = s.params := by
    intro l
    induction l with
    | nil => intro s; rfl
    | cons k l ih => intro s; simp [ih]
  simp [assignState, h]
@[simp] theorem assignState_sig (s : State) (p : PairNo) (o : Option Port) : (assignState p o s).sig = s.sig := by
  have h : ∀ (l : List Job) (s : State), (l.foldl (fun s j => lapseJob j s) s).sig = s.sig := by
    intro l
    induction l with
    | nil => intro s; rfl
    | cons k l ih => intro s; simp [ih]
  simp [assignState, h]
@[simp] theorem assignState_findings (s : State) (p : PairNo) (o : Option Port) : (assignState p o s).findings = s.findings := by
  have h : ∀ (l : List Job) (s : State), (l.foldl (fun s j => lapseJob j s) s).findings = s.findings := by
    intro l
    induction l with
    | nil => intro s; rfl
    | cons k l ih => intro s; simp [ih]
  simp [assignState, h]
@[simp] theorem assignState_pending (s : State) (p : PairNo) (o : Option Port) : (assignState p o s).pending = s.pending := by
  have h : ∀ (l : List Job) (s : State), (l.foldl (fun s j => lapseJob j s) s).pending = s.pending := by
    intro l
    induction l with
    | nil => intro s; rfl
    | cons k l ih => intro s; simp [ih]
  simp [assignState, h]

/-! ### cancelPass -/

@[simp] theorem cancelPass_lineTime (s : State) (j : Job) : (cancelPass j s).lineTime = s.lineTime := by
  unfold cancelPass
  try dsimp only
  repeat' split
  all_goals simp
@[simp] theorem cancelPass_params (s : State) (j : Job) : (cancelPass j s).params = s.params := by
  unfold cancelPass
  try dsimp only
  repeat' split
  all_goals simp
@[simp] theorem cancelPass_lineMap (s : State) (j : Job) : (cancelPass j s).lineMap = s.lineMap := by
  unfold cancelPass
  try dsimp only
  repeat' split
  all_goals simp
@[simp] theorem cancelPass_sig (s : State) (j : Job) : (cancelPass j s).sig = s.sig := by
  unfold cancelPass
  try dsimp only
  repeat' split
  all_goals simp
@[simp] theorem cancelPass_findings (s : State) (j : Job) : (cancelPass j s).findings = s.findings := by
  unfold cancelPass
  try dsimp only
  repeat' split
  all_goals simp
@[simp] theorem cancelPass_pending (s : State) (j : Job) : (cancelPass j s).pending = s.pending := by
  unfold cancelPass
  try dsimp only
  repeat' split
  all_goals simp

/-! ### cancelCommand -/

@[simp] theorem cancelCommand_lineTime (s : State) (j : Job) : (cancelCommand j s).lineTime = s.lineTime := by
  unfold cancelCommand
  try dsimp only
  repeat' split
  all_goals simp
@[simp] theorem cancelCommand_params (s : State) (j : Job) : (cancelCommand j s).params = s.params := by
  unfold cancelCommand
  try dsimp only
  repeat' split
  all_goals simp
@[simp] theorem cancelCommand_lineMap (s : State) (j : Job) : (cancelCommand j s).lineMap = s.lineMap := by
  unfold cancelCommand
  try dsimp only
  repeat' split
  all_goals simp
@[simp] theorem cancelCommand_sig (s : State) (j : Job) : (cancelCommand j s).sig = s.sig := by
  unfold cancelCommand
  try dsimp only
  repeat' split
  all_goals simp
@[simp] theorem cancelCommand_findings (s : State) (j : Job) : (cancelCommand j s).findings = s.findings := by
  unfold cancelCommand
  try dsimp only
  repeat' split
  all_goals simp
@[simp] theorem cancelCommand_pending (s : State) (j : Job) : (cancelCommand j s).pending = s.pending := by
  unfold cancelCommand
  try dsimp only
  repeat' split
  all_goals simp

/-! ### cancelState -/

@[simp] theorem cancelState_lineTime (s : State) (j : Job) : (cancelState j s).lineTime = s.lineTime := by
  unfold cancelState
  repeat' split
  all_goals simp
@[simp] theorem cancelState_params (s : State) (j : Job) : (cancelState j s).params = s.params := by
  unfold cancelState
  repeat' split
  all_goals simp
@[simp] theorem cancelState_lineMap (s : State) (j : Job) : (cancelState j s).lineMap = s.lineMap := by
  unfold cancelState
  repeat' split
  all_goals simp
@[simp] theorem cancelState_sig (s : State) (j : Job) : (cancelState j s).sig = s.sig := by
  unfold cancelState
  repeat' split
  all_goals simp
@[simp] theorem cancelState_findings (s : State) (j : Job) : (cancelState j s).findings = s.findings := by
  unfold cancelState
  repeat' split
  all_goals simp
@[simp] theorem cancelState_pending (s : State) (j : Job) : (cancelState j s).pending = s.pending := by
  unfold cancelState
  repeat' split
  all_goals simp

/-! ### consentState -/

@[simp] theorem consentState_lineTime (s : State) (p : Port) (n : Nat) : (consentState p n s).lineTime = s.lineTime := by
  unfold consentState consent
  dsimp only
  split <;> simp
@[simp] theorem consentState_params (s : State) (p : Port) (n : Nat) : (consentState p n s).params = s.params := by
  unfold consentState consent
  dsimp only
  split <;> simp
@[simp] theorem consentState_lineMap (s : State) (p : Port) (n : Nat) : (consentState p n s).lineMap = s.lineMap := by
  unfold consentState consent
  dsimp only
  split <;> simp
@[simp] theorem consentState_sig (s : State) (p : Port) (n : Nat) : (consentState p n s).sig = s.sig := by
  unfold consentState consent
  dsimp only
  split <;> simp
@[simp] theorem consentState_findings (s : State) (p : Port) (n : Nat) : (consentState p n s).findings = s.findings := by
  unfold consentState consent
  dsimp only
  split <;> simp
@[simp] theorem consentState_pending (s : State) (p : Port) (n : Nat) : (consentState p n s).pending = s.pending := by
  unfold consentState consent
  dsimp only
  split <;> simp

/-! ### declineState -/

@[simp] theorem declineState_lineTime (s : State) (n : Nat) : (declineState n s).lineTime = s.lineTime := by simp [declineState]
@[simp] theorem declineState_params (s : State) (n : Nat) : (declineState n s).params = s.params := by simp [declineState]
@[simp] theorem declineState_lineMap (s : State) (n : Nat) : (declineState n s).lineMap = s.lineMap := by simp [declineState]
@[simp] theorem declineState_seq (s : State) (n : Nat) : (declineState n s).seq = s.seq := by simp [declineState]
@[simp] theorem declineState_intake (s : State) (n : Nat) : (declineState n s).intake = s.intake := by simp [declineState]
@[simp] theorem declineState_corr (s : State) (n : Nat) : (declineState n s).corr = s.corr := by simp [declineState]
@[simp] theorem declineState_sig (s : State) (n : Nat) : (declineState n s).sig = s.sig := by simp [declineState]
@[simp] theorem declineState_findings (s : State) (n : Nat) : (declineState n s).findings = s.findings := by simp [declineState]
@[simp] theorem declineState_synth (s : State) (n : Nat) : (declineState n s).synth = s.synth := by simp [declineState]
@[simp] theorem declineState_pending (s : State) (n : Nat) : (declineState n s).pending = s.pending := by simp [declineState]

/-! ### clearFaultState -/

@[simp] theorem clearFaultState_lineTime (s : State) : (clearFaultState s).lineTime = s.lineTime := by simp [clearFaultState]
@[simp] theorem clearFaultState_params (s : State) : (clearFaultState s).params = s.params := by simp [clearFaultState]
@[simp] theorem clearFaultState_lineMap (s : State) : (clearFaultState s).lineMap = s.lineMap := by simp [clearFaultState]
@[simp] theorem clearFaultState_sig (s : State) : (clearFaultState s).sig = s.sig := by simp [clearFaultState]
@[simp] theorem clearFaultState_findings (s : State) : (clearFaultState s).findings = s.findings := by simp [clearFaultState]
@[simp] theorem clearFaultState_pending (s : State) : (clearFaultState s).pending = s.pending := by simp [clearFaultState]

/-! ### rejectDark -/

@[simp] theorem rejectDark_lineTime (s : State) (j : Job) : (rejectDark j s).lineTime = s.lineTime := rfl
@[simp] theorem rejectDark_params (s : State) (j : Job) : (rejectDark j s).params = s.params := rfl
@[simp] theorem rejectDark_lineMap (s : State) (j : Job) : (rejectDark j s).lineMap = s.lineMap := rfl
@[simp] theorem rejectDark_seq (s : State) (j : Job) : (rejectDark j s).seq = s.seq := rfl
@[simp] theorem rejectDark_intake (s : State) (j : Job) : (rejectDark j s).intake = s.intake := rfl
@[simp] theorem rejectDark_corr (s : State) (j : Job) : (rejectDark j s).corr = s.corr := rfl
@[simp] theorem rejectDark_sig (s : State) (j : Job) : (rejectDark j s).sig = s.sig := rfl
@[simp] theorem rejectDark_findings (s : State) (j : Job) : (rejectDark j s).findings = s.findings := rfl
@[simp] theorem rejectDark_channel (s : State) (j : Job) : (rejectDark j s).channel = s.channel := rfl
@[simp] theorem rejectDark_synth (s : State) (j : Job) : (rejectDark j s).synth = s.synth := rfl
@[simp] theorem rejectDark_pending (s : State) (j : Job) : (rejectDark j s).pending = s.pending := rfl

/-! ### decideCalibration -/

@[simp] theorem decideCalibration_lineTime (s : State) (j : Job) (a : DarkAcc) : (decideCalibration j a s).lineTime = s.lineTime := by
  unfold decideCalibration
  try dsimp only
  repeat' split
  all_goals simp
@[simp] theorem decideCalibration_params (s : State) (j : Job) (a : DarkAcc) : (decideCalibration j a s).params = s.params := by
  unfold decideCalibration
  try dsimp only
  repeat' split
  all_goals simp
@[simp] theorem decideCalibration_lineMap (s : State) (j : Job) (a : DarkAcc) : (decideCalibration j a s).lineMap = s.lineMap := by
  unfold decideCalibration
  try dsimp only
  repeat' split
  all_goals simp
@[simp] theorem decideCalibration_sig (s : State) (j : Job) (a : DarkAcc) : (decideCalibration j a s).sig = s.sig := by
  unfold decideCalibration
  try dsimp only
  repeat' split
  all_goals simp
@[simp] theorem decideCalibration_findings (s : State) (j : Job) (a : DarkAcc) : (decideCalibration j a s).findings = s.findings := by
  unfold decideCalibration
  try dsimp only
  repeat' split
  all_goals simp
@[simp] theorem decideCalibration_pending (s : State) (j : Job) (a : DarkAcc) : (decideCalibration j a s).pending = s.pending := by
  unfold decideCalibration
  try dsimp only
  repeat' split
  all_goals simp

end Sys2Proof.Machine
end

