-- ==== Sys2Proof/Laws/Ports.lean ====
section
/-! SUPPORT. The bytes clocked on a port, and the frames they carry: what a byte leaves as it was, what the
taking of a frame and the end of HANDLING can do, and what a request kind's code says of its byte. -/

namespace Sys2Proof.Machine

/-! ### One byte leaves role, notices, mask and PRST_N -/

@[simp] theorem clockByte_role (t : PortState) (b : Byte) : (clockByte t b).role = t.role := by
  unfold clockByte beginFrame
  cases t.frame <;> dsimp only <;> repeat' split
  all_goals rfl

@[simp] theorem clockByte_pendingSet (t : PortState) (b : Byte) :
    (clockByte t b).pendingSet = t.pendingSet := by
  unfold clockByte beginFrame
  cases t.frame <;> dsimp only <;> repeat' split
  all_goals rfl

@[simp] theorem clockByte_mask (t : PortState) (b : Byte) : (clockByte t b).mask = t.mask := by
  unfold clockByte beginFrame
  cases t.frame <;> dsimp only <;> repeat' split
  all_goals rfl

@[simp] theorem clockByte_prstLow (t : PortState) (b : Byte) : (clockByte t b).prstLow = t.prstLow := by
  unfold clockByte beginFrame
  cases t.frame <;> dsimp only <;> repeat' split
  all_goals rfl

@[simp] theorem clockByte_csLow (t : PortState) (b : Byte) : (clockByte t b).csLow = true := by
  unfold clockByte beginFrame
  cases t.frame <;> dsimp only <;> repeat' split
  all_goals rfl

/-- MISO carries one byte for each byte clocked. -/
@[simp] theorem clockByte_miso_length (t : PortState) (b : Byte) :
    (clockByte t b).miso.length = t.miso.length + 1 := by
  unfold clockByte beginFrame
  cases t.frame <;> dsimp only <;> repeat' split
  all_goals simp [putMiso, shiftOut, receiveByte]

/-! ### A run of bytes keeps what one byte keeps -/

theorem clockBytes_keep {α : Type} (f : PortState → α) (h : ∀ t b, f (clockByte t b) = f t)
    (l : List Byte) (t : PortState) : f (l.foldl clockByte t) = f t := by
  induction l generalizing t with
  | nil => rfl
  | cons b l ih => rw [List.foldl_cons, ih, h]

theorem clockPort_keep {α : Type} (f : PortState → α) (h : ∀ t b, f (clockByte t b) = f t)
    (hm : ∀ t m, f { t with miso := m } = f t) (hr : ∀ t, f (riseCs t) = f t)
    (c : Clocking) (t : PortState) : f (clockPort c t) = f t := by
  unfold clockPort
  dsimp only
  split
  · exact hm _ _
  · split
    · rw [hr, clockBytes_keep f h, hm]
    · rw [clockBytes_keep f h, hm]

@[simp] theorem clockPort_role (c : Clocking) (t : PortState) : (clockPort c t).role = t.role :=
  clockPort_keep PortState.role clockByte_role (fun _ _ => rfl) (fun _ => rfl) c t

@[simp] theorem clockPort_pendingSet (c : Clocking) (t : PortState) :
    (clockPort c t).pendingSet = t.pendingSet :=
  clockPort_keep PortState.pendingSet clockByte_pendingSet (fun _ _ => rfl) (fun _ => rfl) c t

@[simp] theorem clockPort_mask (c : Clocking) (t : PortState) : (clockPort c t).mask = t.mask :=
  clockPort_keep PortState.mask clockByte_mask (fun _ _ => rfl) (fun _ => rfl) c t

@[simp] theorem clockPort_prstLow (c : Clocking) (t : PortState) : (clockPort c t).prstLow = t.prstLow :=
  clockPort_keep PortState.prstLow clockByte_prstLow (fun _ _ => rfl) (fun _ => rfl) c t

/-! ### The request of a frame, and the end of HANDLING -/

/-- The meaning a frame's request has is the meaning of the command (R168, R170). -/
theorem requestMeaning_eq_exec (i : Instr) (p : Port) (s : State) (h : i.requestPort = some p) :
    requestMeaning i s = exec i s := by
  cases i <;> first | rfl | (simp [Instr.requestPort] at h)

/-- A command that ends no frame leaves the port as the bytes leave it, and nothing else moves (R168). -/
theorem execResponseReadOut_of_not_endsFrame (p : Port) (c : Clocking) (s : State)
    (h : endsFrame c (s.port p) = false) :
    execResponseReadOut p c s = .next (s.setPort p (clockPort c)) := by
  simp [execResponseReadOut, h]

/-- A command that ends a frame takes its request, and the port is in HANDLING (R168). -/
theorem execResponseReadOut_of_endsFrame (p : Port) (c : Clocking) (s : State)
    (h : endsFrame c (s.port p) = true) :
    execResponseReadOut p c s = takeFrame p (s.setPort p (clockPort c)) := by
  simp [execResponseReadOut, h]

/-- What the taking of a frame can do: the effect of its request, with the port then in HANDLING (R168). -/
theorem takeFrame_next {p : Port} {s t : State} (h : takeFrame p s = .next t) :
    ∃ u, requestMeaning (frameCommand ⟨p, (s.port p).received⟩) (readyPort p s) = .next u ∧
      t = enterHandling p (s.port p).csLow u := by
  unfold takeFrame at h
  split at h
  · exact ⟨_, ‹_›, by injection h with h; exact h.symm⟩
  · cases h
  · cases h

@[simp] theorem endHandling_response (t : PortState) : (endHandling t).response = t.response := rfl
@[simp] theorem endHandling_csLow (t : PortState) : (endHandling t).csLow = t.csLow := rfl
@[simp] theorem endHandling_received (t : PortState) : (endHandling t).received = t.received := rfl
@[simp] theorem endHandling_role (t : PortState) : (endHandling t).role = t.role := rfl
@[simp] theorem endHandling_pendingSet (t : PortState) : (endHandling t).pendingSet = t.pendingSet := rfl
@[simp] theorem endHandling_mask (t : PortState) : (endHandling t).mask = t.mask := rfl
@[simp] theorem endHandling_prstLow (t : PortState) : (endHandling t).prstLow = t.prstLow := rfl

/-- No port is in HANDLING once it has ended (log 1). -/
theorem endHandling_frame_ne_handling (t : PortState) : (endHandling t).frame ≠ .handling := by
  unfold endHandling
  dsimp only
  split
  · simp
  · assumption

/-- An idle step ends HANDLING on each port (log 1). -/
theorem idleStep_port (s : State) (p : Port) :
    ∃ t, idleStep s = .next t ∧ t.port p = endHandling (s.port p) :=
  ⟨_, rfl, by simp [State.port]⟩

/-! ### Request kinds and their bytes -/

/-- The codes lie in 1 to 36 (R170). -/
theorem kindCode_range (k : RequestKind) : 1 ≤ kindCode k ∧ kindCode k ≤ 36 := by cases k <;> decide

/-- A kind's code as a byte picks the kind (R170). -/
@[simp] theorem kindOf_kindCode (k : RequestKind) : kindOf (BitVec.ofNat 8 (kindCode k)) = some k := by
  cases k <;> decide

/-- The value of a field of two bytes, most significant first (R181). -/
theorem half_toNat (hi lo : Byte) : (half hi lo).toNat = hi.toNat * 256 + lo.toNat := by
  unfold half
  rw [BitVec.toNat_append, ← Nat.shiftLeft_add_eq_or_of_lt lo.isLt, Nat.shiftLeft_eq]

/-- A field of two bytes is read back as it was sent (R181). -/
theorem half_of_bytes (h : Half) : half (BitVec.ofNat 8 (h.toNat / 256)) (BitVec.ofNat 8 h.toNat) = h := by
  apply BitVec.eq_of_toNat_eq
  rw [half_toNat, BitVec.toNat_ofNat, BitVec.toNat_ofNat]
  have := h.isLt
  omega

end Sys2Proof.Machine
end

