-- ==== Sys2Proof/Laws/Tables.lean ====
section
/-! SUPPORT. Reading a table after writing one of its entries, and reading the pattern ring after writing
it. -/

namespace Sys2Proof.Machine

theorem tableMap_get {α : Type} {n : Nat} (v : Vector α n) (i : Nat) (f : α → α) (j : Nat) (h : j < n) :
    (tableMap v i f)[j] = if i = j then f v[j] else v[j] := by
  obtain ⟨⟨l⟩, hl⟩ := v
  simp only [tableMap, Vector.getElem_mk, List.getElem_toArray]
  simp [List.getElem_modify]

theorem tableGet_tableMap {α : Type} {n : Nat} (v : Vector α n) (i : Nat) (f : α → α) (j : Nat) (d : α)
    (h : j < n) : tableGet (tableMap v i f) j d = if i = j then f (tableGet v j d) else tableGet v j d := by
  have e : ∀ w : Vector α n, tableGet w j d = w[j] := by
    intro w
    simp [tableGet, List.getD, h]
  rw [e, e, tableMap_get v i f j h]

theorem tableGet_of_le {α : Type} {n : Nat} (v : Vector α n) (j : Nat) (d : α) (h : n ≤ j) :
    tableGet v j d = d := by
  simp [tableGet, List.getD, h]

theorem tableGet_eq {α : Type} {n : Nat} (v : Vector α n) (j : Nat) (d : α) (h : j < n) :
    tableGet v j d = v[j] := by
  simp [tableGet, List.getD, h]

/-- A pair record after a write of one. -/
theorem State.pair_setPair (s : State) (p q : PairNo) (f : Pair → Pair) :
    (s.setPair p f).pair q = if p = q then f (s.pair q) else s.pair q := by
  simp only [State.pair, State.setPair, Fin.getElem_fin]
  rw [tableMap_get _ _ _ _ q.isLt]
  simp only [Fin.ext_iff]

/-- A port after a write of one. -/
theorem State.port_setPort (s : State) (p q : Port) (f : PortState → PortState) :
    (s.setPort p f).port q = if p = q then f (s.port q) else s.port q := by
  simp only [State.port, State.setPort, Fin.getElem_fin]
  rw [tableMap_get _ _ _ _ q.isLt]
  simp only [Fin.ext_iff]

/-- A patrol record after a write of one. -/
theorem State.patrols_setPatrol (s : State) (p q : PairNo) (f : Patrol → Patrol) :
    (s.setPatrol p f).sched.patrols[q] = if p = q then f s.sched.patrols[q] else s.sched.patrols[q] := by
  simp only [State.setPatrol, Fin.getElem_fin]
  rw [tableMap_get _ _ _ _ q.isLt]
  simp only [Fin.ext_iff]

/-- A pair's statistics after a write of one. -/
theorem State.stats_setStats (s : State) (p q : PairNo) (f : Stats → Stats) :
    (s.setStats p f).sched.stats[q] = if p = q then f s.sched.stats[q] else s.sched.stats[q] := by
  simp only [State.setStats, Fin.getElem_fin]
  rw [tableMap_get _ _ _ _ q.isLt]
  simp only [Fin.ext_iff]

/-- A result list after a write of one. -/
theorem State.results_setResults (s : State) (p q : Port) (f : ResultList → ResultList) :
    (s.setResults p f).sched.results[q] = if p = q then f s.sched.results[q] else s.sched.results[q] := by
  simp only [State.setResults, Fin.getElem_fin]
  rw [tableMap_get _ _ _ _ q.isLt]
  simp only [Fin.ext_iff]

/-- A housing entry after a write of one. -/
theorem State.housing_setHousing (s : State) (h k : Nat) (f : Housing → Housing) (hk : 1 ≤ k)
    (hk' : k ≤ 192) (hh : 1 ≤ h) :
    (s.setHousing h f).housing k = if h = k then f (s.housing k) else s.housing k := by
  simp only [State.housing, State.setHousing]
  rw [tableGet_tableMap _ _ _ _ _ (by omega)]
  by_cases e : h = k
  · simp [e]
  · have : ¬ h - 1 = k - 1 := by omega
    simp [e, this]

/-- A signature entry after a write of one. -/
theorem State.sigAt_setSig (s : State) (p q : PairNo) (h k : Nat) (f : SigEntry → SigEntry) (hk : 1 ≤ k)
    (hk' : k ≤ 192) (hh : 1 ≤ h) :
    (s.setSig p h f).sigAt q k = if p = q ∧ h = k then f (s.sigAt q k) else s.sigAt q k := by
  simp only [State.sigAt, State.setSig, Fin.getElem_fin]
  rw [tableMap_get _ _ _ _ q.isLt]
  by_cases e : p = q
  · subst e
    simp only [if_true, true_and]
    rw [tableGet_tableMap _ _ _ _ _ (by omega)]
    by_cases e' : h = k
    · simp [e']
    · have : ¬ h - 1 = k - 1 := by omega
      simp [e', this]
  · have : ¬ p.val = q.val := fun h => e (Fin.ext h)
    simp [e, this]

/-- The signature table holds 192 entries a pair: a position beyond them reads as a power-on entry. -/
theorem State.sigAt_setSig_of_lt (s : State) (p q : PairNo) (h k : Nat) (f : SigEntry → SigEntry)
    (hk : 192 < k) : (s.setSig p h f).sigAt q k = s.sigAt q k := by
  simp only [State.sigAt]
  rw [tableGet_of_le _ _ _ (by omega), tableGet_of_le _ _ _ (by omega)]

/-! ### The pattern ring (R21) -/

/-- The entry written reads as the chip, and every other entry reads as before. -/
theorem ringRead_ringWrite (ring : BitVec 32768) (i j : Nat) (c : Bool) (hi : i < 32768) :
    ringRead (ringWrite ring i c) j = if i = j then c else ringRead ring j := by
  unfold ringRead ringWrite
  have one : ∀ m : Nat, (1#32768).getLsbD m = decide (m = 0) := by
    intro m
    rw [BitVec.getLsbD_one]
    simp
  cases c
  · simp only [Bool.false_eq_true, if_false, BitVec.getLsbD_and, BitVec.getLsbD_not,
      BitVec.getLsbD_shiftLeft, one]
    by_cases e : i = j
    · subst e
      simp [hi]
    · by_cases hj : j < 32768
      · simp only [hj, decide_true, Bool.true_and, e, if_false]
        by_cases hlt : j < i
        · simp [hlt]
        · have : ¬ j - i = 0 := by omega
          simp [hlt, this]
      · simp [BitVec.getLsbD_of_ge ring j (by omega), e]
  · simp only [if_true, BitVec.getLsbD_or, BitVec.getLsbD_shiftLeft, one]
    by_cases e : i = j
    · subst e
      simp [hi]
    · by_cases hlt : j < i
      · simp [hlt, e]
      · have : ¬ j - i = 0 := by omega
        simp [hlt, this, e]

end Sys2Proof.Machine
end

