-- ==== Sys2Proof/Tests/Slice0.lean ====
section
/-! SUPPORT. The model's own tests: what WellFormed refuses, the worked figures of the guide, one step of
each command on a small state, and for every statement with hypotheses a state that meets them. Every
expected value is taken from the guide's text, named in the comment. -/

namespace Sys2Proof.Tests
open Sys2Proof Sys2Proof.Machine

/-! ### A small state -/

def routed (owner : Option Port) : Pair :=
  { state := .routed, owner := owner, profile := ⟨11, 0, 9⟩, quietBase := 1000
    route := [⟨1, 10⟩, ⟨2, 40⟩, ⟨3, 200⟩] }

/-- Pair 0 of port 1 and pair 1 of port 2, both through housings 1 to 3, pair 2 UNROUTED of port 1, pair 3
in EDIT with no owner; the part calibrated, PARKED, with no job. -/
def demo : State :=
  let s := State.reset
  { s with
    lineMap :=
      { housings := tableOf 192 Housing.powerOn
          (List.replicate 3 { Housing.powerOn with presence := .present })
        pairs := tableOf 16 Pair.powerOn
          [routed (some 1), routed (some 2), { Pair.powerOn with owner := some 1 },
           { routed none with state := .edit }] }
    seq := Sequencer.parkedReset
    intake := { s.intake with acc := none, darkState := .calibrated, everCal := true }
    sched := { s.sched with jobs := [] } }

/-- A job of some number, kind and state on pair 0. -/
def aJob (number : Nat) (who : Requester) (kind : JobKind) (cls : JobClass) (st : JobState) : Job :=
  { Job.fresh who kind cls (some 0) (some (1, 3)) 0 3 with number := number, state := st }

def withJobs (jobs : List Job) (s : State) : State := s.setJobs jobs

/-- The state a command answers. -/
def after (c : Instr) (s : State) : State :=
  match exec c s with
  | .next t => t
  | .fault _ => s
  | .refused _ => s

/-- The response a port holds after a request. -/
def answer (p : Port) (c : Instr) (s : State) : List Byte := ((after c s).port p).response

def millis (n : Nat) (s : State) : State := { s with lineTime := n }

/-! ### WellFormed -/

theorem test_body_too_long_refused :
    (Instr.writeSignature 0 0#8 1#8 (List.replicate 255 0#16)).wellFormed = false := by decide +kernel
theorem test_count_too_large_refused :
    (Instr.setParams 0 (List.replicate 256 (0#8, 0#16))).countFits = false := by decide +kernel
theorem test_long_command_refused :
    (Instr.submitCommand 1 0#8 1#8 0#8 0#16 (List.replicate 6 0#8)).wellFormed = false := by decide
theorem test_empty_read_out_refused : (Instr.responseReadOut 0 ⟨[], false⟩).wellFormed = false := by decide
theorem test_end_of_period_accepted : (Instr.responseReadOut 0 ⟨[], true⟩).wellFormed = true := by decide
theorem test_catalogue_request_accepted : (Instr.routeEntries 0 3#8 1#8 [(1#8, 59#16)]).wellFormed = true := by
  decide
theorem test_no_row_has_bits : decodeTableWord 8 0 = none := rfl

/-! ### Frames written out by the catalogue and the layouts of chapter 10 -/

/-- The port group, 1 to 5: a request of no field, and SET_NOTICE_MASK with its two-byte field. -/
theorem test_port_frames :
    decodeFrame ⟨3, [1, 0, 0]⟩ = some (.identify 3) ∧
    decodeFrame ⟨2, [4, 0, 2, 8, 1]⟩ = some (.setNoticeMask 2 0x0801#16) := by decide +kernel

/-- Jobs, 6 to 13, with the short and the long body of SUBMIT_COMMAND (R139). -/
theorem test_job_frames :
    decodeFrame ⟨1, [6, 0, 7, 5, 41, 45, 6, 3, 1, 0]⟩ = some (.submitMeasure 1 5 41 45 6 3 1 0) ∧
    decodeFrame ⟨1, [7, 0, 7, 5, 0, 200, 1, 3, 6, 0]⟩ = some (.submitSurvey 1 5 200#16 259#16 6 0) ∧
    decodeFrame ⟨1, [8, 0, 5, 5, 12, 6, 255, 106]⟩ = some (.submitCommand 1 5 12 6 (BitVec.ofInt 16 (-150)) []) ∧
    decodeFrame ⟨1, [8, 0, 10, 5, 12, 2, 0, 1, 3, 2, 4, 3, 1]⟩ =
      some (.submitCommand 1 5 12 2 1#16 [3, 2, 4, 3, 1]) ∧
    decodeFrame ⟨1, [8, 0, 4, 5, 12, 6, 255]⟩ = none := by decide +kernel

/-- Concurrence, signatures and findings, 14 to 21: yes is 1, no 0; a list has its count; a none field of
READ_FINDINGS is ALL. -/
theorem test_pair_frames :
    decodeFrame ⟨2, [14, 0, 2, 8, 1]⟩ = some (.concurYes 2 8) ∧
    decodeFrame ⟨2, [14, 0, 2, 8, 0]⟩ = some (.concurNo 2 8) ∧ decodeFrame ⟨2, [14, 0, 2, 8, 2]⟩ = none ∧
    decodeFrame ⟨1, [17, 0, 7, 5, 41, 2, 8, 125, 8, 126]⟩ = some (.writeSignature 1 5 41 [2173#16, 2174#16]) ∧
    decodeFrame ⟨1, [17, 0, 7, 5, 41, 3, 8, 125, 8, 126]⟩ = none ∧
    decodeFrame ⟨0, [20, 0, 3, 0, 0, 5]⟩ = some (.readFindings 0 .all 5) ∧
    decodeFrame ⟨0, [20, 0, 3, 1, 7, 5]⟩ = some (.readFindings 0 (.pair 7) 5) := by decide +kernel

/-- The Line Map, the service requests and the self-test, 24 to 36. -/
theorem test_service_frames :
    decodeFrame ⟨0, [26, 0, 6, 3, 13, 1, 180, 31, 251]⟩ = some (.routeOpen 0 3 13 1 180 8187#16) ∧
    decodeFrame ⟨0, [27, 0, 6, 3, 1, 1, 5, 0, 236]⟩ = some (.routeEntries 0 3 1 [(5, 236#16)]) ∧
    decodeFrame ⟨0, [30, 0, 3, 3, 1, 2]⟩ = some (.assign 0 3 (some 2)) ∧
    decodeFrame ⟨0, [30, 0, 3, 3, 0, 0]⟩ = some (.assign 0 3 none) ∧
    decodeFrame ⟨0, [31, 0, 1, 0]⟩ = some (.setParams 0 []) ∧
    decodeFrame ⟨0, [31, 0, 4, 1, 17, 0, 9]⟩ = some (.setParams 0 [(17, 9#16)]) ∧
    decodeFrame ⟨0, [32, 0, 3, 1, 32, 1]⟩ = some (.setDarkModeManual 0 8193#16) ∧
    decodeFrame ⟨0, [32, 0, 1, 2]⟩ = some (.setDarkModeAuto 0) ∧
    decodeFrame ⟨0, [36, 0, 15, 11, 7, 208, 32, 8, 0, 0, 0, 1, 1, 1, 0, 100, 2, 88]⟩ =
      some (.synthDefine 0 11 2000#16 8200#16 0#16 1#16 1 [(100#16, 600#16)]) := by decide +kernel

/-- No kind: 0 and 37; a body cut short; bytes after a body are ignored. -/
theorem test_frames_refused :
    decodeFrame ⟨0, [37, 0, 0]⟩ = none ∧ decodeFrame ⟨0, [0, 0, 0]⟩ = none ∧
    decodeFrame ⟨0, [9, 0, 1]⟩ = none ∧ decodeFrame ⟨0, [9, 0, 1, 0]⟩ = none ∧
    decodeFrame ⟨0, [1, 0, 0, 9, 9]⟩ = some (.identify 0) := by decide +kernel

/-! ### Worked figures of chapters 02 to 06, 08 and 11 -/

/-- R19, R20: the first chip after a restart is 1, and at order 11 the register holds the seed again after
2047 steps, having sent 1024 ones. -/
theorem test_first_chip : chipOut 13 (chipSeed 13) = true := by decide
theorem test_order_11_period :
    let run := (List.range 2047).foldl (fun u _ => (chipStep 11 u.1, u.2 + (chipOut 11 u.1).toNat))
      (chipSeed 11, 0)
    run = (chipSeed 11, 1024) := by decide +kernel

/-- The table of R65. -/
theorem test_levels : [1, 2, 10, 150, 318, 402, 1000, 32766].map levelOf =
    [0, 301, 1000, 2176, 2502, 2604, 3000, 4515] := by decide +kernel

/-- Chapter 04, "one position from total to deviation". -/
theorem test_amplitude : amplitude 13 6 39321600 = 150 := by decide +kernel
theorem test_noise_floor : (([3, -5, 2, -4] : List Int).map Int.natAbs).sum / 4 = 3 ∧ threshold 3 32 = 12 ∧
    qualifies 150 12 = true := by decide +kernel

/-- Chapter 04, "windows, EDGE and a tie": positions 40 to 44. -/
theorem test_peaks : [[41, 188, 402, 395, 97], [60, 130, 250, 310, 318], [12, 300, 300, 88, 20],
      [9, 22, 24, 17, -3], [-8, -2, -11, -6, -15]].map
        (fun amps => let p := peakOf (List.zip [-2, -1, 0, 1, 2] amps)
          (p.1, p.2, edgeFlag 5 p.1, qualifies p.2 24)) =
    [(0, 402, false, true), (2, 318, true, true), (-1, 300, false, true), (0, 24, false, false),
     (-1, -2, false, false)] := by decide +kernel

/-- Chapter 04, "a patrol in three passes": cells 0 to 2, 12 to 15 and 60 to 63 of the third pass. -/
theorem test_allocation :
    let cells := measureCells 8191 3 8100 [(41, 2360), (42, 2418), (43, 2477), (44, 2535), (45, 2594)]
    [0, 1, 2, 12, 13, 14, 15, 60, 63].map (fun i =>
      let c := tableGet cells i Cell.cleared
      (c.role, c.position, c.offset, c.lag)) =
    [(.echo, some 41, -1, 2359), (.echo, some 41, 0, 2360), (.echo, some 41, 1, 2361),
     (.echo, some 45, -1, 2593), (.echo, some 45, 0, 2594), (.echo, some 45, 1, 2595),
     (.idle, none, 0, 0), (.quiet, none, 0, 8100), (.quiet, none, 0, 8103)] := by decide +kernel

/-- Chapter 04, "a short survey block": snr_q 16. -/
theorem test_survey_block :
    let amps : List Int := [4, -3, 6, 5, 61, 88, 88, 20, -2, 3, 9, 7]
    let thr := threshold (blockNoise amps) 16
    thr = 48 ∧ candidatesFrom thr none (List.zip (List.range' 200 12) amps) = [⟨206, 88⟩] := by
  decide +kernel

def pattern (levels : List (Option Nat)) (e : SigEntry) : List (SigState × Option Nat × Nat × Nat × Option Int) :=
  ((levels.foldl (fun (u : SigEntry × List (SigState × Option Nat × Nat × Nat × Option Int)) v =>
    let r : EchoRecord := ⟨17, none, 0, 0, v, none, .pending, none, false, false, 0⟩
    let e := (sigStep .update { Params.default with driftN := 3 } false u.1 r).1
    (e, u.2 ++ [(e.state, e.base, e.learn, e.drift, e.lastDev)])) (e, []))).2

/-- Chapter 05, "one position through learning, tracking, drift and relearn": steps 1 to 11. -/
theorem test_signature_sequence :
    pattern [some 2180, some 2171, none, some 2183, some 2175, some 2181, some 2172, some 2155, some 2150,
      some 2100, some 2152] SigEntry.powerOn =
    [(.learning, some 2180, 1, 0, none), (.learning, some 2176, 2, 0, none),
     (.learning, some 2176, 2, 0, none), (.learning, some 2178, 3, 0, none),
     (.tracking, some 2177, 4, 0, none), (.tracking, some 2179, 4, 0, some 4),
     (.tracking, some 2177, 4, 0, some (-7)), (.tracking, some 2177, 4, 1, some (-22)),
     (.tracking, some 2177, 4, 2, some (-27)), (.tracking, some 2177, 4, 2, some (-77)),
     (.tracking, some 2177, 4, 0, some (-25))] := by decide +kernel

def valid (first : Nat) (devs : List Int) : List EchoRecord :=
  (List.zip (List.range' first devs.length) devs).map (fun kd =>
    ⟨kd.1, none, 0, 100, some 2000, some kd.2, .valid, none, false, false, 0⟩)

def lost (k : Nat) : EchoRecord := ⟨k, none, 0, 0, none, none, .lost, none, false, false, 0⟩

/-- Chapter 06, "a step and a spike on pair 5", first pass. -/
theorem test_step_and_spike :
    classify 50 1 45 SigEntry.powerOn (valid 1 [2, -1, 3, 0, -64, -61, -66, -63, -140, -63, -62, -65]) =
    List.replicate 4 (none, none) ++ [(some .gainStep, some (-64))] ++ List.replicate 3 (none, none) ++
      [(some .loopback, some (-77))] ++ List.replicate 3 (none, none) := by decide +kernel

/-- Chapter 06, the confirmation pass, with the stored deviation of position 2. -/
theorem test_confirmation_pass :
    classify 50 3 45 { SigEntry.powerOn with state := .tracking, base := some 2000, lastDev := some (-1) }
      (valid 3 [1, -2, -63, -60, -65, -64, -138, -62, -63]) =
    [(none, none), (none, none), (some .gainStep, some (-61)), (none, none), (none, none), (none, none),
     (some .loopback, some (-74)), (none, none), (none, none)] := by decide +kernel

/-- The examples of R98: a BREAK at span 45, an ECHO_LOSS at 40, and a suppressed BREAK. -/
theorem test_break_examples :
    (classify 50 41 45 SigEntry.powerOn (valid 41 [0, 0, 0, 0] ++ [lost 45])).getLast? =
      some (some .break_, none) ∧
    (classify 50 21 45 SigEntry.powerOn (valid 21 (List.replicate 19 0) ++ [lost 40])).getLast? =
      some (some .echoLoss, none) ∧
    classify 50 41 45 { SigEntry.powerOn with lastLevel := .lost }
      [lost 41, lost 42, lost 43, lost 44, lost 45] = List.replicate 5 (none, none) := by decide +kernel

/-- Chapter 08, "one word and its reply". -/
theorem test_reply :
    let slots := (List.zip (List.range 10) ([412, 203, 199, 208, 201, 415, 409, 411, 207, 418] : List Int)).map
      (fun je => (⟨je.1, je.2, 0, false, 0, true⟩ : SlotResult))
    readReply slots = some ⟨true, true, true, 2⟩ ∧
      judgeWord .word1 true (readReply slots) = .succeeded := by decide +kernel

/-- Chapter 08: exchange 1 of the worked trim is unreadable; slot units are 31; slot 0 starts 3023.6 ms
after the word end, that is 302,360 chips of 10 µs. -/
theorem test_slot_figures :
    readable ⟨0, 30, 0, false, 0, true⟩ ⟨1, 28, 0, false, 0, true⟩ = false ∧
    slotUnitsAt ⟨13, 1, 0⟩ 2 = 31 ∧ slotStartChip 2360 10 31 0 = 302360 := by decide +kernel

/-! ### One step of some commands -/

/-- R173: vendor 76, part 1622, revision 1, the port, TENANT, body of 8 bytes, OK. -/
theorem test_identify : answer 3 (.identify 3) demo = [1, 0, 8, 76, 6, 86, 1, 3, 2, 2, 0] := by decide +kernel

/-- R180, R49: job 1 is the start-up calibration; with its strap low, port 0 is a tenant. -/
theorem test_power_on :
    let s := after (.powerOn 0#4) demo
    s.sched.jobs = [Job.startUp] ∧ (s.port 0).role = .tenant ∧
      (after (.powerOn 1#4) demo).ports = State.reset.ports := by decide +kernel

/-- Chapter 01, "building and handing over a route": pair 3 with the entries of step 5, housing 6 absent. -/
def building (lag2 lag3 : Nat) : State :=
  let s := demo.setPair 3 (fun p => { p with
    profile := ⟨13, 1, 180⟩, quietBase := 8187
    route := [⟨1, 59⟩, ⟨2, lag2⟩, ⟨3, lag3⟩, ⟨5, 236⟩, ⟨6, 295⟩] })
  s.setHousing 5 (fun h => { h with presence := .present })

/-- Step 2: OK, ADJUSTED, quiet base 8187 (the body as used: 3, 13, 1, 180, 8187). -/
theorem test_route_open_adjusted :
    answer 0 (.routeOpen 0 3#8 13#8 1#8 180#8 9000#16) demo = [129, 0, 6, 3, 13, 1, 180, 31, 251] := by
  decide +kernel
/-- Step 4: INVALID with N = 3, for a first position of 5. -/
theorem test_route_entries_first : answer 0 (.routeEntries 0 3#8 5#8 [(6#8, 295#16)]) demo = [5, 0, 1, 3] := by
  decide +kernel
/-- Steps 6, 8 and 10: LAG_ORDER at position 3, ABSENT_HOUSING at position 5, then OK with N = 5. -/
theorem test_route_close_refused :
    answer 0 (.routeClose 0 3#8) (building 178 118) =
      [5, 0, 2, BitVec.ofNat 8 (routeFailureCode .lagOrder), 3] ∧
    answer 0 (.routeClose 0 3#8) (building 118 178) =
      [5, 0, 2, BitVec.ofNat 8 (routeFailureCode .absentHousing), 5] := by decide +kernel
theorem test_route_close :
    let s := (building 118 178).setHousing 6 (fun h => { h with presence := .present })
    answer 0 (.routeClose 0 3#8) s = [1, 0, 1, 5] ∧
      ((after (.routeClose 0 3#8) s).pair 3).state = .routed := by decide +kernel
/-- Steps 12 and 13: the housing is held at position 4 of pair 3, and port 1 may not read the route. -/
theorem test_held_housing :
    answer 0 (.writeHousing 0 5#8 1#8) (building 118 178) = [5, 0, 2, 3, 4] ∧
      answer 1 (.readRoute 1 3#8 1#8 48#8) (building 118 178) = [3, 0, 0] := by decide +kernel

/-- Chapter 11, "worked self-test": SYNTH_DEFINE is OK, and the grant arms cells 0 to 2 at lags 99 to 101
and cell 60 at 2000, settling toward 16. -/
theorem test_synth_define :
    answer 0 (.synthDefine 0 11#8 2000#16 8200#16 0#16 1#16 1#8
      [(100#16, 600#16), (160#16, 300#16), (230#16, 150#16)]) demo =
      [1, 0, 23, 11, 7, 208, 32, 8, 0, 0, 0, 1, 1, 3, 0, 100, 2, 88, 0, 160, 1, 44, 0, 230, 0, 150] := by
  decide +kernel
theorem test_submit_synth :
    let s := after (.submitSynth 0 2#8 3#8 0#8) { demo with
      seq := { demo.seq with state := .steady, position := 0, current := some (0, ⟨11, 0, 9⟩) }
      synth := ⟨some ⟨11, 2000, 8200, 0, 1, .fixed, [⟨100, 600⟩, ⟨160, 300⟩, ⟨230, 150⟩]⟩, 0#16⟩ }
    s.seq.state = .settling ∧ s.seq.position = 16 ∧ s.seq.settleEnd = 50 ∧ s.corr.state = .armed ∧
      [0, 1, 2, 3, 60].map (fun i => (tableGet s.corr.cells i Cell.cleared).lag) =
        [99, 100, 101, 159, 2000] := by decide +kernel

/-- R39: with clip_limit 64, 65 clips are OVERDRIVE and 64 are not. -/
theorem test_overdrive :
    let rec65 : PassRecord := ⟨1, some 0, .patrol, false, 1, 3, 11, 0, 3, 8192, Params.default, 65, 1⟩
    isOverdrive rec65 = true ∧ isOverdrive { rec65 with clips := 64 } = false := by decide +kernel

/-- Chapter 08, "a trim from an unknown toggle": -150 goes out as 255 and 106; the prefix of exchange 2
succeeds on T = 0 and A = 1; exchange 4, with A = 0, is a retry. -/
theorem test_trim_words :
    wordArgument .word1 .trimGain (BitVec.ofInt 16 (-150)) = 255 ∧
      wordArgument .word2 .trimGain (BitVec.ofInt 16 (-150)) = 106 ∧
      wordMore .word1 .trimGain = true ∧ wordMore .word2 .trimGain = false ∧
      judgeWord .nopPrefix false (some ⟨false, true, true, 0⟩) = .succeeded ∧
      judgeWord .word2 false (some ⟨false, false, true, 0⟩) = .retry := by decide +kernel

/-- R178: no request is taken on a port held in reset; after the release PORT_READY alone is pending. -/
theorem test_port_reset :
    let s := after (.portReset 2) demo
    answer 2 (.identify 2) s = [] ∧
      ((after (.portResetRelease 2 true) s).port 2).pendingSet = 0x800#12 := by decide +kernel

/-- Bytes clocked on a port, CS_N rising after them where said. -/
def clocked (p : Port) (mosi : List Byte) (rise : Bool) (s : State) : State :=
  after (.responseReadOut p ⟨mosi, rise⟩) s

/-- The state after a step on an empty queue. -/
def idled (s : State) : State :=
  match step s with
  | .next t => t
  | .fault _ => s
  | .refused _ => s

/-- R18, R168: READ_STATUS is taken as its frame ends, so its response holds the line time of that moment,
whatever comes before it is read; the port reads it after HANDLING. -/
theorem test_taken_on_entry_to_handling :
    let s := after .lineTimeTick (clocked 3 [2, 0, 0] true (millis 7 demo))
    let t := clocked 3 (List.replicate 9 0) false (idled s)
    (s.port 3).frame = .handling ∧ ((clocked 3 [0, 0] true s).port 3).miso = [0, 0] ∧
      s.lineTime = 8 ∧ (t.port 3).miso = [1, 0, 42, 0, 0, 0, 0, 0, 7] := by decide +kernel

/-- R168, R169: IDENTIFY arrives byte by byte, is taken, and its 11 bytes are read in the next CS_N period. -/
theorem test_frame_in_response_out :
    let s := clocked 3 [1, 0, 0] true demo
    let t := clocked 3 (List.replicate 12 0) true (idled s)
    (s.port 3).frame = .handling ∧ ((idled s).port 3).frame = .responding ∧
      (t.port 3).miso = [1, 0, 8, 76, 6, 86, 1, 3, 2, 2, 0, 0] ∧ (t.port 3).frame = .idle := by
  decide +kernel

/-- R168: a frame that CS_N cuts short and one that declares 513 bytes are answered MALFORMED; a CS_N period
begun with a zero byte is ignored. -/
theorem test_frames_cut_short :
    ((idled (clocked 3 [4, 0, 2, 8] true demo)).port 3).response = [10, 0, 0] ∧
    ((idled (clocked 3 [4, 2, 1] false demo)).port 3).response = [10, 0, 0] ∧
    ((clocked 3 [0, 1, 0, 0] true demo).port 3).frame = .idle := by decide +kernel

/-- R23: power-on with the switch at pair 0 moves it to 16 with one strobe pulse, and at 16 with none. -/
theorem test_power_on_strobe :
    (after (.powerOn 1#4) { demo with seq := { demo.seq with position := 0, strobes := 4 } }).seq.strobes = 5 ∧
    (after (.powerOn 1#4) demo).seq.strobes = demo.seq.strobes := by decide +kernel

/-- R172, R174: wide is named and then moved by the final clamp, and the copy shows the 100 it was carried out
with; a wide that is not named has no entry to show it in. -/
theorem test_set_params_copy :
    (answer 0 (.setParams 0 [(4, 50), (3, 100)]) demo).reverse.take 7 = [100, 0, 3, 100, 0, 4, 2] ∧
      (answer 0 (.setParams 0 [(4, 50), (3, 100)]) demo).head? = some 129 ∧
      (answer 0 (.setParams 0 [(3, 100)]) demo).reverse.take 4 = [100, 0, 3, 1] ∧
      (after (.setParams 0 [(3, 100)]) demo).params.wide = 100 := by decide +kernel

/-- R11: the lowest position that fails is named with its first reason, before the quiet lags. -/
theorem test_route_refused :
    let close := fun (l : List RouteEntry) => (answer 0 (.routeClose 0 3)
      (demo.setPair 3 (fun p => { p with route := l }))).drop 3
    close [] = [1, 0] ∧ close [⟨1, 10⟩, ⟨9, 5⟩, ⟨1, 4⟩] = [2, 2] ∧ close [⟨1, 10⟩, ⟨1, 5⟩] = [3, 2] ∧
      close [⟨1, 10⟩, ⟨2, 10⟩] = [4, 2] ∧ close [⟨1, 2000⟩] = [5, 1] := by decide +kernel

/-- R18: the millisecond moves line time by one. -/
theorem test_tick : (after .lineTimeTick demo).lineTime = 1 := by decide +kernel

/-! ### States that meet the hypotheses of the statements -/

/-- The law of R115 and R117 for one job, as a check. -/
def kindOk (j : Job) : Bool :=
  decide (j.cmd.isSome = true ↔ j.kind = .command) &&
  match j.kind with
  | .patrol => decide (j.requester = .internal) && j.pair.isSome
  | .confirm => decide (j.requester = .internal)
  | .dark => true
  | .measure | .survey | .command | .synth => decide (j.requester ≠ .internal)

theorem kindLaw_of_kindOk (j : Job) (h : kindOk j = true) : j.kindLaw := by
  unfold kindOk at h
  unfold Job.kindLaw
  cases hk : j.kind <;> simp_all

theorem jobsLaw_of_checks (s : State) (hk : s.sched.jobs.all kindOk = true)
    (h : (s.sched.jobs.map Job.number).Nodup ∧
      (∀ j ∈ s.sched.jobs, 1 ≤ j.number ∧ j.number ≤ 255) ∧ (∀ p : Port, s.portSlotsUsed p ≤ 4) ∧
      s.serviceSlotsUsed ≤ 8 ∧
      (∀ p : PairNo, s.sched.jobs.countP (fun j => j.kind = .patrol && j.pair = some p) ≤ 1) ∧
      s.sched.jobs.countP (fun j => j.state = .active) ≤ 1) : JobsLaw s :=
  ⟨h.1, h.2.1, fun j hj => kindLaw_of_kindOk j (List.all_eq_true.mp hk j hj), h.2.2⟩

/-- Ports 2 and 3 hold a frame in HANDLING. -/
def hearing : State :=
  clocked 3 [1, 0, 0] true (clocked 2 [2, 0, 0] true demo)

theorem witness_StepTakesFrontCommand :
    (demo.withPending [.lineTimeTick]).pending = .lineTimeTick :: [] ∧ demo.pending = [] ∧
      (∀ p : Port, (demo.port p).frame ≠ .handling) ∧ hearing.pending = [] ∧
      (hearing.port 2).frame = .handling ∧ (hearing.port 3).frame = .handling := by decide +kernel

/-- A command carries itself, and the bytes that end a frame carry its request. -/
theorem test_carried :
    carried (.routeClose 0 3#8) demo = .routeClose 0 3#8 ∧
    carried (.responseReadOut 0 ⟨[4], false⟩) demo = .responseReadOut 0 ⟨[4], false⟩ ∧
    carried (.responseReadOut 3 ⟨[1, 0, 0], false⟩) demo = .identify 3 ∧
    carried (.responseReadOut 0 ⟨[30, 0, 3, 3, 1, 1], true⟩) demo = .assign 0 3#8 (some 1#8) := by
  decide +kernel

theorem witness_PairRecordWriters :
    ∀ c ∈ [Instr.routeClose 0 3#8, .assign 0 3#8 (some 1#8), .responseReadOut 3 ⟨[1, 0, 0], false⟩,
        .responseReadOut 0 ⟨[30, 0, 3, 3, 1, 1], true⟩],
      (∃ t, exec c demo = .next t) ∧ (∀ b, c ≠ .powerOn b) ∧
        (∀ a b o h d q, carried c demo ≠ .routeOpen a b o h d q) ∧
        (∀ a b f l, carried c demo ≠ .routeEntries a b f l) ∧
        ((∀ a b o, carried c demo ≠ .assign a b o) ∨ (∀ a b, carried c demo ≠ .routeClose a b)) := by
  have h := test_carried
  simp only [List.mem_cons, List.not_mem_nil, or_false, forall_eq_or_imp, forall_eq]
  refine ⟨⟨⟨_, rfl⟩, nofun, ?_⟩, ⟨⟨_, rfl⟩, nofun, ?_⟩, ⟨?_, nofun, ?_⟩, ⟨?_, nofun, ?_⟩⟩
  · rw [h.1]; exact ⟨nofun, nofun, .inl nofun⟩
  · exact ⟨nofun, nofun, .inr nofun⟩
  · exact ⟨_, rfl⟩
  · rw [h.2.2.1]; exact ⟨nofun, nofun, .inl nofun⟩
  · exact ⟨_, rfl⟩
  · rw [h.2.2.2]; exact ⟨nofun, nofun, .inr nofun⟩

theorem witness_SettingsWriters :
    ∀ c ∈ [Instr.lineTimeTick, .responseReadOut 3 ⟨[1, 0, 0], false⟩],
      (∃ t, exec c demo = .next t) ∧ (∀ b, c ≠ .powerOn b) ∧ (∀ a l, carried c demo ≠ .setParams a l) ∧
        (∀ a b f, carried c demo ≠ .freeze a b f) ∧ (∀ a v, carried c demo ≠ .setDarkModeManual a v) ∧
        c ≠ .darkSamplingEnd ∧ (∀ p b, c ≠ .portResetRelease p b) ∧
        (∀ a b d e f g h i, carried c demo ≠ .synthDefine a b d e f g h i) := by
  simp only [List.mem_cons, List.not_mem_nil, or_false, forall_eq_or_imp, forall_eq]
  rw [test_carried.2.2.1]
  exact ⟨⟨⟨_, rfl⟩, nofun, nofun, nofun, nofun, nofun, nofun, nofun⟩,
    ⟨_, rfl⟩, nofun, nofun, nofun, nofun, nofun, nofun, nofun⟩

def aDef : SynthDef := ⟨11, 2000, 8200, 0, 1, .fixed, [⟨100, 600⟩, ⟨160, 300⟩, ⟨230, 150⟩]⟩

theorem witness_EngineResetClearsWork :
    let s := { demo.setPatrol 0 (fun t => { t with interval := 1 }) with synth := ⟨some aDef, 0#16⟩ }
    s.canTake 0 = true ∧ (s.port 0).role = .station ∧ (s.pair 0).state = .routed ∧
      s.sched.patrols[(0 : PairNo)].interval ≠ 0 ∧ s.synth.defn = some aDef ∧
      s.intake.darkState ≠ .uncalibrated ∧ State.reset.intake.darkState = .uncalibrated := by
  decide +kernel

theorem witness_PortResetAndRelease :
    let s := (withJobs [aJob 7 (.port 1) .measure .routine .suspended] demo).setResults 1
      (fun l => { l with job := some 7, kind := some .measure, state := .filling })
    (s.port 1).prstLow = false ∧ (s.port 2).prstLow = false ∧ (s.sched.results[(1 : Port)]).job = some 7 ∧
      (s.sched.results[(1 : Port)]).state = .filling ∧
      (∃ j ∈ s.sched.jobs, j.requester = .port 1 ∧ j.state ≠ .active ∧
        (s.sched.results[(1 : Port)]).job = some j.number) ∧
      ¬ (∃ j ∈ s.sched.jobs, j.requester = .port 2 ∧ j.state ≠ .active ∧
        (s.sched.results[(2 : Port)]).job = some j.number) ∧
      (demo.sched.results[(1 : Port)]).state ≠ .filling ∧
      ((after (.portReset 2) demo).port 2).prstLow = true ∧
      (after (.portReset 2) demo).canTake 2 = false := by decide +kernel

/-- An URGENT job of port 1 that is SUSPENDED, and ROUTINE jobs of port 2 and of the part itself. -/
def queue : State :=
  withJobs [aJob 4 (.port 2) .measure .routine .queued, aJob 5 (.port 1) .measure .urgent .suspended,
            aJob 6 .internal .patrol .routine .queued] demo

theorem witness_ArbiterChoosesByClassRotationAge :
    chooseJob queue = some (aJob 5 (.port 1) .measure .urgent .suspended) ∧
    chooseJob (withJobs [aJob 4 (.port 2) .measure .routine .queued,
                         aJob 6 .internal .patrol .routine .queued] demo) =
      some (aJob 4 (.port 2) .measure .routine .queued) ∧
    (∀ k ∈ queue.sched.jobs, eligible queue.seq.faultHold k = true) ∧ demo.eligibleJobs = [] := by
  decide +kernel

/-- A ROUTINE MEASURE job of port 1 is ACTIVE with `n` preemptions, and its list is FILLING. -/
def running (n : Nat) : State :=
  (withJobs [{ aJob 7 (.port 1) .measure .routine .active with preempts := n, everActive := true }]
    demo).setResults 1 (fun l => { l with job := some 7, kind := some .measure, state := .filling })

theorem witness_EndedJobIsReported :
    ((running 0).job? 7).map Job.requester = some (.port 1) ∧
    ((running 0).sched.results[(1 : Port)]).job = some 7 ∧
    ((running 0).sched.results[(1 : Port)]).state = .filling ∧
    (queue.job? 6).map Job.requester = some .internal := by decide +kernel

theorem witness_NoticesAreReadAndCleared : demo.canTake 3 = true := by decide +kernel
theorem witness_MaskDrivesAttentionLine : demo.canTake 0 = true ∧ 11 < 12 ∧
    attention ((after (.setNoticeMask 0 0x800#16) demo).port 0) = true := by decide +kernel

theorem witness_SetParamsWritesOneParameter :
    demo.canTake 0 = true ∧ (demo.port 0).role = .station ∧ ParamsLaw demo.params ∧
      (0#8).toNat ≤ 18 ∧ (18#8).toNat ≤ 18 ∧ (3#8).toNat ≠ 4 ∧ demo.params.wide < 100 := by
  unfold ParamsLaw; decide +kernel

theorem witness_ReadOutShiftsResponse :
    let s := after (.identify 0) demo
    let cut := clocked 3 [4, 0] false demo
    (s.port 0).frame = .responding ∧ (s.port 0).prstLow = false ∧ (s.port 0).response.length = 11 ∧
      (s.port 0).csLow = false ∧ ([0#8, 9#8] : List Byte).head? = some 0#8 ∧ (s.port 0).response ≠ [] ∧
      (demo.port 0).frame = .idle ∧ (demo.port 0).csLow = false ∧
      (hearing.port 2).frame = .handling ∧ ((after (.portReset 2) demo).port 2).prstLow = true ∧
      ¬ (∀ b, ([4#8, 0#8] : List Byte).head? = some b → b = 0#8) ∧
      (cut.port 3).frame = .receiving ∧ (cut.port 3).csLow = true ∧ (cut.port 3).received = [4#8, 0#8] ∧
      (clocked 3 [4, 0, 2] false demo).port 3 = { cut.port 3 with received := [4, 0, 2], miso := [0, 0, 0] } ∧
      3 + (2#8).toNat = 5 ∧ 512 < (2#8).toNat * 256 + (1#8).toNat ∧
      ((clocked 3 [8, 0] false cut).port 3).frame = .receiving ∧
      ((clocked 3 [2, 8, 0, 9] false cut).port 3).mask = 0x800#12 ∧
      ((clocked 3 [2, 8] true cut).port 3).response = [10, 0, 0] := by decide +kernel

theorem witness_RequestFramesRoundTrip :
    let i := Instr.writeSignature 1 5#8 41#8 (List.replicate 254 0#16)
    i.wellFormed = true ∧ i.requestPort = some 1 ∧ (requestFrame i).isSome = true ∧
      (∀ fr, i ≠ .frameMalformed fr) ∧ decodeFrame ⟨3, [1, 0, 0]⟩ = some (.identify 3) ∧
      ([0#8] : List Byte).head? = some 0#8 ∧ 36 < (37#8).toNat :=
  ⟨by decide +kernel, by decide, by decide +kernel, nofun, by decide +kernel, by decide, by decide⟩

theorem witness_MalformedDeniedOrLostChangesNothing :
    demo.canTake 0 = true ∧ ([] : List Byte).head? = none ∧ ([0#8, 1#8] : List Byte).head? = some 0#8 ∧
      decodeFrame ⟨0, [1, 0, 0]⟩ ≠ none ∧ [4#8].head? ≠ some 0#8 ∧ [4#8, 0#8].length ≤ 2 ∧
      512 < (2#8).toNat * 256 + (1#8).toNat ∧ ([] : List Byte).length < 1 ∧ 36 < (37#8).toNat ∧
      (1#8).toNat = 1 ∧ 1 ≠ 0 ∧ (4 < 5 ∧ 10 < 11) ∧ (2 ≠ 1 ∧ 2 ≠ 3) ∧
      ([5#8, 41#8, 3#8] : List Byte)[2]? = some 3#8 ∧ 7 ≠ 3 + 2 * (3#8).toNat ∧
      1 < (2#8).toNat ∧ 5 < (List.replicate 6 0#8).length ∧
      5 < (6#8).toNat ∧ (0#8).toNat = 0 ∧ 2 < (3#8).toNat ∧ ([] : List Half).length = 0 ∧
      48 < (List.replicate 49 0#16).length ∧ 19 < (List.replicate 20 (0#8, 0#16)).length ∧
      18 < (19#8).toNat ∧ 8 < (List.replicate 9 (0#16, 0#16)).length ∧
      (Instr.readFaultLog 2).requestPort = some 2 ∧ (Instr.readFaultLog 2).stationRequest = true ∧
      demo.canTake 2 = true ∧ (demo.port 2).role = .tenant ∧
      ((after (.portReset 2) demo).port 2).prstLow = true := by decide +kernel

/-- Four slots of port 1 and eight service slots are in use. -/
def crowded : State :=
  withJobs ((List.range' 1 4).map (fun n => aJob n (.port 1) .measure .routine .queued) ++
    (List.range' 5 8).map (fun n => aJob n .internal .dark .urgent .queued)) demo

theorem witness_RefusedRequestsChangeNothing :
    demo.canTake 3 = true ∧ (0#8).toNat = (0 : PairNo).val ∧ (demo.pair 0).owner ≠ some 3 ∧
      (demo.port 3).role = .tenant ∧ (demo.pair 0).owner ≠ none ∧ (demo.pair 0).owner ≠ some 0 ∧
      (demo.port 0).role = .station ∧
      (1#8).toNat ≤ 1 ∧ (1 ≤ (1#8).toNat ∧ (192#8).toNat ≤ 192) ∧ (2#8).toNat = 2 ∧
      (1 ≤ [0#16].length ∧ (List.replicate 48 0#16).length ≤ 48) ∧ (5#8).toNat ≤ 5 ∧
      crowded.canTake 1 = true ∧ 4 ≤ crowded.portSlotsUsed 1 ∧ (crowded.pair 0).owner = some 1 ∧
      (crowded.pair 0).state = .routed ∧ ownerOrStation crowded 1 0 = true ∧
      8 ≤ crowded.serviceSlotsUsed ∧ (crowded.port 0).role = .station := by decide +kernel

/-- Three slots of port 1 and seven service slots are in use. -/
def nearlyCrowded : State :=
  withJobs ((List.range' 1 3).map (fun n => aJob n (.port 1) .measure .routine .queued) ++
    (List.range' 5 7).map (fun n => aJob n .internal .dark .urgent .queued)) demo

theorem witness_MeasurementIsAccepted :
    let s := nearlyCrowded
    s.canTake 1 = true ∧ (0#8).toNat = (0 : PairNo).val ∧ (s.pair 0).owner = some 1 ∧
      (s.pair 0).state = .routed ∧ 1 ≤ (s.pair 0).n ∧ s.portSlotsUsed 1 < 4 ∧ s.portSlotsUsed 1 = 3 ∧
      (1#8).toNat ≤ 1 ∧ (0#8).toNat ≤ 1 := by decide +kernel

theorem witness_SurveyIsAccepted :
    let s := nearlyCrowded
    s.canTake 1 = true ∧ s.canTake 0 = true ∧ (3#8).toNat = (3 : PairNo).val ∧
      (s.pair 0).owner = some 1 ∧ (s.port 0).role = .station ∧ (s.pair 3).state ≠ .unrouted ∧
      s.portSlotsUsed 1 < 4 ∧ s.portSlotsUsed 0 < 4 ∧ (1#8).toNat ≤ 1 := by decide +kernel

theorem witness_DarkAndSelfTestAreAccepted :
    let s := { nearlyCrowded with synth := ⟨some aDef, 0#16⟩ }
    s.canTake 0 = true ∧ (s.port 0).role = .station ∧ s.serviceSlotsUsed < 8 ∧
      s.serviceSlotsUsed = 7 ∧ s.synth.defn = some aDef ∧ s.portSlotsUsed 0 < 4 ∧ (1#8).toNat ≤ 1 ∧
      demo.synth.defn = none := by decide +kernel

/-- Pair 1 has the owner of pair 0, or pair 0 has the slowest profile. -/
def oneOwner : State := demo.setPair 1 (fun p => { p with owner := some 1 })
def slowest : State := demo.setPair 0 (fun p => { p with profile := ⟨15, 4, 0⟩ })

theorem witness_CommandIsAccepted :
    (List.replicate 5 0#8).length ≤ 5 ∧
    oneOwner.canTake 1 = true ∧ (0#8).toNat = (0 : PairNo).val ∧ (1 ≤ (1#8).toNat ∧ (3#8).toNat ≤ 192) ∧
      (oneOwner.pair 0).owner = some 1 ∧ (oneOwner.pair 0).state = .routed ∧
      (oneOwner.pair 0).positionOf (3#8).toNat = some 3 ∧ opcodeOf (2#8).toNat = some .selectPump ∧
      opcodeOf (7#8).toNat = some .queryTemp ∧ (1#8).toNat ≤ 1 ∧
      slotUnitsAt (oneOwner.pair 0).profile 0 ≤ 255 ∧ oneOwner.portSlotsUsed 1 < 4 ∧
      sharedEffect .queryTemp = false ∧ (oneOwner.pair (partner 0)).owner = some 1 ∧
      255 < slotUnitsAt (slowest.pair 0).profile 0 := by decide +kernel

def fourRecords : State :=
  let open4 := (List.range' 20 4).map (fun n => (⟨n, 3, 2, 4, 1, .selectPump, 1#16, 0⟩ : ConcurRec))
  { demo with channel := { demo.channel with concur := open4 } }

theorem witness_SharedCommandAsksConcurrence :
    demo.canTake 1 = true ∧ (demo.pair 0).owner = some 1 ∧ (demo.pair 0).state = .routed ∧
      (demo.pair 0).positionOf (1#8).toNat = some 1 ∧ opcodeOf (6#8).toNat = some .trimGain ∧
      (0#8).toNat ≤ 1 ∧ slotUnitsAt (demo.pair 0).profile 0 ≤ 255 ∧ demo.portSlotsUsed 1 < 4 ∧
      sharedEffect .trimGain = true ∧ (demo.pair (partner 0)).owner = some 2 ∧ (2 : Port) ≠ 1 ∧
      demo.channel.concur.length < 4 ∧ 4 ≤ fourRecords.channel.concur.length ∧
      fourRecords.canTake 1 = true := by decide +kernel

/-- A SELECT_PUMP command to housing 2 with the partner owner's consent, before its first word. -/
def aCmd : CommandFields :=
  { housing := 2, opcode := .selectPump, argument := 2#16, verifySpan := 1, r := 0, slotUnits := 2
    basis := .given, askedPort := some 2, next := .word .word1, wordStarted := false, completed := false
    reply := [] }

def cmdJob (number : Nat) (st : JobState) (c : CommandFields) : Job :=
  { aJob number (.port 1) .command .routine st with cmd := some c, range := some (2, 2) }

/-- The job's record on the concurrence table, and its answer standing out until `deadline`. -/
def waiting (deadline : Nat) : State :=
  let s := withJobs [cmdJob 8 .waitConcur { aCmd with basis := .asked }] demo
  { s with channel := { s.channel with concur := [⟨8, 1, 2, 0, 2, .selectPump, 2#16, deadline⟩] } }

theorem concurLaw_of_one (s : State) (r : ConcurRec) (j : Job) (hc : s.channel.concur = [r])
    (hj : s.sched.jobs = [j]) (h : j.number = r.job ∧ j.state = .waitConcur ∧
      j.requester = .port r.requester ∧ j.pair = some r.pair) : ConcurLaw s := by
  simp [ConcurLaw, hc, hj, h]

theorem witness_ReadsAnswerAndChangeNothing :
    let s := demo.setResults 1 (fun l => { l with body := .candidates [⟨206, 88⟩] })
    (s.canTake 0 = true ∧ s.canTake 1 = true ∧ (s.port 0).role = .station ∧ (s.port 1).role = .tenant ∧
      (s.sched.results[(0 : Port)]).body = .echoes [] ∧
      (s.sched.results[(1 : Port)]).body = .candidates [⟨206, 88⟩] ∧
      ((0#8).toNat < 1 ∧ (24#8).toNat ≤ 24 ∧ 24 < (25#8).toNat ∧ (96#8).toNat ≤ 96 ∧
        96 < (97#8).toNat) ∧
      (0#8).toNat = (0 : PairNo).val ∧ (s.pair 0).owner = some 1 ∧
      (15#8).toNat = (15 : PairNo).val ∧ (s.pair 0).state = .routed ∧ 1 ≤ (s.pair 0).n ∧
      (1 ≤ (1#8).toNat ∧ (192#8).toNat ≤ 192) ∧ ((31#8).toNat ≤ 31 ∧ 31 < (32#8).toNat) ∧
      (∃ p, (s.pair p).owner = some 1 ∧ ∃ e ∈ (s.pair p).route, e.housing = (1#8).toNat) ∧
      (∀ p, (s.pair p).owner = some 1 → ∀ e ∈ (s.pair p).route, e.housing ≠ (192#8).toNat)) ∧
    JobsLaw (waiting 5) ∧ ConcurLaw (waiting 5) :=
  ⟨by decide +kernel, jobsLaw_of_checks _ (by decide +kernel) (by decide +kernel),
    concurLaw_of_one _ _ _ rfl rfl (by decide)⟩

/-- Word 1 of the job's command is being sent on pair 0. -/
def sending : State :=
  let s := withJobs [cmdJob 8 .active { aCmd with wordStarted := true }] demo
  { s with
    seq := { s.seq with state := .tone, position := 0, current := some (0, ⟨11, 0, 9⟩), toneStart := 8 }
    channel := { s.channel with exchange := { Exchange.none with
      phase := .sending, job := 8, word := .word1, toggle := true, tries := 1 } } }

/-- Its exchange stands decided, with an outcome, at its end. -/
def decided (o : WordOutcome) (c : CommandFields) : State :=
  let s := withJobs [cmdJob 8 .active c] sending
  { s with
    seq := { s.seq with state := .steady, running := true, runChips := 900000, genOrder := 11 }
    channel := { s.channel with exchange := { s.channel.exchange with
      phase := .decided, outcome := some o, endChip := 900000 } } }

def aRecord (kind : PassKind) (first last : Nat) : PassRecord :=
  { job := 7, pair := some 0, kind := kind, track := true, first := first, last := last, order := 11
    q := 0, w := 3, offset := 8192, params := Params.default, clips := 0, periodsLeft := 1 }

/-- A pass of job 7 in its last period on pair 0, its last boundary standing. -/
def passing : State :=
  let s := running 0
  { s with
    seq := { s.seq with
      state := .steady, position := 0, current := some (0, ⟨11, 0, 9⟩), running := true
      runChips := 4094, gen := chipSeed 11 }
    corr := { s.corr with state := .accumulate, pass := some (aRecord .measure 1 3) } }

def endedJob (o : JobOutcome) : Job :=
  { cmdJob 9 .ended { aCmd with basis := .asked } with outcome := some o }

theorem witness_CancelActsByState :
    demo.canTake 1 = true ∧ demo.job? (9#8).toNat = none ∧
      (queue.job? 4).map Job.requester = some (.port 2) ∧
      (queue.job? 4).map Job.state = some .queued ∧ (queue.job? 5).map Job.state = some .suspended ∧
      (crowded.job? 5).map Job.kind = some .dark ∧
      ((withJobs [aJob 3 (.port 0) .dark .urgent .ended] demo).job? 3).map Job.state = some .ended ∧
      ((withJobs [endedJob .complete] demo).job? 9).map Job.outcome = some (some .complete) ∧
      ((waiting 5).job? 8).map Job.state = some .waitConcur ∧
      ((running 0).job? 7).map Job.state = some .active ∧ endingPass (running 0) = none ∧
      ((withJobs [aJob 3 (.port 0) .synth .routine .active] demo).job? 3).map Job.kind = some .synth ∧
      (sending.job? 8).map Job.state = some .active ∧ sending.channel.exchange.phase ≠ .idle ∧
      sending.canTake 1 = true ∧ (passing.job? 7).map Job.state = some .active ∧
      endingPass passing = some (aRecord .measure 1 3) ∧ passing.canTake 1 = true := by decide +kernel

/-- R60, R124, R130: a cancel once the accumulation has ended waits for the evaluation, and the job then ends
CANCELLED though the pass covered its last work. -/
theorem test_cancel_in_evaluate :
    let s := after (.cancelJob 1 7) passing
    let t := after (.accumulationEnd 0) s
    s.corr.state = .accumulate ∧ (s.job? 7).map Job.cancelPending = some true ∧
      (t.job? 7).map Job.outcome = some (some .cancelled) ∧ (t.sched.stats[(0 : PairNo)]).passes = 1 ∧
      ((after (.accumulationEnd 0) passing).job? 7).map Job.outcome = some (some .complete) := by
  decide +kernel

/-- A ROUTINE COMMAND job is ACTIVE before its first word. -/
def beforeWord : State := withJobs [cmdJob 8 .active aCmd] demo

theorem witness_PathIsGrantedOrCut :
    (((running 3).active?.map (fun j => (j.kind, j.cls, j.preempts, j.pair))) =
        some (.measure, .routine, 3, some 0) ∧ 3 < (running 3).params.preemptMax ∧
      endingPass (running 3) = none ∧
      (((running 3).setStats 0 (fun x => { x with preempts := 127 })).sched.stats[(0 : PairNo)]).preempts = 127) ∧
    ((beforeWord.active?.map (fun j => (j.cls, j.preempts, j.cmd.map CommandFields.wordStarted))) =
        some (.routine, 0, some false) ∧ endingPass beforeWord = none) ∧
    ((withJobs [aJob 3 (.port 0) .synth .routine .active] demo).active?.map Job.cls) = some .routine ∧
    ((running 4).active?.map Job.preempts) = some (running 4).params.preemptMax ∧
    endingPass passing ≠ none ∧ passing.active? ≠ none ∧
    ((sending.active?.bind Job.cmd).map CommandFields.wordStarted) = some true ∧
    demo.eligibleJobs = [] ∧ queue.active? = none ∧ (chooseJob queue).map Job.kind = some .measure ∧
    (aJob 0 (.port 2) .measure .routine .queued).state = .queued ∧
    ((List.range' 1 254).map (fun n => aJob n (.port 1) .measure .routine .queued)).length ≤ 254 := by
  decide +kernel

def patrolled : State :=
  millis 60000 (demo.setPatrol 0 (fun t => { t with interval := 1, timer := some 60000 }))

theorem witness_PatrolIsSetAndExpires :
    demo.canTake 1 = true ∧ demo.canTake 0 = true ∧ (demo.pair 0).owner = some 1 ∧
      (demo.port 0).role = .station ∧ (demo.pair 3).owner = none ∧
      (patrolled.sched.patrols[(0 : PairNo)]).timer = some 60000 ∧ 60000 ≤ patrolled.lineTime ∧
      (millis 59999 patrolled).lineTime < 60000 ∧ (patrolled.pair 0).state = .routed ∧
      (∀ q : PairNo, q < 0 → (patrolled.sched.patrols[q]).timer ≠ some 60000) ∧
      (∀ j ∈ patrolled.sched.jobs, j.kind = .patrol → j.pair ≠ some 0) ∧
      (∃ j ∈ queue.sched.jobs, j.kind = .patrol ∧ j.pair = some 0) := by decide +kernel

def faulted : State := logFault ⟨.switchFault, 5, none, none, some 0⟩ demo

theorem witness_ReadsThatClear :
    demo.canTake 1 = true ∧ demo.job? (9#8).toNat = none ∧
      (queue.job? 4).map Job.requester ≠ some (.port 1) ∧
      (queue.job? 5).map Job.requester = some (.port 1) ∧
      ((withJobs [endedJob .complete] demo).job? 9).map Job.state = some .ended ∧
      (15#8).toNat = (15 : PairNo).val ∧ (demo.pair 0).owner = some 1 ∧
      (demo.port 0).role = .station ∧ demo.sched.faultLog.record = none ∧
      faulted.sched.faultLog.record = some ⟨.switchFault, 5, none, none, some 0⟩ := by decide +kernel

def held : State := { demo with seq := { demo.seq with state := .switchFault, position := 0, faultHold := true } }

theorem witness_ClearSwitchFaultEndsHold :
    demo.canTake 0 = true ∧ (demo.port 0).role = .station ∧ demo.seq.faultHold = false ∧
      held.canTake 0 = true ∧ (held.port 0).role = .station ∧ held.seq.faultHold = true := by
  decide +kernel

theorem witness_ConcurrenceIsAnsweredOrExpires :
    let expired := withJobs [endedJob .concurExpired] demo
    (waiting 5).concurOf (8#8).toNat = some ⟨8, 1, 2, 0, 2, .selectPump, 2#16, 5⟩ ∧
      (waiting 5).canTake 2 = true ∧ (waiting 5).canTake 3 = true ∧
      ((waiting 5).job? (8#8).toNat).map Job.kind = some .command ∧
      5 ≤ (millis 5 (waiting 5)).lineTime ∧ (millis 4 (waiting 5)).lineTime < 5 ∧
      demo.concurOf (9#8).toNat = none ∧ demo.job? (9#8).toNat = none ∧
      queue.concurOf (4#8).toNat = none ∧ (queue.job? (4#8).toNat).map Job.state = some .queued ∧
      expired.concurOf (9#8).toNat = none ∧ expired.canTake 2 = true ∧ expired.canTake 3 = true ∧
      expired.job? (9#8).toNat = some (endedJob .concurExpired) ∧
      (endedJob .concurExpired).state = .ended ∧
      (endedJob .concurExpired).outcome = some .concurExpired ∧
      ((endedJob .concurExpired).cmd.map CommandFields.askedPort) = some (some 2) ∧
      (endedJob .declined).outcome ≠ some .concurExpired := by decide +kernel

theorem witness_SignaturesAreWrittenByHand :
    demo.canTake 1 = true ∧ (0#8).toNat = (0 : PairNo).val ∧ (demo.pair 0).state = .routed ∧
      (demo.pair 0).owner = some 1 ∧ (demo.port 0).role = .station ∧ demo.canTake 0 = true ∧
      (1 ≤ (3#8).toNat ∧ (3#8).toNat ≤ (demo.pair 0).n) ∧ 1 ≤ [0#16].length ∧
      (List.replicate 48 0#16).length ≤ 48 ∧ 1 ≤ (demo.pair 0).n ∧ (1#8).toNat = 1 ∧
      (2#8).toNat = 2 := by decide +kernel

/-- An entry of pair 0 at position 2 that tracks the base 2177. -/
def tracked : SigEntry := { SigEntry.powerOn with state := .tracking, base := some 2177, learn := 4 }
def taught : State := demo.setSig 0 2 (fun _ => tracked)

theorem witness_EvaluationMovesBasesByStep :
    1 ≤ (aRecord .patrol 1 192).first ∧ (aRecord .patrol 1 192).last ≤ 192 ∧
      (taught.sigAt 0 2).state = .tracking ∧ (taught.sigAt 0 2).base = some 2177 ∧
      (setFreeze 0 true taught).frozen 0 = true ∧ (aRecord .patrol 1 3).pair ≠ some 1 ∧
      (aRecord .patrol 1 3).last < 4 ∧ 1 < (aRecord .patrol 2 3).first := by decide +kernel

theorem witness_EntryLearnsThenTracks :
    let e := { tracked with drift := 7 }
    let learning : SigEntry := { SigEntry.powerOn with state := .learning, base := some 2176, learn := 2 }
    let relearned : SigEntry := { SigEntry.powerOn with state := .learning }
    (lost 17).level = none ∧ ({ lost 17 with level := some 2187 }).level = some 2187 ∧ relearned.state = .learning ∧ relearned.base = none ∧ relearned.learn = 0 ∧
      SigEntry.powerOn.state = .empty ∧ learning.state = .learning ∧ 1 ≤ learning.learn ∧
      learning.base = some 2176 ∧ e.state = .tracking ∧ e.base = some 2177 ∧ e.drift < 255 ∧
      ((2187 : Int) - 2177).natAbs ≤ Params.default.stable ∧
      Params.default.stable < ((2166 : Int) - 2177).natAbs ∧
      ((2127 : Int) - 2177).natAbs ≤ Params.default.wide ∧
      Params.default.wide < ((2126 : Int) - 2177).natAbs := by decide +kernel

def aFinding (cls : FindingClass) (location : Nat) (st : FindingState) (seen : Nat) : Finding :=
  ⟨0, cls, location, 1, none, st, seen, 0, 0, 0⟩

def withFindings (l : List Finding) : State := { demo with findings := l }

/-- A list of 32 findings, the third of them in the state given, the others CONFIRMED. -/
def fullList (third : FindingState) : State :=
  withFindings ((List.range' 1 32).map (fun k =>
    aFinding .echoLoss k (if k = 3 then third else .confirmed) 1))

theorem findingsLaw_of_checks (s : State) (h : s.findings.length ≤ 32 ∧
    s.findings.Pairwise (fun f g => ¬ (f.pair = g.pair ∧ f.cls = g.cls ∧ f.location = g.location))) :
    FindingsLaw s := h

theorem witness_DetectionMeetsFindingList :
    FindingsLaw (withFindings [aFinding .gainStep 2 .suspect 2, aFinding .loopback 2 .isolated 1,
        aFinding .echoLoss 2 .cleared 4, aFinding .drift 2 .confirmed 255]) ∧
    FindingsLaw (fullList .cleared) ∧ FindingsLaw (fullList .confirmed) ∧
    (fullList .cleared).findings.length = 32 ∧
    ((fullList .cleared).findings[2]?).map Finding.state = some .cleared ∧
    (∀ f ∈ (fullList .cleared).findings.take 2, f.state ≠ .cleared) ∧
    (∀ f ∈ (fullList .confirmed).findings, f.state ≠ .cleared) ∧
    (∀ f ∈ (fullList .cleared).findings, ¬ (f.pair = 0 ∧ f.cls = .drift ∧ f.location = 2)) ∧
    demo.findings.length < 32 :=
  ⟨findingsLaw_of_checks _ (by decide +kernel), findingsLaw_of_checks _ (by decide +kernel),
    findingsLaw_of_checks _ (by decide +kernel), by decide +kernel⟩

/-- A CONFIRM job of pair 0 waits with a range, and eight service slots are in use with none of it. -/
def confirming : State := withJobs [aJob 6 .internal .confirm .urgent .queued] demo

theorem witness_ConfirmRequestIsMergedOrQueued :
    JobsLaw confirming ∧ JobsLaw crowded ∧ JobsLaw nearlyCrowded ∧
      (∃ j ∈ confirming.sched.jobs, j.kind = .confirm ∧ j.pair = some 0 ∧ j.state = .queued ∧
        j.everActive = false) ∧
      (confirming.sched.jobs[0]?).bind Job.range = some (1, 3) ∧
      (∀ j ∈ crowded.sched.jobs, j.kind ≠ .confirm) ∧ crowded.serviceSlotsUsed = 8 ∧
      (∀ j ∈ nearlyCrowded.sched.jobs, j.kind ≠ .confirm) ∧ nearlyCrowded.serviceSlotsUsed < 8 :=
  ⟨jobsLaw_of_checks _ (by decide +kernel) (by decide +kernel),
    jobsLaw_of_checks _ (by decide +kernel) (by decide +kernel),
    jobsLaw_of_checks _ (by decide +kernel) (by decide +kernel), by decide +kernel⟩

theorem witness_CleanSightingsClearFindings :
    ∃ clean : Finding → Bool,
      (∀ f, clean f = true ↔ f.pair = 0 ∧ f.state ≠ .isolated ∧ 1 ≤ f.location ∧ f.location ≤ 3 ∧
        (∀ d ∈ ([] : List Detection), ¬ (d.cls = f.cls ∧ d.location = f.location)) ∧
        ∃ r, (valid 1 [0, 4, 0]).find? (fun r => r.position = f.location) = some r ∧ r.status = .valid ∧
          (f.cls = .drift → (r.dev.getD 0).natAbs ≤ Params.default.stable)) ∧
      clean { aFinding .gainStep 2 .confirmed 3 with clean := 2 } = true ∧
      clean (aFinding .gainStep 4 .confirmed 3) = false := by
  classical
  refine ⟨fun f => decide (_), fun f => decide_eq_true_iff, ?_, ?_⟩
  · refine decide_eq_true ⟨rfl, by decide, by decide, by decide, by simp, _, rfl, rfl, by decide⟩
  · exact decide_eq_false (fun h => absurd h.2.2.2.1 (by decide))

theorem witness_PassIsClassified :
    let records := valid 5 [-64, -14] ++ [lost 7]
    (1 ≤ 41 ∧ (valid 41 [0, 0, 0, 0] ++ [lost 45]).map EchoRecord.position = List.range' 41 (4 + 1) ∧
      (∀ r ∈ [lost 45], r.status = .lost) ∧
      ((valid 41 [0, 0, 0, 0]).getLast?).map EchoRecord.status = some .valid ∧ 41 + 4 + 1 = 45 + 1) ∧
    (records.map EchoRecord.position = List.range' 5 records.length ∧
      (∀ r ∈ records, r.status = .valid → r.dev ≠ none) ∧
      (∃ r, records[1]? = some r ∧ r.status = .valid ∧ r.dev = some (-14))) ∧
    ((classify 50 5 45 SigEntry.powerOn records)[0]? = some (some .gainStep, some (-64)) ∧
      50 < ((-64 : Int) - 0).natAbs ∧ ((-14 : Int) - -64).natAbs ≤ 50) ∧
    (50 < ((-63 : Int) - -140).natAbs ∧ ((-63 : Int) - -63).natAbs ≤ 50) ∧
    ((aRecord .patrol 5 7).first = 5 ∧ ([(6, -27)] : List (Nat × Int)).map Prod.fst = [6]) ∧
    (([(6, -27), (7, 3)] : List (Nat × Int)).map Prod.fst).Nodup := by
  refine ⟨by decide +kernel, ⟨by decide +kernel, by decide +kernel, _, rfl, rfl, rfl⟩, ?_, ?_, ?_, ?_⟩ <;>
    decide +kernel

theorem witness_DismissAndExpiryRemoveFindings :
    let s := withFindings [aFinding .gainStep 2 .isolated 3]
    s.canTake 1 = true ∧ s.canTake 3 = true ∧ (0#8).toNat = 0 ∧ 5 < (6#8).toNat ∧ 15 < (16#8).toNat ∧
      (1 ≤ (1#8).toNat ∧ (5#8).toNat ≤ 5) ∧ classCode .gainStep = (2#8).toNat ∧
      (s.pair 0).owner ≠ some 3 ∧ (s.port 3).role = .tenant ∧ (s.pair 0).owner = some 1 ∧
      (s.pair 0).state = .routed ∧ (s.pair 2).owner = some 1 ∧ (s.pair 2).state = .unrouted ∧
      (s.pair 3).state = .edit ∧ (s.port 0).role = .station ∧
      (∀ f ∈ s.findings, ¬ (f.pair = 0 ∧ f.cls = .drift ∧ f.location = 2)) ∧
      (∃ f ∈ s.findings, f.pair = 0 ∧ f.cls = .gainStep ∧ f.location = 2) ∧
      (millis 3601000 (withFindings [aFinding .gainStep 2 .suspect 1])).lineTime % 1000 = 0 := by
  decide +kernel

theorem witness_HousingIsWrittenAndRouteOpened :
    let s := demo.setHousing 1 (fun _ => Housing.powerOn)
    demo.canTake 0 = true ∧ (demo.port 0).role = .station ∧ ((0#8).toNat = 0 ∧ 192 < (193#8).toNat) ∧
      (1 ≤ (1#8).toNat ∧ (192#8).toNat ≤ 192) ∧
      (demo.housing 2).presence = .present ∧ (demo.pair 0).state ≠ .unrouted ∧
      (∃ e ∈ (demo.pair 0).route, e.housing = 2) ∧ (∀ q : PairNo, ¬ q < 0) ∧
      ((s.housing 1).presence = .absent ∧ ∃ e ∈ (s.pair 0).route, e.housing = 1) ∧
      (∀ p : PairNo, (demo.pair p).state ≠ .unrouted → ∀ e ∈ (demo.pair p).route, e.housing ≠ 192) ∧
      (15#8).toNat = (15 : PairNo).val ∧ (∀ j ∈ demo.sched.jobs, j.pair = some 15 → j.state = .ended) ∧
      (∀ r ∈ demo.channel.concur, r.pair ≠ 15 ∧ r.pair ≠ partner 15) ∧
      (∃ j ∈ queue.sched.jobs, j.pair = some 0 ∧ j.state ≠ .ended) ∧
      (∃ r ∈ (waiting 5).channel.concur, r.pair = 1 ∨ r.pair = partner 1) := by decide +kernel

theorem witness_RouteIsBuiltAndClosed :
    demo.canTake 0 = true ∧ (demo.port 0).role = .station ∧ (3#8).toNat = (3 : PairNo).val ∧
      (demo.pair 3).state = .edit ∧ (1 ≤ (1#8).toNat ∧ (4#8).toNat ≤ (demo.pair 3).n + 1) ∧
      (List.replicate 48 ((192#8 : Byte), 0#16)).length ≤ 48 ∧ (192#8).toNat ≤ 192 ∧
      1 ≤ (demo.pair 3).n ∧ (∀ e ∈ (demo.pair 3).route, (demo.housing e.housing).presence = .present) ∧
      ((demo.pair 3).route.map RouteEntry.housing).Nodup ∧
      ((demo.pair 3).route.map RouteEntry.lag).Pairwise (· < ·) ∧
      (∀ e ∈ (demo.pair 3).route, e.lag + 3 < (demo.pair 3).quietBase) ∧
      (demo.pair 3).quietBase + 3 < 2 ^ (demo.pair 3).profile.order - 1 ∧
      ¬ (∀ e ∈ (demo.pair 3).route, e.lag + 3 < 203) ∧
      ((demo.setPair 3 (fun x => { x with route := [] })).pair 3).n = 0 ∧
      (demo.pair 3).route[0]? = some ⟨1, 10⟩ ∧ (demo.pair 3).route.getLast? ≠ none ∧
      2 ^ (demo.pair 3).profile.order - 1 ≤ 2044 + 3 ∧
      (∃ r ∈ (waiting 5).channel.concur, partner r.pair = 1) := by decide +kernel

/-- Job 8 holds the consent of port 2 for a shared-effect word and waits; outside an exchange it lapses. -/
def consenting : State := withJobs [cmdJob 8 .queued aCmd] demo

theorem witness_AssignWritesOwnerAndLapsesConsent :
    let s := consenting
    (s.canTake 0 = true ∧ (s.port 0).role = .station ∧ (1#8).toNat = (1 : PairNo).val ∧
      (∃ j ∈ s.sched.jobs, j.pair = some 0 ∧ j.state ≠ .ended) ∧
      (∃ r ∈ (waiting 5).channel.concur, r.pair = 1 ∨ r.pair = partner 1) ∧
      (sending.channel.exchange.phase = .sending ∧ sending.channel.exchange.word ≠ .nopPrefix ∧
        ∃ j ∈ sending.sched.jobs, j.number = sending.channel.exchange.job ∧
          j.pair = some (partner 1) ∧ (j.cmd.map CommandFields.opcode) = some .selectPump) ∧
      (∀ j ∈ s.sched.jobs, j.pair = some 1 → j.state = .ended) ∧
      (∀ r ∈ s.channel.concur, r.pair ≠ 1 ∧ r.pair ≠ partner 1) ∧
      s.channel.exchange.phase ≠ .sending ∧ some 2 = (s.pair 1).owner ∧ some 3 ≠ (s.pair 1).owner ∧
      (cmdJob 8 .queued aCmd).pair = some (partner 1) ∧ aCmd.completed = false ∧
      (cmdJob 8 .queued aCmd).requester ≠ .port 3 ∧ aCmd.askedPort ≠ some 3 ∧ aCmd.askedPort = some 2 ∧
      s.channel.exchange.phase = .idle ∧
      ((decided .succeeded aCmd).channel.exchange.phase ≠ .idle ∧
        (decided .succeeded aCmd).channel.exchange.phase ≠ .sending ∧
        (decided .succeeded aCmd).channel.exchange.job = 8)) ∧
    JobsLaw s ∧ JobsLaw (decided .succeeded aCmd) :=
  ⟨by decide +kernel, jobsLaw_of_checks _ (by decide +kernel) (by decide +kernel),
    jobsLaw_of_checks _ (by decide +kernel) (by decide +kernel)⟩

/-- The start-up calibration with all its samples taken, `clips` of them clipped. -/
def sampled (clips : Nat) : State :=
  let s := State.reset
  { s with intake := { s.intake with acc := some ⟨65536, 65536 * 8193, clips⟩ } }

/-- A SET_DARK_MODE(MANUAL) taken before the decision (R46). -/
def sampledManual : State := after (.setDarkModeManual 0 9000#16) (sampled 1025)

/-- R44, R46: a calibration that finds MANUAL ends HELD; the manual offset stands and nothing is logged. -/
theorem test_dark_held :
    let t := after .darkSamplingEnd sampledManual
    t.intake.offset = 9000 ∧ t.intake.darkState = .manual ∧ t.sched.faultLog.record = none ∧
      (t.job? 1).isNone = true ∧ (after .darkSamplingEnd (sampled 7)).intake.offset = 8193 := by decide +kernel

theorem witness_DarkOffsetIsSetAndCalibrated :
    demo.canTake 0 = true ∧ (demo.port 0).role = .station ∧ 16383 < (16384#16).toNat ∧
      JobsLaw (sampled 1024) ∧ (sampled 1024).seq.state = .dark ∧ (sampled 1024).seq.work = .sampling ∧
      (sampled 1024).intake.acc = some ⟨2 ^ (sampled 1024).intake.dd, 65536 * 8193, 1024⟩ ∧
      ((sampled 1024).active?.map Job.kind) = some .dark ∧
      ¬ 2 ^ ((sampled 1024).intake.dd - 6) < 1024 ∧ 2 ^ ((sampled 1025).intake.dd - 6) < 1025 ∧
      (sampled 1025).sched.faultLog.record = none ∧
      JobsLaw sampledManual ∧ sampledManual.intake.darkState = .manual ∧
      sampledManual.seq.state = .dark ∧ sampledManual.seq.work = .sampling ∧
      sampledManual.intake.acc = some ⟨2 ^ sampledManual.intake.dd, 65536 * 8193, 1025⟩ ∧
      (sampledManual.active?.map Job.kind) = some .dark := by
  have h : JobsLaw (sampled 1024) := jobsLaw_of_checks _ (by decide +kernel) (by decide +kernel)
  have m : JobsLaw sampledManual := jobsLaw_of_checks _ (by decide +kernel) (by decide +kernel)
  refine ⟨?_, ?_, ?_, h, ?_, ?_, ?_, ?_, ?_, ?_, ?_, m, ?_⟩ <;> decide +kernel

theorem witness_SynthDefinitionIsHeld :
    demo.canTake 0 = true ∧ (demo.port 0).role = .station ∧ noiseModeCode .fixed = (1#8).toNat ∧
      (1 ≤ [((100#16 : Half), (600#16 : Half))].length ∧ (List.replicate 8 (0#16, 0#16)).length ≤ 8) ∧
      (aDef.echoes.map SynthEcho.lag).Pairwise (· < ·) ∧ (∀ e ∈ aDef.echoes, e.lag + 3 < aDef.quietBase) ∧
      ¬ (([⟨5, 1⟩, ⟨5, 2⟩] : List SynthEcho).map SynthEcho.lag).Pairwise (· < ·) ∧
      (∃ j ∈ (withJobs [aJob 3 (.port 0) .synth .routine .active] demo).sched.jobs,
        j.kind = .synth ∧ j.state ≠ .ended) := by decide +kernel

def settling (o : Order) (position : Nat) : State :=
  { demo with seq := { demo.seq with
    state := .settling, position := position, goal := some o, settleEnd := 50 } }

theorem witness_SettleEntersOrderedState :
    let s := millis 50 (settling (.runPair 0 ⟨11, 0, 9⟩) 0)
    let c := withJobs [cmdJob 8 .active aCmd] s
    let done := { aCmd with wordStarted := true, completed := true, next := .verify }
    let d := withJobs [cmdJob 8 .active done] s
    s.seq.state = .settling ∧ s.seq.settleEnd ≤ s.lineTime ∧ (millis 49 s).lineTime < s.seq.settleEnd ∧
      (0#5).toNat = s.seq.position ∧ s.seq.goal = some (.runPair 0 ⟨11, 0, 9⟩) ∧ s.active? = none ∧
      c.active? = some (cmdJob 8 .active aCmd) ∧ (cmdJob 8 .active aCmd).cmd = some aCmd ∧
      aCmd.wordStarted = false ∧ c.seq.goal = some (.runPair 0 ⟨11, 0, 9⟩) ∧
      d.active? = some (cmdJob 8 .active done) ∧ done.wordStarted = true ∧
      (settling .darkSample 16).seq.goal = some .darkSample ∧
      (settling (.darkChips 11) 16).seq.goal = some (.darkChips 11) ∧
      (settling (.sendWord 0 ⟨11, 0, 9⟩ []) 0).seq.goal = some (.sendWord 0 ⟨11, 0, 9⟩ []) ∧
      (settling .endDark 16).seq.goal = some .endDark ∧
      ({ s.seq with faultHold := true }).faultHold = true := by decide +kernel

/-- R29, R184: a synthetic run in FIXED mode begins with the noise register at the seed. -/
theorem test_synthetic_run_begins :
    let s := { millis 50 (settling (.darkChips 11) 16) with synth := ⟨some { aDef with seed := 9 }, 5#16⟩ }
    let t := after (.settleEnd 16) s
    t.seq.state = .dark ∧ t.seq.gen = chipSeed 11 ∧ t.synth.noise = 9#16 := by decide +kernel

theorem witness_OutputsFollowSequencer :
    let tone := { sending.seq with tone := [true, false] }
    passing.seq.state = .steady ∧ passing.seq.current = some (0, ⟨11, 0, 9⟩) ∧
      ([5, 10, 20, 40, 80] : List Nat)[0]? = some 5 ∧ tone.state = .tone ∧
      tone.current = some (0, ⟨11, 0, 9⟩) ∧ tone.tone[1]? = some false ∧ 7999 / 4000 = 1 ∧
      demo.seq.state = .parked ∧ State.reset.seq.state = .dark := by decide +kernel

/-- A synthetic pass of job 3 of port 0, its last boundary standing, with the switch at 16. -/
def synthPassing : State :=
  { withJobs [aJob 3 (.port 0) .synth .routine .active] passing with
    seq := { passing.seq with state := .dark, position := 16, current := none, work := .chips, filled := true }
    corr := { passing.corr with pass := some { aRecord .synth 1 3 with job := 3, pair := none } } }

theorem witness_SwitchFaultSuspendsWork :
    let s := millis 50 (settling (.runPair 0 ⟨11, 0, 9⟩) 0)
    let c := passing.setJob 7 (fun j => { j with cancelPending := true })
    let d := millis 50 (settling .darkSample 16)
    s.seq.position = (0 : PairNo).val ∧ (1#5).toNat ≠ (0 : PairNo).val ∧ s.seq.faultHold = false ∧
      s.seq.state = .settling ∧ s.seq.goal ≠ none ∧ s.seq.settleEnd ≤ s.lineTime ∧
      passing.seq.position = (0 : PairNo).val ∧ passing.seq.faultHold = false ∧
      endingPass passing = some (aRecord .measure 1 3) ∧
      (passing.active?.map Job.requester) = some (.port 1) ∧
      (passing.active?.map Job.cancelPending) = some false ∧
      (c.active?.map (fun j => (j.cancelPending, j.requester))) = some (true, .port 1) ∧
      c.job? 7 = c.active? ∧
      d.seq.position = 16 ∧ (0#5).toNat ≠ 16 ∧ d.seq.state = .settling ∧ d.seq.goal = some .darkSample ∧
      Order.darkSample.isDark = true ∧ d.seq.settleEnd ≤ d.lineTime ∧ d.seq.faultHold = false ∧
      synthPassing.seq.position = 16 ∧ synthPassing.seq.faultHold = false ∧
      endingPass synthPassing ≠ none ∧
      demo.sched.faultLog.record = none ∧ faulted.sched.faultLog.record ≠ none := by decide +kernel

def filling : State :=
  { passing with
    seq := { passing.seq with state := .filling, runChips := 2047 }
    corr := { passing.corr with state := .armed } }

def synthFilling : State :=
  { filling with
    seq := { filling.seq with state := .dark, position := 16, current := none, work := .chips }
    corr := { filling.corr with pass := some { aRecord .synth 1 3 with pair := none } } }

theorem witness_BoundariesRunPass :
    demo.seq.running = false ∧ boundaryDue passing.seq = true ∧
      passing.seq.gen = BitVec.ofNat 15 (2 ^ passing.seq.genOrder - 1) ∧ 0 < passing.seq.runChips ∧
      filling.seq.state = .filling ∧ filling.seq.current = some (0, ⟨11, 0, 9⟩) ∧
      filling.corr.pass = some (aRecord .measure 1 3) ∧ filling.corr.state = .armed ∧
      filling.seq.boundaryTaken = false ∧ ({ filling with corr := demo.corr }).corr.state ≠ .armed ∧
      synthFilling.seq.state = .dark ∧ synthFilling.seq.work = .chips ∧
      synthFilling.seq.filled = false ∧ synthFilling.corr.state = .armed ∧
      (synthFilling.corr.pass.map PassRecord.pair) = some none ∧
      passing.seq.state = .steady ∧ passing.corr.state = .accumulate ∧
      (aRecord .measure 1 3).periodsLeft ≤ 1 ∧ 2 ≤ { aRecord .measure 1 3 with periodsLeft := 2 }.periodsLeft ∧
      (0#5).toNat = passing.seq.position := by decide +kernel

/-- The list of job 7 is a survey's, with 255 candidates. -/
def surveying : State :=
  passing.setResults 1 (fun l => { l with
    kind := some .survey, body := .candidates (List.replicate 255 ⟨206, 88⟩) })

theorem jobsLaw_passing : JobsLaw passing := jobsLaw_of_checks _ (by decide +kernel) (by decide +kernel)

theorem witness_EvaluationDeliversResults :
    (passing.job? (aRecord .measure 1 3).job).map Job.requester = some (.port 1) ∧
      (aRecord .measure 1 3).kind ≠ .survey ∧ (passing.sched.results[(1 : Port)]).job = some 7 ∧
      (passing.sched.results[(1 : Port)]).body = .echoes [] ∧
      (aRecord .survey 1 3).kind = .survey ∧ (surveying.sched.results[(1 : Port)]).job = some 7 ∧
      (surveying.sched.results[(1 : Port)]).body = .candidates (List.replicate 255 ⟨206, 88⟩) ∧
      (((passing.setResults 1 (fun _ => ResultList.powerOn)).sched.results[(1 : Port)]).job ≠ some 7) ∧
      JobsLaw passing ∧ JobsLaw surveying := by
  refine ⟨?_, ?_, ?_, ?_, ?_, ?_, ?_, ?_, jobsLaw_passing, jobsLaw_passing⟩ <;> decide +kernel

theorem witness_EvaluationCounts :
    let at8 := { passing with intake := { passing.intake with refresh := 7 } }
    let p8 : PassRecord := { aRecord .measure 1 3 with params := { Params.default with darkEvery := 8 } }
    JobsLaw passing ∧ (passing.job? p8.job).map Job.state = some .active ∧ p8.pair = some 0 ∧
      ({ aRecord .synth 1 3 with pair := none }).pair = none ∧
      (p8.params.darkEvery = 8 ∧ 7 < p8.params.darkEvery ∧ at8.intake.refresh = 7) ∧
      { Params.default with darkEvery := 0 }.darkEvery = 0 ∧ at8.intake.darkState ≠ .manual ∧
      ¬ (∃ j ∈ at8.sched.jobs, j.kind = .dark ∧ j.state ≠ .ended) ∧
      (∃ j ∈ crowded.sched.jobs, j.kind = .dark ∧ j.state ≠ .ended) ∧ crowded.serviceSlotsUsed = 8 := by
  refine ⟨jobsLaw_passing, ?_⟩; decide +kernel

theorem witness_DriverGoesOnAfterPass :
    let s := passing.setJob 7 (fun j => { j with passes := 4 })
    let beside : JobClass → State := fun cls => withJobs (s.sched.jobs ++ [aJob 9 (.port 2) .measure cls .queued]) s
    (passing.job? (aRecord .measure 1 3).job).map (fun j => (j.kind, j.range, j.progress)) =
        some (.measure, some (1, 3), 1) ∧
      (passing.job? 7).map (fun j => (j.cls, j.passes, j.cancelPending)) = some (.routine, 0, false) ∧
      ((after (.cancelJob 1 7) passing).job? 7).map Job.cancelPending = some true ∧
      (beforeWord.job? 8).map Job.kind = some .command ∧
      ((passing.setJob 7 (fun j => { j with progress := 4 })).job? 7).map Job.progress = some 4 ∧
      (synthPassing.job? 3).map Job.kind = some .synth ∧ synthPassing.seq.state = .dark ∧
      (∃ k ∈ (beside .urgent).sched.jobs, k.cls = .urgent ∧ eligible false k = true) ∧
      (∃ k ∈ (beside .routine).sched.jobs, k.number ≠ 7 ∧ eligible false k = true) ∧
      ¬ (∃ k ∈ (beside .routine).sched.jobs, k.cls = .urgent ∧ eligible false k = true) ∧
      (aRecord .measure 1 3).params.slice = 4 ∧ (s.job? 7).map Job.passes = some 4 ∧
      ¬ (∃ k ∈ s.sched.jobs, k.number ≠ 7 ∧ eligible false k = true) := by decide +kernel

/-- The slot set-up of the job's exchange in slot `n`, and a boundary standing in STEADY. -/
def slotted (n : Nat) (left : Option Nat) (chips : Nat) : State :=
  let su : SlotSetup := ⟨40, 2, 3, 0, 11, 5, 1000, 2, 8192, Params.default, n, left⟩
  { sending with
    seq := { sending.seq with state := .steady, running := true, runChips := chips, gen := chipSeed 11 }
    corr := { Correlator.idleReset with state := .slot, slot := some su }
    channel := { sending.channel with exchange := { sending.channel.exchange with phase := .reply } } }

theorem witness_SamplesGoToOneUse :
    let s := { passing with seq := { passing.seq with boundaryTaken := true } }
    let y := { synthFilling with
      seq := { synthFilling.seq with boundaryTaken := true, filled := true }
      corr := { synthFilling.corr with state := .accumulate }, synth := ⟨some aDef, 1#16⟩ }
    State.reset.seq.state = .dark ∧ State.reset.seq.work = .sampling ∧
      State.reset.intake.acc = some ⟨0, 0, 0⟩ ∧ 65535 < 2 ^ State.reset.intake.dd ∧
      demo.seq.state = .parked ∧ s.seq.state = .steady ∧ s.seq.running = true ∧
      boundaryDue s.seq = false ∧ s.seq.wp < 32768 ∧ s.corr.state = .accumulate ∧
      s.corr.pass = some (aRecord .measure 1 3) ∧ filling.corr.state ≠ .accumulate ∧
      filling.corr.state ≠ .slot ∧ y.seq.state = .dark ∧ y.seq.work = .chips ∧
      y.seq.running = true ∧ boundaryDue y.seq = false ∧ y.synth.defn = some aDef ∧
      y.corr.state = .accumulate ∧ y.corr.pass ≠ none ∧ y.seq.wp < 32768 ∧
      synthFilling.corr.state ≠ .accumulate ∧ synthFilling.corr.state ≠ .slot ∧
      (∀ left ∈ [none, some 1],
        let z := { slotted 3 left 700000 with
          seq := { (slotted 3 left 700000).seq with boundaryTaken := true } }
        z.seq.state = .steady ∧ z.seq.running = true ∧ boundaryDue z.seq = false ∧ z.seq.wp < 32768 ∧
          z.corr.state = .slot ∧ z.corr.slot.map SlotSetup.periodsLeft = some left) := by
  decide +kernel

theorem witness_WordIsSentAndAnswered :
    sending.seq.state = .tone ∧ sending.seq.current = some (0, ⟨11, 0, 9⟩) ∧ sending.seq.held = none ∧
      sending.channel.exchange.phase = .sending ∧
      sending.job? sending.channel.exchange.job = some (cmdJob 8 .active { aCmd with wordStarted := true }) ∧
      (sending.pair 0).positionOf aCmd.housing = some 2 ∧ (sending.pair 0).lagAt 2 = some 40 ∧
      sending.lineTime < sending.seq.toneStart + 192 ∧
      (millis 200 sending).seq.toneStart + 192 ≤ (millis 200 sending).lineTime ∧
      boundaryDue (slotted 0 none 600040).seq = true ∧ (slotted 0 none 600040).seq.state = .steady ∧
      (slotted 0 none 600040).corr.state = .slot ∧
      ((slotted 0 none 600040).corr.slot.map SlotSetup.periodsLeft) = some none ∧
      40 + (3000000 + 0 * 2 * 16000) / 5 ≤ (slotted 0 none 600040).seq.runChips ∧
      (slotted 0 none 600039).seq.runChips < 40 + (3000000 + 0 * 2 * 16000) / 5 ∧
      ((slotted 8 (some 1) 700000).corr.slot.map (fun u => (u.slot, u.periodsLeft))) = some (8, some 1) ∧
      ((slotted 8 (some 2) 700000).corr.slot.map SlotSetup.periodsLeft) = some (some 2) ∧
      ((slotted 9 (some 1) 700000).corr.slot.map (fun u => (u.slot, u.periodsLeft))) = some (9, some 1) := by
  decide +kernel

/-- Ten slot results that read as a reply with T = 1, A = 1, C as given and value 0. -/
def replySlots (c : Bool) : List SlotResult :=
  (List.range 10).map (fun j =>
    ⟨j, if j = 0 ∨ 5 ≤ j ∨ (j = 4 ∧ c = false) then 1000 else 100, 0, false, 1, true⟩)

/-- The exchange of `sending` with its ten slots heard. -/
def heard (c : Bool) (op : Opcode) : State :=
  let s := sending.setCmd 8 (fun d => { d with opcode := op, reply := [⟨.word1, true, 1, none⟩] })
  s.setExchange { s.channel.exchange with phase := .reply, slots := replySlots c }

/-- R147, R151, R152: a succeeded last word completes the command and is in the reply record; word 1 of a trim
moves the progress to word 2; a refused word moves nothing. -/
theorem test_word_decided :
    let stand := fun s : State => (s.job? 8).bind (fun j => j.cmd.map (fun c =>
      (c.next, c.completed, c.reply.map ReplyEntry.reply)))
    let pump := fun s : State => tableGet (s.housing 2).pump 0 .unknown
    let yes := some (⟨true, true, true, 0⟩ : Reply)
    stand (decideWord 3 (heard true .selectPump)) = some (.verify, true, [yes]) ∧
      pump (heard true .selectPump) = .unknown ∧ pump (decideWord 3 (heard true .selectPump)) = .spare ∧
      stand (decideWord 3 (heard true .trimGain)) = some (.word .word2, false, [yes]) ∧
      (stand (decideWord 3 (heard false .selectPump))).map (fun c => c.2.1) = some false ∧
      (decideWord 3 (heard false .selectPump)).channel.exchange.outcome = some .refused := by decide +kernel

theorem witness_WordIsDecidedAndExchangeEnds :
    let c := { aCmd with wordStarted := true }
    let finished := { c with completed := true, next := CmdStep.verify }
    let s := decided .succeeded finished
    let cancelled := fun o => (decided o c).setJob 8 (fun j => { j with cancelPending := true })
    (slotted 9 (some 1) 700000).job? 8 = some (cmdJob 8 .active c) ∧ (1 ≤ c.housing ∧ c.housing ≤ 192) ∧
      s.job? s.channel.exchange.job = some (cmdJob 8 .active finished) ∧ s.seq.running = true ∧
      s.channel.exchange.endChip ≤ s.seq.runChips ∧ s.channel.exchange.phase = .decided ∧
      sending.channel.exchange.phase ≠ .decided ∧ 0 < finished.verifySpan ∧
      (cmdJob 8 .active finished).cancelPending = false ∧
      { finished with verifySpan := 0 }.verifySpan = 0 ∧
      finished.basis ≠ .lapsed ∧ s.channel.exchange.outcome = some .succeeded ∧
      (cancelled .retry).channel.exchange.outcome = some .retry ∧
      ((cancelled .retry).job? 8).map Job.cancelPending = some true ∧
      (cancelled .refused).channel.exchange.outcome = some .refused ∧
      { c with basis := .lapsed }.basis = .lapsed ∧ { c with basis := .lapsed }.completed = false ∧
      (decided .refused { c with basis := .lapsed }).channel.exchange.outcome = some .refused ∧
      (decided .exhausted { c with basis := .lapsed }).channel.exchange.outcome = some .exhausted ∧
      (decided .exhausted c).channel.exchange.outcome = some .exhausted ∧
      (decided .succeeded { c with next := .word .word2 }).channel.exchange.outcome = some .succeeded := by
  decide +kernel

theorem witness_CompletedCommandChangesMap :
    (demo.pair 0).state = .routed ∧ (demo.pair 0).positionOf aCmd.housing = some 2 ∧
      (1 ≤ aCmd.housing ∧ aCmd.housing ≤ 192) ∧ (demo.pair 0).n ≤ 192 ∧ (demo.pair (partner 0)).n ≤ 192 ∧
      sharedEffect aCmd.opcode = true ∧ (demo.pair (partner 0)).state = .routed ∧
      (demo.pair (partner 0)).positionOf aCmd.housing = some 2 ∧
      (demo.pair (partner 3)).state ≠ .routed ∧ aCmd.argument.toNat = 2 ∧
      ({ aCmd with opcode := .unmute }).opcode = (if false then Opcode.mute else .unmute) := by
  decide +kernel

/-! ### The laws hold in states at work, and a step is answered there -/

theorem witness_FindingsLawIsKept :
    (∃ t, step ((fullList .confirmed).withPending [.dismiss 0 0#8 4#8 7#8]) = .next t) ∧
      FindingsLaw ((fullList .confirmed).withPending [.dismiss 0 0#8 4#8 7#8]) :=
  ⟨⟨_, rfl⟩, findingsLaw_of_checks _ (by decide +kernel)⟩

theorem witness_RouteLawsAreKept :
    (∃ t, step (demo.withPending [.routeClose 0 3#8]) = .next t) ∧
      (∀ p, RouteLaw ((demo.withPending [.routeClose 0 3#8]).pair p)) ∧
      HousingsLaw (demo.withPending [.routeClose 0 3#8]) := by
  refine ⟨⟨_, rfl⟩, ?_, ?_⟩
  · unfold RouteLaw; decide +kernel
  · unfold HousingsLaw; decide +kernel

theorem sequencerLaw_sending : SequencerLaw sending.seq :=
  ⟨by decide +kernel, by decide +kernel, (0, ⟨11, 0, 9⟩), rfl, rfl⟩

theorem witness_RegisterLawsAreKept :
    (∃ t, step (sending.withPending [.wordEnd]) = .next t) ∧ DarkLaw sending ∧ ParamsLaw sending.params ∧
      SequencerLaw sending.seq ∧ (taught.sigAt 0 2).law := by
  refine ⟨⟨_, rfl⟩, ⟨by decide +kernel, nofun⟩, ?_, sequencerLaw_sending, ?_⟩
  · unfold ParamsLaw; decide +kernel
  · exact ⟨by decide +kernel, nofun⟩

theorem jobsLaw_sending : JobsLaw sending := jobsLaw_of_checks _ (by decide +kernel) (by decide +kernel)

theorem witness_JobsLawIsKept :
    (∃ t, step (sending.withPending [.cancelJob 1 8#8]) = .next t) ∧
      JobsLaw (sending.withPending [.cancelJob 1 8#8]) := ⟨⟨_, rfl⟩, jobsLaw_sending⟩

theorem witness_ConsentLawIsKept :
    (∃ t, step (sending.withPending [.assign 0 1#8 none]) = .next t) ∧
      WorkLaw (sending.withPending [.assign 0 1#8 none]) ∧
      ConsentLaw (sending.withPending [.assign 0 1#8 none]) ∧
      SharedWordLaw (sending.withPending [.assign 0 1#8 none]) ∧
      SequencerLaw (sending.withPending [.assign 0 1#8 none]).seq := by
  have only : ∀ j ∈ sending.sched.jobs, j = cmdJob 8 .active { aCmd with wordStarted := true } := by
    decide +kernel
  have noRecord : sending.channel.concur = [] := rfl
  refine ⟨⟨_, rfl⟩, ⟨jobsLaw_sending, ?_, nofun, ?_, ?_⟩, ⟨?_, ?_⟩, ?_, sequencerLaw_sending⟩
  · refine ⟨by decide +kernel, by decide +kernel, nofun, ?_⟩
    intro j hj h; rw [only j hj] at h; cases h
  · refine ⟨fun _ => ⟨⟨_, List.mem_cons_self, rfl, rfl, ⟨_, rfl, rfl, nofun⟩, 0, _, rfl, rfl⟩, rfl, ?_, ?_⟩, ?_⟩
    · intro _; rfl
    · intro h; exact absurd rfl h
    · intro h; exact absurd rfl h
  · intro j hj c hc; rw [only j hj] at hc; cases hc; exact ⟨by decide, nofun⟩
  · nofun
  · intro j hj c p hc hp _ _ _; rw [only j hj] at hc hp ⊢; cases hc; cases hp
    exact ⟨nofun, fun _ _ => by decide +kernel⟩
  · intro j hj c p hc hp _ _ _ _ o ho; rw [only j hj] at hc hp ⊢; cases hc; cases hp
    exact Or.inr ⟨rfl, by cases ho; rfl⟩

theorem witness_LevelIsRoundedLogarithm : 1 ≤ 1 ∧ 32766 ≤ 32766 := by decide

theorem witness_PassAndWordArithmetic :
    2 ≤ 11 ∧ (([(-1, 300), (0, 300), (1, 88)] : List (Int × Int)).map Prod.fst).Pairwise (· < ·) ∧
      11 ≤ 15 ∧ (0 < 2046 ∧ 2046 < 2 ^ 11 - 1) := by decide

end Sys2Proof.Tests
end

section
/-! R65: the level found bit by bit is the exact logarithm rounded, a half up. -/

namespace Sys2Proof.Machine

/-- A search bit by bit, from the bit `2 ^ (k - 1)` down to the bit 1: each bit is added where the sum meets
`P`. -/
def bitSearch (P : Nat → Prop) [DecidablePred P] (k start : Nat) : Nat :=
  ((List.range k).reverse.map (2 ^ ·)).foldl (fun v b => if P (v + b) then v + b else v) start

section
variable (P : Nat → Prop) [DecidablePred P]

@[simp] theorem bitSearch_zero (v : Nat) : bitSearch P 0 v = v := rfl

theorem bitSearch_succ (k v : Nat) :
    bitSearch P (k + 1) v = bitSearch P k (if P (v + 2 ^ k) then v + 2 ^ k else v) := by
  simp [bitSearch, List.range_succ]

/-- A search that starts where `P` holds and whose range ends where `P` fails ends at a value that meets `P`
just before one that does not. The invariant: `P` holds at the value so far and fails at the end of the range
still open. -/
theorem bitSearch_isLast (k : Nat) : ∀ v, P v → ¬ P (v + 2 ^ k) →
    P (bitSearch P k v) ∧ ¬ P (bitSearch P k v + 1) := by
  induction k with
  | zero => intro v hv hend; simpa using ⟨hv, hend⟩
  | succ k ih =>
    intro v hv hend
    rw [bitSearch_succ]
    by_cases hbit : P (v + 2 ^ k)
    · rw [if_pos hbit]
      have halves : v + 2 ^ k + 2 ^ k = v + 2 ^ (k + 1) := by ring
      exact ih _ hbit (halves ▸ hend)
    · rw [if_neg hbit]
      exact ih v hv hbit

end

/-- The test of `levelOf` for the level `v` of the amplitude `e`. -/
abbrev LevelFits (e v : Nat) : Prop := 10 ^ (2 * v - 1) ≤ e ^ 2000

theorem levelOf_eq_bitSearch (e : Nat) : levelOf e = bitSearch (LevelFits e) 13 0 := rfl

theorem levelFits_zero {e : Nat} (he : 1 ≤ e) : LevelFits e 0 := by
  simp only [LevelFits, Nat.mul_zero, Nat.zero_sub, pow_zero]
  exact one_le_pow₀ he

/-- The model's test with natural powers is the comparison with the exact logarithm; at `v = 0` both hold,
since the logarithm of a positive amplitude is not negative. -/
theorem levelFits_iff {e : Nat} (he : 1 ≤ e) (v : Nat) :
    LevelFits e v ↔ (v : ℝ) ≤ 1000 * Real.logb 10 e + 1 / 2 := by
  have he' : (1 : ℝ) ≤ e := by exact_mod_cast he
  cases v with
  | zero =>
    have hlog : 0 ≤ Real.logb 10 (e : ℝ) := Real.logb_nonneg (by norm_num) he'
    exact iff_of_true (levelFits_zero he) (by push_cast; linarith)
  | succ v =>
    calc LevelFits e (v + 1)
        ↔ (10 : ℝ) ^ (2 * v + 1) ≤ (e : ℝ) ^ 2000 := by exact_mod_cast Iff.rfl
      _ ↔ Real.logb 10 (10 ^ (2 * v + 1)) ≤ Real.logb 10 ((e : ℝ) ^ 2000) :=
          (Real.logb_le_logb (by norm_num) (by positivity) (by positivity)).symm
      _ ↔ 2 * (v : ℝ) + 1 ≤ 2000 * Real.logb 10 e := by
          simp [Real.logb_pow]
      _ ↔ ((v + 1 : Nat) : ℝ) ≤ 1000 * Real.logb 10 e + 1 / 2 := by
          push_cast; constructor <;> intro h <;> linarith

/-- No amplitude up to 32766 reaches the level 4516 (R76). -/
theorem rounded_log_lt {e : Nat} (he : 1 ≤ e) (hmax : e ≤ 32766) :
    1000 * Real.logb 10 e + 1 / 2 < 4516 := by
  have hlargest : ¬ LevelFits 32766 4516 := by decide +kernel
  have hfails : ¬ LevelFits e 4516 :=
    fun h => hlargest (h.trans (pow_le_pow_left₀ e.zero_le hmax 2000))
  rw [levelFits_iff he, not_le] at hfails
  exact_mod_cast hfails

/-- The level is the last value that passes the test of `levelOf`. -/
theorem levelOf_isLast {e : Nat} (he : 1 ≤ e) (hmax : e ≤ 32766) :
    LevelFits e (levelOf e) ∧ ¬ LevelFits e (levelOf e + 1) := by
  have hend : ¬ LevelFits e (0 + 2 ^ 13) := by
    rw [levelFits_iff he, not_le]
    exact (rounded_log_lt he hmax).trans (by norm_num)
  rw [levelOf_eq_bitSearch]
  exact bitSearch_isLast (LevelFits e) 13 0 (levelFits_zero he) hend

/-- Settles O59: the level passes the test and the next value fails it, which brackets the logarithm as the
floor does. -/
theorem levelIsRoundedLogarithm : Obligations.LevelIsRoundedLogarithm := by
  intro e he hmax
  obtain ⟨hlevel, hnext⟩ := levelOf_isLast he hmax
  rw [levelFits_iff he] at hlevel hnext
  constructor
  · symm
    rw [Int.floor_eq_iff]
    exact ⟨by exact_mod_cast hlevel, by exact_mod_cast not_le.mp hnext⟩
  · have hlt : (levelOf e : ℝ) < (4516 : Nat) := by
      exact_mod_cast hlevel.trans_lt (rounded_log_lt he hmax)
    exact Nat.le_of_lt_succ (by exact_mod_cast hlt)

end Sys2Proof.Machine
end

section
/-! R86: a lookup pass, like a skipped one, completes its records and leaves the table as it is. -/

namespace Sys2Proof.Machine

variable {mode : SigMode} (par : Params) (frozen : Bool) (e : SigEntry) (r : EchoRecord)

/-- Only an update pass makes DRIFT observations (R78). -/
theorem sigStep_drift_of_ne_update (hmode : mode ≠ .update) :
    (sigStep mode par frozen e r).2.2 = false := by
  cases mode with
  | update => exact absurd rfl hmode
  | lookup | skip => cases hlevel : r.level <;> simp [sigStep, hlevel]

/-- Outside an update pass no record changes what a later one meets: each is completed on the state before
the pass. -/
theorem sigPass_of_ne_update (hmode : mode ≠ .update) (p : PairNo) (records : List EchoRecord) (s : State) :
    sigPass mode par p records s =
      (s, records.map (fun r => (sigStep mode par (s.frozen p) (s.sigAt p r.position) r).2.1), []) := by
  induction records with
  | nil => rfl
  | cons r rest ih =>
    have hdrift := sigStep_drift_of_ne_update par (s.frozen p) (s.sigAt p r.position) r hmode
    cases mode with
    | update => exact absurd rfl hmode
    | lookup | skip => simp [sigPass, ih, hdrift]

theorem sigStep_lookup_level {v : Nat} (hlevel : r.level = some v) :
    (sigStep .lookup par frozen e r).2.1 = resolveRecord (lookupDev v e) r := by
  simp [sigStep, hlevel]

theorem sigStep_skip_level {v : Nat} (hlevel : r.level = some v) :
    (sigStep .skip par frozen e r).2.1 = resolveRecord none r := by
  simp [sigStep, hlevel]

/-- A LOST record is left as it is, whatever the treatment (R79, R86). -/
theorem sigStep_lost_record (hlost : r.level = none) : (sigStep mode par frozen e r).2.1 = r := by
  cases mode <;> simp [sigStep, hlost]

/-- In an OVERDRIVE pass no entry plays a part, whatever the kind (R69). -/
@[simp] theorem sigMode_overdrive (kind : PassKind) (track : Bool) : sigMode kind track true = .skip := rfl

/-- Settles O29: outside an update pass each record is completed on the state before the pass; what remains is
how one record is completed, by its level and its entry. -/
theorem lookupWritesNothing : Obligations.LookupWritesNothing := by
  refine ⟨⟨rfl, rfl, rfl, sigMode_overdrive⟩, fun par p records s => ⟨?lookup, ?skip⟩⟩
  case lookup =>
    rw [sigPass_of_ne_update par (by decide)]
    refine congrArg (s, ·, []) (List.map_congr_left fun r _ => ?_)
    cases hlevel : r.level with
    | none => exact sigStep_lost_record _ _ _ _ hlevel
    | some v =>
      rw [sigStep_lookup_level _ _ _ _ hlevel]
      cases hstate : (s.sigAt p r.position).state with
      | empty | learning => simp [lookupDev, resolveRecord, hstate, hlevel]
      | tracking =>
        cases hbase : (s.sigAt p r.position).base with
        | none => simp [lookupDev, resolveRecord, hstate, hbase, hlevel]
        | some base => simp [lookupDev, resolveRecord, deviation, hstate, hbase, hlevel]
  case skip =>
    rw [sigPass_of_ne_update par (by decide)]
    refine congrArg (s, ·, []) (List.map_congr_left fun r _ => ?_)
    cases hlevel : r.level with
    | none => exact sigStep_lost_record _ _ _ _ hlevel
    | some v =>
      rw [sigStep_skip_level _ _ _ _ hlevel]
      simp [resolveRecord, hlevel]

end Sys2Proof.Machine
end

section
/-! R176, R177: the notice requests of a port, and the attention line. -/

namespace Sys2Proof.Machine

/-- A port that can take a request answers it at once: the response is held over what the request left. -/
theorem takeRequest_of_canTake {p : Port} {s : State} (h : s.canTake p = true) (f : State → State × Resp) :
    takeRequest p s f = .next (holdResponse p (f s).2 (f s).1) := by
  simp [takeRequest, h]

/-- A write of a port depends only on what it makes of that port's own record. -/
theorem State.setPort_congr {s : State} {p : Port} {f g : PortState → PortState}
    (h : f (s.port p) = g (s.port p)) : s.setPort p f = s.setPort p g := by
  have htable : tableMap s.ports p.val f = tableMap s.ports p.val g := by
    ext1 j hj
    rw [tableMap_get _ _ _ _ hj, tableMap_get _ _ _ _ hj]
    split
    · next hp => subst hp; exact h
    · rfl
  simp only [State.setPort, htable]

/-! ### READ_NOTICES and CLEAR_NOTICES -/

/-- What READ_NOTICES leaves: the requesting set, as it stood, is taken out of the pending set. -/
theorem reqReadNotices_state (port : Port) (s : State) :
    (reqReadNotices port s).1 = s.setPort port (fun t =>
      { t with pendingSet := (s.port port).pendingSet &&& ~~~requestingSet (s.port port) }) :=
  State.setPort_congr rfl

/-- Settles O11: each request is answered at once; the set READ_NOTICES writes is that of the port itself. -/
theorem noticesAreReadAndCleared : Obligations.NoticesAreReadAndCleared := by
  intro port s htake
  refine ⟨?read, takeRequest_of_canTake htake (reqClearNotices port)⟩
  case read =>
    calc exec (.readNotices port) s
        = .next (holdResponse port (reqReadNotices port s).2 (reqReadNotices port s).1) :=
          takeRequest_of_canTake htake (reqReadNotices port)
      _ = _ := by rw [reqReadNotices_state]; rfl

/-! ### The mask and the attention line -/

/-- Every bit of a notice set is the bit of some kind (R175). -/
theorem exists_noticeBit_eq : ∀ i < 12, ∃ k, noticeBit k = i
  | 0, _ => ⟨.jobEnded, rfl⟩
  | 1, _ => ⟨.findingNew, rfl⟩
  | 2, _ => ⟨.findingConfirmed, rfl⟩
  | 3, _ => ⟨.findingCleared, rfl⟩
  | 4, _ => ⟨.concurAsked, rfl⟩
  | 5, _ => ⟨.overdrive, rfl⟩
  | 6, _ => ⟨.statsHalf, rfl⟩
  | 7, _ => ⟨.listFull, rfl⟩
  | 8, _ => ⟨.darkFailed, rfl⟩
  | 9, _ => ⟨.switchFault, rfl⟩
  | 10, _ => ⟨.engineReset, rfl⟩
  | 11, _ => ⟨.portReady, rfl⟩

/-- A notice set with no kind in it is empty. -/
theorem noticeSet_eq_zero_iff (x : BitVec 12) : x = 0#12 ↔ ∀ k, x.getLsbD (noticeBit k) = false := by
  constructor
  · rintro rfl k
    exact BitVec.getLsbD_zero
  · intro hnone
    refine BitVec.eq_of_getLsbD_eq fun i hi => ?_
    obtain ⟨k, rfl⟩ := exists_noticeBit_eq i hi
    rw [hnone k, BitVec.getLsbD_zero]

/-- A kind requests attention when it is both pending and in the mask (R176). -/
@[simp] theorem getLsbD_requestingSet (t : PortState) (i : Nat) :
    (requestingSet t).getLsbD i = (t.pendingSet.getLsbD i && t.mask.getLsbD i) :=
  BitVec.getLsbD_and

/-- The attention line is asserted exactly while some notice kind is pending and in the mask (R176). -/
theorem attention_iff (t : PortState) : attention t = true ↔
    ∃ k, t.pendingSet.getLsbD (noticeBit k) = true ∧ t.mask.getLsbD (noticeBit k) = true := by
  calc attention t = true
      ↔ ¬ requestingSet t = 0#12 := by simp [attention]
    _ ↔ ∃ k, ¬ (requestingSet t).getLsbD (noticeBit k) = false := by
        rw [noticeSet_eq_zero_iff, not_forall]
    _ ↔ _ := by simp

/-- Settles O12: the mask written is the field cut to twelve bits; the line is `attention_iff`. -/
theorem maskDrivesAttentionLine : Obligations.MaskDrivesAttentionLine := by
  refine ⟨fun port m s htake => ⟨m.setWidth 12, fun i hi => ?lowBits, ?answer⟩, attention_iff⟩
  case lowBits => simp [hi]
  case answer => exact takeRequest_of_canTake htake (reqSetNoticeMask port m)

end Sys2Proof.Machine
end

section
/-! What one command can do: every command answers a next state, and apart from the ports' own records that
state comes from one of the moves listed in `Does`. The invariants and the statements about writers are case
analyses over these moves. -/

namespace Sys2Proof.Machine

/-! ### Moves of the ports alone -/

/-- Two states that differ in the ports' records alone, each port's role the same (R168, R170). -/
structure PortsMove (s t : State) : Prop where
  rest : t = { s with ports := t.ports }
  role : ∀ p, (t.port p).role = (s.port p).role

namespace PortsMove

variable {s t u : State}

theorem refl (s : State) : PortsMove s s := ⟨rfl, fun _ => rfl⟩

theorem trans (h : PortsMove s t) (k : PortsMove t u) : PortsMove s u :=
  ⟨by rw [k.rest, h.rest], fun p => (k.role p).trans (h.role p)⟩

/-- A write of one port that leaves the role. -/
theorem setPort (s : State) (p : Port) {f : PortState → PortState} (hf : ∀ t, (f t).role = t.role) :
    PortsMove s (s.setPort p f) :=
  ⟨rfl, fun q => by rw [State.port_setPort]; split <;> simp [hf]⟩

theorem holdResponse (s : State) (p : Port) (r : Resp) : PortsMove s (holdResponse p r s) :=
  setPort s p fun _ => rfl

theorem raiseNotice (s : State) (k : Notice) (p : Port) : PortsMove s (raiseNotice k p s) :=
  setPort s p fun _ => rfl

/-- What does not read the ports stands through a move of the ports. -/
theorem keep {α : Sort*} (h : PortsMove s t) (f : State → α) (hf : ∀ s ps, f { s with ports := ps } = f s) :
    f t = f s := by
  rw [h.rest, hf]

theorem lineTime (h : PortsMove s t) : t.lineTime = s.lineTime := h.keep State.lineTime fun _ _ => rfl
theorem params (h : PortsMove s t) : t.params = s.params := h.keep State.params fun _ _ => rfl
theorem lineMap (h : PortsMove s t) : t.lineMap = s.lineMap := h.keep State.lineMap fun _ _ => rfl
theorem pair (h : PortsMove s t) (p : PairNo) : t.pair p = s.pair p :=
  h.keep (fun s => s.pair p) fun _ _ => rfl
theorem seq (h : PortsMove s t) : t.seq = s.seq := h.keep State.seq fun _ _ => rfl
theorem intake (h : PortsMove s t) : t.intake = s.intake := h.keep State.intake fun _ _ => rfl
theorem corr (h : PortsMove s t) : t.corr = s.corr := h.keep State.corr fun _ _ => rfl
theorem sig (h : PortsMove s t) : t.sig = s.sig := h.keep State.sig fun _ _ => rfl
theorem findings (h : PortsMove s t) : t.findings = s.findings := h.keep State.findings fun _ _ => rfl
theorem sched (h : PortsMove s t) : t.sched = s.sched := h.keep State.sched fun _ _ => rfl
theorem channel (h : PortsMove s t) : t.channel = s.channel := h.keep State.channel fun _ _ => rfl
theorem synth (h : PortsMove s t) : t.synth = s.synth := h.keep State.synth fun _ _ => rfl
theorem pending (h : PortsMove s t) : t.pending = s.pending := h.keep State.pending fun _ _ => rfl

end PortsMove

/-! ### The moves -/

/-- A job as a port submits it, of a kind that has no command fields (R117, R118). -/
structure Job.PlainSubmission (port : Port) (j : Job) : Prop where
  requester : j.requester = .port port
  kind : j.kind = .measure ∨ j.kind = .survey ∨ j.kind = .synth
  cmd : j.cmd = none
  state : j.state = .queued

/-- An expired patrol timer runs on (R129). -/
def runPatrolOn (p : PairNo) (s : State) : State :=
  s.setPatrol p (fun t => { t with timer := t.timer.map (fun at_ => at_ + t.interval * 60000) })

/-- A housing's presence may be written (R3). -/
def mayWritePresence (v : Presence) (h : Nat) (s : State) : Prop :=
  v = .absent → (s.housing h).presence = .present → heldBy s h = none

/-- What a command can do to the state, the answer of its port aside: each move with the guard under which it
is taken. -/
inductive Does : Instr → State → State → Prop
  | nothing (c : Instr) (s : State) : Does c s s
  -- resets (R178 to R180)
  | powerOn (straps : BitVec 4) (s : State) : Does (.powerOn straps) s (powerOnState straps s)
  | engineReset (c : Instr) (s : State) : Does c s (engineResetState s)
  | portReset (c : Instr) (p : Port) (s : State) : Does c s (portResetState p s)
  | portRelease (p : Port) (strap : Bool) (s : State) :
      Does (.portResetRelease p strap) s (portReleaseState p strap s)
  -- the port's own registers (R176, R177)
  | ports (c : Instr) {s t : State} (h : PortsMove s t) : Does c s t
  -- submissions (R115, R118)
  | submit (c : Instr) (s : State) {port : Port} {j : Job} (hj : j.PlainSubmission port)
      (hslot : quotaSpent port s = false) : Does c s (acceptJob j s)
  | submitDark (c : Instr) (s : State) (port : Port) (hslot : serviceFull s = false) :
      Does c s (acceptJob (darkJob port) s)
  | submitCommand (c : Instr) (s : State) (port : Port) (k n : Nat) (u : CommandUse)
      (hslot : quotaSpent port s = false)
      (hplace : (askedOwner s port u.pair u.opcode).isSome = true →
        s.channel.concur.length < Config.concurPlaces) :
      Does c s (submitCommandJob port k n u s)
  -- jobs in slots (R120, R130, R162)
  | cancel (c : Instr) (s : State) {n : Nat} {j : Job} {port : Port} (hjob : s.job? n = some j)
      (hport : j.requester = .port port) (hstate : j.state ≠ .ended) : Does c s (cancelState j s)
  | free (c : Instr) (s : State) {n : Nat} {j : Job} (hjob : s.job? n = some j) (hstate : j.state = .ended) :
      Does c s (s.freeJob j.number)
  | consent (c : Instr) (s : State) {n : Nat} {r : ConcurRec} (hrec : s.concurOf n = some r) :
      Does c s (consentState r.asked n s)
  | decline (c : Instr) (s : State) {n : Nat} {r : ConcurRec} (hrec : s.concurOf n = some r) :
      Does c s (declineState n s)
  -- tables (R34, R87 to R89, R111, R128, R134)
  | writeBases (c : Instr) (s : State) (p : PairNo) (k : Nat) (l : List Nat) : Does c s (writeBases p k l s)
  | relearn (c : Instr) (s : State) (p : PairNo) (a b : Nat) : Does c s (relearnRange p a b s)
  | freeze (port : Port) (x y : Byte) (s : State) (p : PairNo) (b : Bool) :
      Does (.freeze port x y) s (setFreeze p b s)
  | dismiss (c : Instr) (s : State) (p : PairNo) (f : FindingClass) (k : Nat) : Does c s (dismiss p f k s)
  | setPatrol (c : Instr) (s : State) (p : PairNo) (f : Patrol → Patrol) : Does c s (s.setPatrol p f)
  | setStats (c : Instr) (s : State) (p : PairNo) (f : Stats → Stats) : Does c s (s.setStats p f)
  | emptyLog (c : Instr) (s : State) : Does c s (emptyFaultLog s)
  -- the Line Map (R3, R8 to R14)
  | writeHousing (c : Instr) (s : State) {h : Byte} {v : Presence} (hnum : housingNumber h = true)
      (hfree : mayWritePresence v h.toNat s) : Does c s (s.setHousing h.toNat (withPresence v))
  | routeOpen (port : Port) (a b x d : Byte) (q : Half) (s : State) (p : PairNo) (u : Profile × Nat) :
      Does (.routeOpen port a b x d q) s (openRoute p u s)
  | routeEntries (port : Port) (a f : Byte) (l : List (Byte × Half)) (s : State) (p : PairNo)
      (hedit : (s.pair p).state = .edit) (hgood : badEntry l = none) (hfirst : f.toNat ≤ (s.pair p).n + 1) :
      Does (.routeEntries port a f l) s (s.setPair p (fun r => { r with
        route := writeEntries f.toNat (entriesUsed (seqLength (s.pair p).profile.order) f.toNat l)
          (s.pair p).route }))
  | routeClose (port : Port) (a : Byte) (s : State) (p : PairNo) (hedit : (s.pair p).state = .edit)
      (hvalid : validateRoute (housingPresent s) (s.pair p) = none) :
      Does (.routeClose port a) s (closeRoute p s)
  | assign (port : Port) (a : Byte) (f : Option Byte) (s : State) (p : PairNo) (o : Option Port)
      (hbusy : s.pairBusy p = false) (hconcerned : s.concerned p = false)
      (hword : sharedWordSending s p = false) : Does (.assign port a f) s (assignState p o s)
  -- parameters, dark offset, fault hold, synthetic line (R32, R47, R174, R182)
  | setParams (port : Port) (l : List (Byte × Half)) (s : State) : Does (.setParams port l) s (writeParams l s)
  | holdOffset (port : Port) (v : Half) (s : State) :
      Does (.setDarkModeManual port v) s (setIntake (holdOffset (clamp 0 16383 v.toNat) s.intake) s)
  | releaseOffset (c : Instr) (s : State) : Does c s (setIntake (releaseOffset s.intake) s)
  | clearFault (c : Instr) (s : State) : Does c s (clearFaultState s)
  | define (port : Port) (o : Byte) (q d n e : Half) (m : Byte) (l : List (Half × Half)) (s : State)
      (f : SynthDef) : Does (.synthDefine port o q d n e m l) s (holdDefinition f s)
  -- settle ends and boundaries (R20, R24, R27, R57 to R59)
  | settle (c : Instr) (s : State) {goal : Order} (hdue : settleDue s = some goal) :
      Does c s (afterSettle (settleInto goal s))
  | settleFault (c : Instr) (s : State) {goal : Order} (hdue : settleDue s = some goal) :
      Does c s (arbitrate (faultOnPair s))
  | settleDark (c : Instr) (s : State) {goal : Order} (hdue : settleDue s = some goal)
      (hpos : ¬ s.seq.position < 16) : Does c s (settleInto goal (takeFault s))
  | fillEnd (c : Instr) (s : State) (hdue : boundaryKind s = some .fillEnd) :
      Does c s (startPass (endFill (tookBoundary s)))
  | startPass (c : Instr) (s : State) : Does c s (startPass (tookBoundary s))
  | period (c : Instr) (s : State) : Does c s (setCorr (countPeriod s.corr) (tookBoundary s))
  | passEnd (c : Instr) (s : State) {rec : PassRecord} (hdue : endingPass s = some rec) :
      Does c s (evaluateAndGoOn rec (tookBoundary s))
  | passFault (c : Instr) (s : State) {rec : PassRecord} (hdue : endingPass s = some rec) :
      Does c s (arbitrate (faultOnPair (tookBoundary s)))
  | passDark (c : Instr) (s : State) {rec : PassRecord} (hdue : endingPass s = some rec) :
      Does c s (evaluateAndGoOn rec (takeFault (tookBoundary s)))
  -- dark work, words and slots (R28, R44, R74, R75, R155)
  | calibrated (s : State) {a : DarkAcc} {j : Job} (hdue : samplingDone s = some a)
      (hactive : s.active? = some j) (hdark : j.kind = .dark) :
      Does .darkSamplingEnd s (decideCalibration j a s)
  | wordEnd (c : Instr) (s : State) (hdue : wordDue s = true) : Does c s (afterWord (enterReply s))
  | slotStart (c : Instr) (s : State) {su : SlotSetup} (hdue : slotAtBoundary .slotStart s = some su) :
      Does c s (setCorr { s.corr with
        slot := some { su with periodsLeft := some (2 ^ su.r) }, cells := slotCells su } (tookBoundary s))
  | slotResult (c : Instr) (s : State) {su : SlotSetup} (hdue : slotAtBoundary .slotResult s = some su) :
      Does c s (setCorr { s.corr with slot := some { su with slot := su.slot + 1, periodsLeft := none } }
        (addSlot (slotOutcome su s.corr.cells) (tookBoundary s)))
  | lastSlot (c : Instr) (s : State) {su : SlotSetup} (hdue : slotAtBoundary .slotResult s = some su) :
      Does c s (decideWord su.params.retryMax
        (dropPass (addSlot (slotOutcome su s.corr.cells) (tookBoundary s))))
  | exchangeEnd (c : Instr) (s : State) {j : Job} {f : CommandFields} (hdue : exchangeDue s = true)
      (hjob : s.job? s.channel.exchange.job = some j) (hcmd : j.cmd = some f) :
      Does c s (afterExchange j f s.channel.exchange (s.setExchange Exchange.none))
  | exchangeLost (c : Instr) (s : State) (hdue : exchangeDue s = true)
      (hlost : ∀ j, s.job? s.channel.exchange.job = some j → j.cmd = none) :
      Does c s (s.setExchange Exchange.none)
  -- timers, strobes and the millisecond (R18, R36, R107, R129, R163)
  | patrol (c : Instr) (s : State) (p : PairNo) (hslot : patrolSlotTaken p s = false) :
      Does c s (acceptJob (patrolJob p s) (runPatrolOn p s))
  | expiry (c : Instr) (s : State) (keep : Finding → Bool) :
      Does c s { s with findings := s.findings.filter keep }
  | deadline (c : Instr) (s : State) {n : Nat} {r : ConcurRec} (hrec : s.concurOf n = some r) :
      Does c s (endJob n .concurExpired (s.removeConcur n))
  | chip (c : Instr) (s : State) (adc : BitVec 14) : Does c s (chipStrobe adc s)
  | darkStrobe (c : Instr) (s : State) (adc : BitVec 14) :
      Does c s { s with intake := darkSample adc.toNat s.intake }
  | tick (s : State) : Does .lineTimeTick s { s with lineTime := s.lineTime + 1 }

/-! ### Requests: each does nothing or its move -/

section
variable {c : Instr} {s : State} {port : Port}

theorem Does.stationOnly {k : State × Resp} (h : Does c s k.1) : Does c s (stationOnly port s k).1 := by
  unfold Machine.stationOnly
  split
  · exact h
  · exact .nothing c s

theorem Does.withPair {b : Byte} {k : PairNo → State × Resp} (h : ∀ p, Does c s (k p).1) :
    Does c s (withPair b s k).1 := by
  unfold Machine.withPair
  split
  · exact h _
  · exact .nothing c s

/-- A check that refuses where it fails. -/
theorem Does.unless {P : Prop} [Decidable P] {r : Resp} {k : State × Resp} (h : ¬ P → Does c s k.1) :
    Does c s (if P then (s, r) else k).1 := by
  split
  · exact .nothing c s
  · exact h ‹_›

theorem quotaSpent_eq_false (h : ¬ quotaSpent port s = true) : quotaSpent port s = false := by
  simpa using h

theorem does_submitMeasure (pair first last q w track urgent : Byte) :
    Does c s (reqSubmitMeasure port pair first last q w track urgent s).1 := by
  unfold reqSubmitMeasure
  split
  · refine .withPair fun p => .unless fun _ => .unless fun _ => .unless fun hq => ?_
    dsimp only
    refine .submit c s (port := port) ?_ (quotaSpent_eq_false hq)
    exact ⟨rfl, .inl rfl, rfl, rfl⟩
  · exact .nothing c s

theorem does_submitSurvey (pair : Byte) (start stop : Half) (q urgent : Byte) :
    Does c s (reqSubmitSurvey port pair start stop q urgent s).1 := by
  unfold reqSubmitSurvey
  split
  · exact .nothing c s
  · refine .withPair fun p => .unless fun _ => .unless fun _ => .unless fun hq => ?_
    dsimp only
    refine .submit c s (port := port) ?_ (quotaSpent_eq_false hq)
    exact ⟨rfl, .inr (.inl rfl), rfl, rfl⟩

theorem does_submitDark : Does c s (reqSubmitDark port s).1 :=
  .stationOnly (.unless fun hfull => .submitDark c s port (by simpa using hfull))

theorem does_submitSynth (q w urgent : Byte) : Does c s (reqSubmitSynth port q w urgent s).1 := by
  unfold reqSubmitSynth
  split
  · exact .nothing c s
  · refine .stationOnly ?_
    split
    · exact .nothing c s
    · refine .unless fun hq => ?_
      dsimp only
      refine .submit c s (port := port) ?_ (quotaSpent_eq_false hq)
      exact ⟨rfl, .inr (.inr rfl), rfl, rfl⟩

theorem does_commandChecks (p : PairNo) (housing opcode : Byte) (arg : Half) (t : CommandTail) :
    Does c s (commandChecks port p housing opcode arg t s).1 := by
  unfold commandChecks
  dsimp only
  split
  · exact .nothing c s
  · split
    · exact .nothing c s
    · split
      · exact .nothing c s
      · refine .unless fun hq => .unless fun hplaces => ?_
        refine .submitCommand c s port _ _ _ (quotaSpent_eq_false hq) fun hasked => ?_
        simp only [Bool.and_eq_true, decide_eq_true_eq, not_and, not_le] at hplaces
        exact hplaces hasked

theorem does_submitCommand (pair housing opcode : Byte) (arg : Half) (rest : List Byte) :
    Does c s (reqSubmitCommand port pair housing opcode arg rest s).1 := by
  unfold reqSubmitCommand
  split
  · exact .nothing c s
  · exact .withPair fun p => .unless fun _ => .unless fun _ => .unless fun _ => does_commandChecks ..

theorem does_cancelJob (job : Byte) : Does c s (reqCancelJob port job s).1 := by
  unfold reqCancelJob
  split
  · exact .nothing c s
  · refine .unless fun hport => .unless fun _ => .unless fun hstate => ?_
    exact .cancel c s ‹_› (not_not.mp hport) hstate

theorem does_jobStatus (job : Byte) : Does c s (reqJobStatus port job s).1 := by
  unfold reqJobStatus
  split
  · exact .nothing c s
  · refine .unless fun _ => ?_
    dsimp only
    split
    · exact .free c s ‹_› ‹_›
    · exact .nothing c s

theorem does_concur (job : Byte) (answer : Nat → State → State)
    (h : ∀ r, s.concurOf job.toNat = some r → r.asked = port → Does c s (answer job.toNat s)) :
    Does c s (reqConcur port job answer s).1 := by
  unfold reqConcur
  split
  · next r hr =>
    split
    · exact h r hr ‹_›
    · exact .nothing c s
  · exact .nothing c s

theorem does_writeSignature (pair first : Byte) (values : List Half) :
    Does c s (reqWriteSignature port pair first values s).1 :=
  .unless fun _ => .withPair fun _ => .unless fun _ => .unless fun _ => .unless fun _ => .writeBases ..

theorem does_relearn (pair first last : Byte) : Does c s (reqRelearn port pair first last s).1 :=
  .withPair fun _ => .unless fun _ => .unless fun _ => .relearn ..

theorem does_freeze (pair flag : Byte) : Does (.freeze port pair flag) s (reqFreeze port pair flag s).1 := by
  unfold reqFreeze
  split
  · exact .nothing _ s
  · exact .withPair fun _ => .unless fun _ => .freeze ..

theorem does_readFindings (selector : Selector) (skip : Byte) :
    Does c s (reqReadFindings port selector skip s).1 := by
  unfold reqReadFindings
  split
  · exact .nothing c s
  · exact .withPair fun _ => .unless fun _ => .nothing c s

theorem does_dismiss (pair cls location : Byte) : Does c s (reqDismiss port pair cls location s).1 := by
  unfold reqDismiss
  split
  · exact .nothing c s
  · refine .withPair fun p => .unless fun _ => .unless fun _ => ?_
    split
    · exact .dismiss ..
    · exact .nothing c s

theorem does_writeHousing (housing presence : Byte) :
    Does c s (reqWriteHousing port housing presence s).1 := by
  unfold reqWriteHousing
  split
  · exact .nothing c s
  · next v _ =>
    refine .stationOnly ?_
    dsimp only
    refine .unless fun hnum => ?_
    split
    · exact .nothing c s
    · next hother =>
      refine .writeHousing c s (by simpa using hnum) fun hv hp => ?_
      cases hheld : heldBy s housing.toNat with
      | none => rfl
      | some k => exact absurd hheld (hother k.1 k.2 hv hp)

theorem does_routeOpen (pair order chip drive : Byte) (quietBase : Half) :
    Does (.routeOpen port pair order chip drive quietBase) s
      (reqRouteOpen port pair order chip drive quietBase s).1 :=
  .stationOnly (.withPair fun _ => .unless fun _ => .routeOpen ..)

theorem does_routeEntries (pair first : Byte) (entries : List (Byte × Half)) :
    Does (.routeEntries port pair first entries) s (reqRouteEntries port pair first entries s).1 := by
  refine .unless fun _ => .stationOnly (.withPair fun p => .unless fun hedit => .unless fun hfirst => ?_)
  split
  · exact .nothing _ s
  · exact .routeEntries port pair first entries s p (not_not.mp hedit) ‹_› (by omega)

theorem does_routeClose (pair : Byte) : Does (.routeClose port pair) s (reqRouteClose port pair s).1 := by
  refine .stationOnly (.withPair fun p => .unless fun hedit => ?_)
  split
  · exact .nothing _ s
  · exact .routeClose port pair s p (not_not.mp hedit) ‹_›

theorem does_assign (pair : Byte) (owner : Option Byte) :
    Does (.assign port pair owner) s (reqAssign port pair owner s).1 := by
  refine .stationOnly (.withPair fun p => ?_)
  split
  · exact .nothing _ s
  · refine .unless fun hbusy => .unless fun _ => ?_
    simp only [Bool.or_eq_true, not_or, Bool.not_eq_true] at hbusy
    exact .assign port pair owner s p _ hbusy.1.1 hbusy.1.2 hbusy.2

theorem does_setParams (entries : List (Byte × Half)) :
    Does (.setParams port entries) s (reqSetParams port entries s).1 :=
  .unless fun _ => .stationOnly (.setParams ..)

theorem does_synthDefine (order : Byte) (quietBase dc noise seed : Half) (mode : Byte)
    (echoes : List (Half × Half)) : Does (.synthDefine port order quietBase dc noise seed mode echoes) s
      (reqSynthDefine port order quietBase dc noise seed mode echoes s).1 := by
  unfold reqSynthDefine
  split
  · exact .nothing _ s
  · refine .unless fun _ => .stationOnly ?_
    dsimp only
    split
    · exact .nothing _ s
    · exact .unless fun _ => .define ..

/-! ### Events: each does nothing or its move -/

/-- The check of R24 passes, or fails on a pair position or on the dark position (R30). -/
theorem does_settleEnd (fb : BitVec 5) : Does c s (settleEndState fb s) := by
  unfold settleEndState
  split
  · exact .nothing c s
  · next goal hdue =>
    split
    · exact .settle c s hdue
    · split
      · exact .settleFault c s hdue
      · exact .settleDark c s hdue ‹_›

theorem does_fillEnd : Does c s (fillEndState s) := by
  unfold fillEndState
  split
  · exact .fillEnd c s ‹_›
  · exact .nothing c s

theorem does_periodBoundary : Does c s (periodBoundaryState s) := by
  unfold periodBoundaryState
  dsimp only
  split
  · split
    · exact .startPass c s
    · exact .period c s
  · exact .nothing c s

theorem does_accumulationEnd (fb : BitVec 5) : Does c s (accumulationEndState fb s) := by
  unfold accumulationEndState
  dsimp only
  split
  · exact .nothing c s
  · next rec hdue =>
    split
    · exact .passEnd c s hdue
    · split
      · exact .passFault c s hdue
      · exact .passDark c s hdue

theorem does_darkEnd : Does .darkSamplingEnd s (darkEndState s) := by
  unfold darkEndState
  split
  · next ha hj =>
    split
    · exact .calibrated s ha hj ‹_›
    · exact .nothing _ s
  · exact .nothing _ s

theorem does_wordEnd : Does c s (wordEndState s) := by
  unfold wordEndState
  split
  · exact .wordEnd c s ‹_›
  · exact .nothing c s

theorem does_slotStart : Does c s (slotStartState s) := by
  unfold slotStartState
  split
  · exact .nothing c s
  · exact .slotStart c s ‹_›

theorem does_slotResult : Does c s (slotResultState s) := by
  unfold slotResultState
  dsimp only
  split
  · exact .nothing c s
  · split
    · exact .slotResult c s ‹_›
    · exact .lastSlot c s ‹_›

theorem does_exchangeEnd : Does c s (exchangeEndState s) := by
  unfold exchangeEndState
  dsimp only
  split
  · next hdue =>
    have hfind : (s.setExchange Exchange.none).job? s.channel.exchange.job =
        s.job? s.channel.exchange.job := rfl
    split
    · next hnone =>
      exact .exchangeLost c s hdue fun j hj => by rw [hfind, hj] at hnone; cases hnone
    · next j hj =>
      split
      · exact .exchangeEnd c s hdue hj ‹_›
      · next hcmd =>
        exact .exchangeLost c s hdue fun k hk => by
          rw [hfind, hk] at hj
          cases hj
          exact hcmd
  · exact .nothing c s

theorem does_patrolExpiry (p : PairNo) : Does c s (patrolExpiryState p s) := by
  unfold patrolExpiryState
  dsimp only
  split
  · split
    · next h => exact .patrol c s p h.2
    · exact .setPatrol ..
  · exact .nothing c s

theorem does_expiry : Does c s (expiryState s) := by
  unfold expiryState
  split
  · exact .expiry c s _
  · exact .nothing c s

/-- A record that is due is in the table (R163). -/
theorem concurOf_of_deadlineDue {n : Nat} (h : deadlineDue n s = true) : ∃ r, s.concurOf n = some r := by
  cases hr : s.concurOf n with
  | none => simp [deadlineDue, hr] at h
  | some r => exact ⟨r, rfl⟩

theorem does_deadline (n : Nat) : Does c s (deadlineState n s) := by
  unfold deadlineState
  split
  · obtain ⟨r, hr⟩ := concurOf_of_deadlineDue ‹_›
    exact .deadline c s hr
  · exact .nothing c s

theorem does_strobe (adc : BitVec 14) : Does c s (strobeState adc s) := by
  unfold strobeState
  split
  · split
    · exact .nothing c s
    · exact .chip ..
  · split
    · exact .darkStrobe ..
    · exact .nothing c s

end

/-! ### The commands -/

/-- A command carried out: it answers a state that its move gives, up to moves of the ports. -/
def Carries (c : Instr) (s : State) (o : Host.Outcome State Fault Refusal) : Prop :=
  ∃ t v, o = .next t ∧ Does c s v ∧ PortsMove v t

theorem Carries.event {c : Instr} {s t : State} (h : Does c s t) : Carries c s (.next t) :=
  ⟨t, t, rfl, h, .refl t⟩

theorem Carries.request {c : Instr} {s : State} {p : Port} {f : State → State × Resp}
    (h : Does c s (f s).1) : Carries c s (takeRequest p s f) := by
  unfold takeRequest
  split
  · exact ⟨_, _, rfl, h, .holdResponse _ _ _⟩
  · exact .event (.nothing c s)

/-- Every command but the bytes clocked on a port is its own move. -/
theorem exec_carries (c : Instr) (s : State) (h : ∀ p clocked, c ≠ .responseReadOut p clocked) :
    Carries c s (exec c s) := by
  cases c with
  | powerOn straps => exact .event (.powerOn straps s)
  | engineResetPin => exact .event (.engineReset _ s)
  | portReset p => exact .event (.portReset _ p s)
  | portResetRelease p strap => exact .event (.portRelease p strap s)
  | frameMalformed frame =>
    change Carries _ s (execFrameMalformed frame s)
    unfold execFrameMalformed
    split
    · exact .request (.nothing _ s)
    · exact .event (.nothing _ s)
  | identify | readStatus | readResults | readConcur => exact .request (.nothing _ s)
  | readNotices | setNoticeMask | clearNotices =>
    exact .request (.ports _ (.setPort s _ fun _ => rfl))
  | submitMeasure => exact .request (does_submitMeasure ..)
  | submitSurvey => exact .request (does_submitSurvey ..)
  | submitCommand => exact .request (does_submitCommand ..)
  | submitDark => exact .request does_submitDark
  | submitSynth => exact .request (does_submitSynth ..)
  | cancelJob => exact .request (does_cancelJob _)
  | jobStatus => exact .request (does_jobStatus _)
  | concurYes => exact .request (does_concur _ _ fun r hr hport => hport ▸ .consent _ s hr)
  | concurNo => exact .request (does_concur _ _ fun r hr _ => .decline _ s hr)
  | readSignature => exact .request (.withPair fun _ => .unless fun _ => .unless fun _ => .nothing _ s)
  | readRoute => exact .request (.withPair fun _ => .unless fun _ => .nothing _ s)
  | writeSignature => exact .request (does_writeSignature ..)
  | relearn => exact .request (does_relearn ..)
  | freeze => exact .request (does_freeze ..)
  | readFindings => exact .request (does_readFindings ..)
  | dismiss => exact .request (does_dismiss ..)
  | setPatrol => exact .request (.withPair fun _ => .unless fun _ => .setPatrol ..)
  | readPairStats => exact .request (.withPair fun _ => .unless fun _ => .setStats ..)
  | writeHousing => exact .request (does_writeHousing ..)
  | readHousing => exact .request (.unless fun _ => .unless fun _ => .nothing _ s)
  | routeOpen => exact .request (does_routeOpen ..)
  | routeEntries => exact .request (does_routeEntries ..)
  | routeClose => exact .request (does_routeClose _)
  | assign => exact .request (does_assign ..)
  | setParams => exact .request (does_setParams _)
  | setDarkModeManual => exact .request (.stationOnly (.holdOffset ..))
  | setDarkModeAuto => exact .request (.stationOnly (.releaseOffset ..))
  | readFaultLog => exact .request (.stationOnly (.emptyLog ..))
  | clearSwitchFault =>
    refine .request (.stationOnly ?_)
    split
    · exact .clearFault ..
    · exact .nothing _ s
  | engineReset => exact .request (.stationOnly (.engineReset ..))
  | synthDefine => exact .request (does_synthDefine ..)
  | settleEnd fb => exact .event (does_settleEnd fb)
  | fillEnd => exact .event does_fillEnd
  | periodBoundary => exact .event does_periodBoundary
  | accumulationEnd fb => exact .event (does_accumulationEnd fb)
  | darkSamplingEnd => exact .event does_darkEnd
  | wordEnd => exact .event does_wordEnd
  | slotStart => exact .event does_slotStart
  | slotResult => exact .event does_slotResult
  | exchangeEnd => exact .event does_exchangeEnd
  | patrolTimerExpiry p => exact .event (does_patrolExpiry p)
  | suspectExpiryCheck => exact .event does_expiry
  | concurDeadline job => exact .event (does_deadline job.toNat)
  | sampleStrobe adc => exact .event (does_strobe adc)
  | lineTimeTick => exact .event (.tick s)
  | responseReadOut p clocked => exact absurd rfl (h p clocked)

/-- A command that is no request has no meaning in a frame. -/
theorem requestMeaning_of_no_port (i : Instr) (s : State) (h : i.requestPort = none) :
    requestMeaning i s = .next s := by
  cases i <;> first | rfl | (simp [Instr.requestPort] at h)

theorem requestMeaning_carries (i : Instr) (s : State) : Carries i s (requestMeaning i s) := by
  cases hport : i.requestPort with
  | none => rw [requestMeaning_of_no_port i s hport]; exact .event (.nothing i s)
  | some p =>
    rw [requestMeaning_eq_exec i p s hport]
    exact exec_carries i s fun q clocked hi => by rw [hi] at hport; cases hport

/-- Every command answers a next state: the move of the request it carries, between moves of the ports
(R168). -/
theorem exec_does (c : Instr) (s : State) :
    ∃ t, exec c s = .next t ∧ ∃ u v, PortsMove s u ∧ Does (carried c s) u v ∧ PortsMove v t := by
  by_cases hread : ∃ p clocked, c = .responseReadOut p clocked
  · obtain ⟨p, clocked, rfl⟩ := hread
    have hclock : PortsMove s (s.setPort p (clockPort clocked)) := .setPort s p fun t => by simp
    change ∃ t, execResponseReadOut p clocked s = .next t ∧ _
    cases hends : endsFrame clocked (s.port p) with
    | false =>
      rw [execResponseReadOut_of_not_endsFrame p clocked s hends]
      exact ⟨_, rfl, _, _, hclock, .nothing _ _, .refl _⟩
    | true =>
      rw [execResponseReadOut_of_endsFrame p clocked s hends]
      have hcarried : carried (.responseReadOut p clocked) s =
          frameCommand ⟨p, (clockPort clocked (s.port p)).received⟩ := by simp [carried, hends]
      have hport : (s.setPort p (clockPort clocked)).port p = clockPort clocked (s.port p) := by
        simp [State.port_setPort]
      unfold takeFrame
      rw [hcarried, hport]
      obtain ⟨t, v, ht, hdoes, hmove⟩ := requestMeaning_carries
        (frameCommand ⟨p, (clockPort clocked (s.port p)).received⟩)
        (readyPort p (s.setPort p (clockPort clocked)))
      rw [ht]
      exact ⟨_, rfl, _, v, hclock.trans (.setPort _ p (f := fun t => { t with frame := .idle }) fun _ => rfl), hdoes,
        hmove.trans (.setPort _ p fun _ => rfl)⟩
  · obtain ⟨t, v, ht, hdoes, hmove⟩ := exec_carries c s fun p clocked h => hread ⟨p, clocked, h⟩
    have hcarried : carried c s = c := by
      cases c with
      | responseReadOut p clocked => exact absurd ⟨p, clocked, rfl⟩ hread
      | _ => rfl
    exact ⟨t, ht, s, v, .refl s, hcarried.symm ▸ hdoes, hmove⟩

/-- The inversion of `exec`. -/
theorem does_of_exec {c : Instr} {s t : State} (h : exec c s = .next t) :
    ∃ u v, PortsMove s u ∧ Does (carried c s) u v ∧ PortsMove v t := by
  obtain ⟨t', ht', u, v, hsu, hdoes, hvt⟩ := exec_does c s
  rw [h] at ht'
  cases ht'
  exact ⟨u, v, hsu, hdoes, hvt⟩

/-- A law that reads neither the ports nor the queue, and that every move keeps, is kept by every step. -/
theorem step_keeps {P : State → Prop} (hports : ∀ s ps, P s → P { s with ports := ps })
    (hqueue : ∀ s q, P s → P (s.withPending q)) (hdoes : ∀ c s t, Does c s t → P s → P t) {s t : State}
    (h : step s = .next t) (hs : P s) : P t := by
  unfold step at h
  split at h
  · cases h
    exact hports _ _ hs
  · next c rest _ =>
    obtain ⟨u, v, hsu, hmove, hvt⟩ := does_of_exec h
    have hu : P u := hsu.rest ▸ hports _ _ (hqueue s rest hs)
    exact hvt.rest ▸ hports _ _ (hdoes _ _ _ hmove hu)

end Sys2Proof.Machine
end

section
/-! R95: the law of the finding list, kept by every step. -/

namespace Sys2Proof.Machine

/-! ### What the moves leave as it was -/

section
variable (s : State)

@[simp] theorem portResetState_findings (p : Port) : (portResetState p s).findings = s.findings := by
  unfold portResetState
  split
  · rfl
  · rw [arbitrate_findings]
    rfl

@[simp] theorem portReleaseState_findings (p : Port) (b : Bool) :
    (portReleaseState p b s).findings = s.findings := by
  unfold portReleaseState
  split <;> rfl

@[simp] theorem engineResetState_findings : (engineResetState s).findings = s.findings := by
  unfold engineResetState
  dsimp only
  split
  · rw [arbitrate_findings]
    rfl
  · rfl

@[simp] theorem submitCommandJob_findings (port : Port) (k n : Nat) (u : CommandUse) :
    (submitCommandJob port k n u s).findings = s.findings := by
  unfold submitCommandJob
  dsimp only
  split <;> simp

@[simp] theorem startPass_findings : (startPass s).findings = s.findings := by
  unfold startPass
  split <;> rfl

@[simp] theorem endFill_findings : (endFill s).findings = s.findings := by
  unfold endFill
  split <;> rfl

@[simp] theorem runPatrolOn_findings (p : PairNo) : (runPatrolOn p s).findings = s.findings := rfl

@[simp] theorem chipStrobe_findings (adc : BitVec 14) : (chipStrobe adc s).findings = s.findings := rfl

end

/-! ### Lists of findings at distinct places -/

/-- The law of R95 on the list itself. -/
def FindingsOk (l : List Finding) : Prop := l.length ≤ 32 ∧ l.Pairwise (fun f g => ¬ f.samePlace g)

theorem findingsLaw_iff (s : State) : FindingsLaw s ↔ FindingsOk s.findings := Iff.rfl

theorem FindingsOk.nil : FindingsOk [] := ⟨Nat.zero_le _, .nil⟩

theorem FindingsOk.sublist {l l' : List Finding} (h : FindingsOk l) (hsub : l'.Sublist l) : FindingsOk l' :=
  ⟨hsub.length_le.trans h.1, h.2.sublist hsub⟩

theorem FindingsOk.filter {l : List Finding} (h : FindingsOk l) (p : Finding → Bool) :
    FindingsOk (l.filter p) := h.sublist List.filter_sublist

/-- Two findings share a place where their places' parts are equal. -/
theorem Finding.samePlace_congr {f f' g g' : Finding} (hf : f'.samePlace f) (hg : g'.samePlace g) :
    f'.samePlace g' → f.samePlace g := by
  unfold Finding.samePlace at *
  grind

/-- Entries that leave the list or stay at their places. -/
theorem FindingsOk.filterMap {l : List Finding} (h : FindingsOk l) {f : Finding → Option Finding}
    (hf : ∀ a b, f a = some b → b.samePlace a) : FindingsOk (l.filterMap f) := by
  refine ⟨(List.length_filterMap_le f l).trans h.1, h.2.filterMap f fun a b hab a' ha b' hb hsame => ?_⟩
  exact hab (Finding.samePlace_congr (hf a a' ha) (hf b b' hb) hsame)

theorem FindingsOk.map {l : List Finding} (h : FindingsOk l) {f : Finding → Finding}
    (hf : ∀ a, (f a).samePlace a) : FindingsOk (l.map f) := by
  rw [← List.filterMap_eq_map]
  exact h.filterMap fun a b hab => by cases hab; exact hf a

/-- A finding at a place that the list does not hold joins a list that has room. -/
theorem FindingsOk.append {l : List Finding} (h : FindingsOk l) (hroom : l.length < 32) {f : Finding}
    (hnew : ∀ g ∈ l, ¬ g.samePlace f) : FindingsOk (l ++ [f]) := by
  refine ⟨by simpa using hroom, List.pairwise_append.mpr ⟨h.2, List.pairwise_singleton _ _, ?_⟩⟩
  simpa using hnew

/-! ### Operations on the list -/

theorem Finding.isAt_iff (f : Finding) (p : PairNo) (c : FindingClass) (k : Nat) :
    f.isAt p c k = true ↔ f.pair = p ∧ f.cls = c ∧ f.location = k := by
  simp [Finding.isAt, and_assoc]

theorem sighted_samePlace (par : Params) (stamp : Nat) (d : Detection) (f : Finding) :
    (sighted par stamp d f).samePlace f := by
  unfold sighted
  split <;> exact ⟨rfl, rfl, rfl⟩

theorem cleanEntry_samePlace {n : Nat} {f g : Finding} (h : cleanEntry n f = some g) : g.samePlace f := by
  unfold cleanEntry at h
  dsimp only at h
  split at h <;> cases h <;> exact ⟨rfl, rfl, rfl⟩

theorem isolateEntry_samePlace (p : PairNo) (k : Nat) (f : Finding) : (isolateEntry p k f).samePlace f := by
  unfold isolateEntry
  split <;> exact ⟨rfl, rfl, rfl⟩

/-- Room is made by keeping entries, at most 31 of them. -/
theorem makeRoom_some {l l' : List Finding} (h : makeRoom l = some l') (hl : l.length ≤ 32) :
    l'.Sublist l ∧ l'.length < 32 := by
  unfold makeRoom Config.findingPlaces at h
  split at h
  · cases h
    exact ⟨.refl _, ‹_›⟩
  · split at h
    · next hany =>
      cases h
      obtain ⟨f, hf, hcleared⟩ := List.any_eq_true.mp hany
      have hlen : (evictCleared l).length = l.length - 1 := List.length_eraseP_of_mem hf hcleared
      have hpos : 0 < l.length := List.length_pos_of_mem hf
      exact ⟨List.eraseP_sublist, by omega⟩
    · cases h

theorem applyDetection_keeps_findingsOk (par : Params) (p : PairNo) (stamp : Nat) (d : Detection) (s : State)
    (h : FindingsOk s.findings) : FindingsOk (applyDetection par p stamp d s).1.findings := by
  unfold applyDetection
  dsimp only
  split
  · next f _ =>
    have hmap : FindingsOk (s.findings.map
        (fun g => if g.isAt p d.cls d.location then sighted par stamp d g else g)) := by
      refine h.map fun g => ?_
      split
      · exact sighted_samePlace ..
      · exact ⟨rfl, rfl, rfl⟩
    cases f.state with
    | suspect => dsimp only; split <;> simpa using hmap
    | cleared => simpa using hmap
    | confirmed | isolated => exact hmap
  · next hnone =>
    split
    · next l hl =>
      obtain ⟨hsub, hroom⟩ := makeRoom_some hl h.1
      rw [raiseNew_findings]
      refine (h.sublist hsub).append hroom fun g hg hsame => ?_
      have hat := List.find?_eq_none.mp hnone g (hsub.subset hg)
      exact hat ((Finding.isAt_iff ..).mpr hsame)
    · simpa using h

theorem applyDetections_keeps_findingsOk (par : Params) (p : PairNo) (stamp : Nat) (l : List Detection) :
    ∀ s : State, FindingsOk s.findings → FindingsOk (applyDetections par p stamp l s).1.findings := by
  induction l with
  | nil => exact fun s h => h
  | cons d rest ih => exact fun s h => ih _ (applyDetection_keeps_findingsOk par p stamp d s h)

theorem cleanObservations_keeps_findingsOk (par : Params) (p : PairNo) (a b : Nat)
    (records : List EchoRecord) (found : List Detection) (s : State) (h : FindingsOk s.findings) :
    FindingsOk (cleanObservations par p a b records found s).findings := by
  have hkept : FindingsOk (s.findings.filterMap (fun f =>
      if examined p a b found f && observedClean par.stable records f then cleanEntry par.clearN f
      else some f)) := by
    refine h.filterMap fun f g hfg => ?_
    split at hfg
    · exact cleanEntry_samePlace hfg
    · cases hfg
      exact ⟨rfl, rfl, rfl⟩
  unfold cleanObservations
  dsimp only
  split
  · simpa using hkept
  · exact hkept

/-- A run of operations that each keep something keeps it. -/
theorem foldl_keep {α β σ : Type*} (f : σ → β) (g : σ → α → σ) (hg : ∀ s a, f (g s a) = f s) (l : List α)
    (s : σ) : f (l.foldl g s) = f s :=
  List.foldlRecOn (motive := fun t => f t = f s) l g rfl fun t ht a _ => (hg t a).trans ht

theorem locate_keeps_findingsOk (rec : PassRecord) (p : PairNo) (stamp : Nat) (records : List EchoRecord)
    (drifts : List (Nat × Int)) (s : State) (h : FindingsOk s.findings) :
    FindingsOk (locate rec p stamp records drifts s).1.findings := by
  unfold locate
  dsimp only
  rw [foldl_keep State.findings _ (fun s k => takeConfirm_findings ..)]
  exact cleanObservations_keeps_findingsOk _ _ _ _ _ _ _ (applyDetections_keeps_findingsOk _ _ _ _ _ h)

theorem stepsTwoThree_keeps_findingsOk (rec : PassRecord) (records : List EchoRecord) (s : State)
    (h : FindingsOk s.findings) : FindingsOk (stepsTwoThree rec records s).1.findings := by
  unfold stepsTwoThree
  dsimp only
  split
  · exact h
  · split
    · exact locate_keeps_findingsOk _ _ _ _ _ _ (by simpa using h)
    · simpa using h
    · simpa using h

theorem evaluatePass_keeps_findingsOk (rec : PassRecord) (s : State) (h : FindingsOk s.findings) :
    FindingsOk (evaluatePass rec s).findings := by
  unfold evaluatePass
  dsimp only
  rw [dropPass_findings, stepFive_findings]
  split
  · simpa using h
  · rw [deliver_findings]
    exact stepsTwoThree_keeps_findingsOk rec _ s h

theorem evaluateAndGoOn_keeps_findingsOk (rec : PassRecord) (s : State) (h : FindingsOk s.findings) :
    FindingsOk (evaluateAndGoOn rec s).findings := by
  unfold evaluateAndGoOn
  rw [afterPass_findings]
  exact evaluatePass_keeps_findingsOk rec s h

theorem isolate_keeps_findingsOk (p : PairNo) (k : Nat) (s : State) (h : FindingsOk s.findings) :
    FindingsOk (isolate p k s).findings := h.map fun f => isolateEntry_samePlace p k f

theorem completeCommand_keeps_findingsOk (p : PairNo) (c : CommandFields) (s : State)
    (h : FindingsOk s.findings) : FindingsOk (completeCommand p c s).findings := by
  have hmute : ∀ muting, FindingsOk (completeMute p c muting s).findings := by
    intro muting
    have hrelearned : ∀ t : State, t.findings = s.findings → FindingsOk
        (if muting then isolate p (((s.setHousing c.housing (writeMutes p c.argument muting)).pair p).positionOf
          c.housing |>.getD 0) t else t).findings := by
      intro t ht
      split
      · exact isolate_keeps_findingsOk _ _ _ (ht ▸ h)
      · exact ht ▸ h
    unfold completeMute
    dsimp only
    exact hrelearned _ (by repeat' split <;> simp)
  have hshared : FindingsOk (completeShared p c s).findings := by
    unfold completeShared
    dsimp only
    refine List.foldlRecOn (motive := fun s : State => FindingsOk s.findings) _ _ ?start fun t ht q _ => ?one
    case start => split <;> simpa using h
    case one => exact isolate_keeps_findingsOk _ _ _ (by simpa using ht)
  unfold completeCommand
  cases c.opcode with
  | selectPump | trimGain => exact hshared
  | mute | unmute => exact hmute _
  | setLoopback => simpa [completeLoopback] using h
  | nop | queryPumps | queryTemp => exact h

theorem decideWord_keeps_findingsOk (retryMax : Nat) (s : State) (h : FindingsOk s.findings) :
    FindingsOk (decideWord retryMax s).findings := by
  unfold decideWord
  dsimp only
  split
  · exact h
  · split
    · split
      · simpa using h
      · simpa using h
      · simpa using h
      · unfold wordSucceeded
        dsimp only
        split
        · exact completeCommand_keeps_findingsOk _ _ _ (by simpa using h)
        · simpa using h
    · simpa using h

/-- Every move keeps the law of R95. -/
theorem Does.keeps_findingsLaw {c : Instr} {s t : State} (hdoes : Does c s t) (h : FindingsLaw s) :
    FindingsLaw t := by
  rw [findingsLaw_iff] at *
  cases hdoes with
  | powerOn straps =>
    have hempty : (powerOnState straps s).findings = [] := by
      unfold powerOnState
      rw [arbitrate_findings]
      rfl
    rw [hempty]
    exact .nil
  | ports _ hmove => rwa [hmove.findings]
  | dismiss _ p f k => exact h.filter _
  | routeOpen _ _ _ _ _ _ p u => exact h.filter _
  | expiry => exact h.filter _
  | passEnd | passDark => exact evaluateAndGoOn_keeps_findingsOk _ _ (by simpa using h)
  | lastSlot => exact decideWord_keeps_findingsOk _ _ (by simpa using h)
  | _ => simpa using h

/-- Settles O53: each write of the list keeps entries at their places, or adds one at a place of its own to a
list that has room. -/
theorem findingsLawIsKept : Obligations.FindingsLawIsKept := fun _ _ hstep =>
  step_keeps (P := FindingsLaw) (fun _ _ h => h) (fun _ _ h => h) (fun _ _ _ => Does.keeps_findingsLaw) hstep

end Sys2Proof.Machine
end

section
/-! R3, R5, R11: what the moves do to the Line Map, and the laws of the routes and of their housings. -/

namespace Sys2Proof.Machine

/-! ### The decision of a word, by its outcome (R147, R148) -/

/-- The outcome of the word on the exchange (R147, R148). -/
def wordOutcome (retryMax : Nat) (s : State) : WordOutcome :=
  spendTries retryMax s.channel.exchange.tries
    (judgeWord s.channel.exchange.word s.channel.exchange.toggle (readReply s.channel.exchange.slots))

/-- The exchange is DECIDED with the word's outcome (R143). -/
def decidedWord (retryMax : Nat) (s : State) : State :=
  s.setExchange { s.channel.exchange with phase := .decided, outcome := some (wordOutcome retryMax s) }

/-- The exchange is DECIDED, and the reply stands in the job's reply record (R151). -/
def notedWord (retryMax : Nat) (j : Job) (s : State) : State :=
  (decidedWord retryMax s).setCmd j.number (fun c =>
    { c with reply := noteReply s.channel.exchange.word (readReply s.channel.exchange.slots) c.reply })

/-- What an outcome does to the job's toggle, progress and statistics (R147, R148). -/
def actOnWord (o : WordOutcome) (j : Job) (p : PairNo) (c : CommandFields) (x : Exchange) (s : State) : State :=
  match o with
  | .retry => s
  | .exhausted => wordExhausted j p s
  | .refused => writeJobToggle j (some x.toggle) s
  | .succeeded => wordSucceeded j p c x s

/-- The word of a job on a pair is decided by its outcome. -/
theorem decideWord_of_job {s : State} {j : Job} {p : PairNo} {c : CommandFields} (retryMax : Nat)
    (hjob : s.job? s.channel.exchange.job = some j) (hpair : j.pair = some p) (hcmd : j.cmd = some c) :
    decideWord retryMax s =
      actOnWord (wordOutcome retryMax s) j p c s.channel.exchange (notedWord retryMax j s) := by
  unfold decideWord
  dsimp only
  split
  · next hnone => cases hnone.symm.trans hjob
  · next k hk =>
    cases hk.symm.trans hjob
    rw [hpair, hcmd]
    rfl

/-- A decision that finds no COMMAND job writes the exchange record alone. -/
theorem decideWord_of_no_job {s : State} (retryMax : Nat)
    (h : ∀ j p c, s.job? s.channel.exchange.job = some j → j.pair = some p → j.cmd ≠ some c) :
    decideWord retryMax s = decidedWord retryMax s := by
  unfold decideWord
  dsimp only
  split
  · rfl
  · next j hjob =>
    split
    · exact absurd ‹_› (h j _ _ hjob ‹_›)
    · rfl

theorem decideWord_cases (retryMax : Nat) (s : State) :
    decideWord retryMax s = decidedWord retryMax s ∨
    ∃ j p c, s.job? s.channel.exchange.job = some j ∧ j.pair = some p ∧ j.cmd = some c ∧
      decideWord retryMax s =
        actOnWord (wordOutcome retryMax s) j p c s.channel.exchange (notedWord retryMax j s) := by
  by_cases h : ∃ j p c, s.job? s.channel.exchange.job = some j ∧ j.pair = some p ∧ j.cmd = some c
  · obtain ⟨j, p, c, hjob, hpair, hcmd⟩ := h
    exact .inr ⟨j, p, c, hjob, hpair, hcmd, decideWord_of_job retryMax hjob hpair hcmd⟩
  · exact .inl (decideWord_of_no_job retryMax fun j p c hjob hpair hcmd => h ⟨j, p, c, hjob, hpair, hcmd⟩)

/-! ### Line Maps that agree on the pair records and on presence -/

/-- The pair records and the presence of every housing are the same; toggles, pumps, mutes and loopbacks may
differ. -/
structure SameMap (s t : State) : Prop where
  pair : ∀ p, t.pair p = s.pair p
  presence : ∀ h, (t.housing h).presence = (s.housing h).presence

namespace SameMap

variable {s t u : State}

theorem of_lineMap (h : t.lineMap = s.lineMap) : SameMap s t :=
  ⟨fun p => by simp [State.pair, h], fun k => by simp [State.housing, h]⟩

theorem refl (s : State) : SameMap s s := of_lineMap rfl

theorem trans (h : SameMap s t) (k : SameMap t u) : SameMap s u :=
  ⟨fun p => (k.pair p).trans (h.pair p), fun n => (k.presence n).trans (h.presence n)⟩

/-- What an operation that leaves the Line Map adds to a run of operations. -/
theorem trans_lineMap (h : SameMap s t) (k : u.lineMap = t.lineMap) : SameMap s u := h.trans (of_lineMap k)

/-- A write of a housing's entry that leaves its presence. -/
theorem setHousing (s : State) (h : Nat) {f : Housing → Housing} (hf : ∀ e, (f e).presence = e.presence) :
    SameMap s (s.setHousing h f) := by
  refine ⟨fun _ => rfl, fun k => ?_⟩
  simp only [State.housing, State.setHousing]
  by_cases hk : k - 1 < 192
  · rw [tableGet_tableMap _ _ _ _ _ hk]
    split
    · exact hf _
    · rfl
  · rw [tableGet_of_le _ _ _ (by omega), tableGet_of_le _ _ _ (by omega)]

theorem writeJobToggle (j : Job) (b : Option Bool) (s : State) : SameMap s (writeJobToggle j b s) := by
  unfold Machine.writeJobToggle
  split
  · exact setHousing s _ fun _ => rfl
  · exact refl s

theorem relearnAndIsolate (h : Nat) (p : PairNo) (s : State) : SameMap s (relearnAndIsolate h p s) :=
  of_lineMap (by simp)

theorem completeCommand (p : PairNo) (c : CommandFields) (s : State) :
    SameMap s (completeCommand p c s) := by
  have hshared : SameMap s (completeShared p c s) := by
    unfold completeShared
    dsimp only
    refine List.foldlRecOn (motive := SameMap s) _ _ ?start fun t ht q _ => ht.trans (relearnAndIsolate ..)
    split
    · exact setHousing s _ fun _ => rfl
    · exact refl s
  have hmute : ∀ muting, SameMap s (completeMute p c muting s) := by
    intro muting
    have hwrite : SameMap s (s.setHousing c.housing (writeMutes p c.argument muting)) :=
      setHousing s _ fun _ => rfl
    unfold completeMute
    dsimp only
    exact hwrite.trans_lineMap (by (repeat' split) <;> simp)
  unfold Machine.completeCommand
  cases c.opcode with
  | selectPump | trimGain => exact hshared
  | mute | unmute => exact hmute _
  | setLoopback =>
    have hwrite : SameMap s (s.setHousing c.housing (fun e =>
        { e with loopback := tableMap e.loopback p.val (fun _ => some (Fin.ofNat 8 c.argument.toNat)) })) :=
      setHousing s _ fun _ => rfl
    exact hwrite.trans_lineMap (relearnRange_lineMap ..)
  | nop | queryPumps | queryTemp => exact refl s

theorem decideWord (retryMax : Nat) (s : State) : SameMap s (decideWord retryMax s) := by
  rcases decideWord_cases retryMax s with h | ⟨j, p, c, _, _, _, h⟩
  · exact of_lineMap (by rw [h]; rfl)
  · rw [h]
    refine (of_lineMap (s := s) (t := notedWord retryMax j s) rfl).trans ?_
    cases wordOutcome retryMax s with
    | retry => exact refl _
    | exhausted => exact (writeJobToggle j none _).trans_lineMap (bumpStat_lineMap ..)
    | refused => exact writeJobToggle j _ _
    | succeeded =>
      have htoggled : SameMap (notedWord retryMax j s)
          ((Machine.writeJobToggle j (some s.channel.exchange.toggle) (notedWord retryMax j s)).setCmd j.number
            (advanceCommand s.channel.exchange.word)) := (writeJobToggle j _ _).trans_lineMap rfl
      unfold actOnWord wordSucceeded
      dsimp only
      split
      · exact htoggled.trans (completeCommand ..)
      · exact htoggled

theorem endUnresolved (j : Job) (o : Option WordOutcome) (out : JobOutcome) (s : State) :
    SameMap s (endUnresolved j o out s) := by
  unfold Machine.endUnresolved
  dsimp only
  split
  · exact (writeJobToggle j none s).trans_lineMap (by simp)
  · exact of_lineMap (by simp)

theorem afterExchange (j : Job) (c : CommandFields) (x : Exchange) (s : State) :
    SameMap s (afterExchange j c x s) := by
  unfold Machine.afterExchange
  repeat' split
  all_goals first | exact endUnresolved _ _ _ _ | exact of_lineMap (by simp)

end SameMap

/-! ### What the moves leave as it was -/

section
variable (s : State)

@[simp] theorem portResetState_lineMap (p : Port) : (portResetState p s).lineMap = s.lineMap := by
  unfold portResetState
  split
  · rfl
  · rw [arbitrate_lineMap]
    rfl

@[simp] theorem portReleaseState_lineMap (p : Port) (b : Bool) :
    (portReleaseState p b s).lineMap = s.lineMap := by
  unfold portReleaseState
  split <;> rfl

@[simp] theorem submitCommandJob_lineMap (port : Port) (k n : Nat) (u : CommandUse) :
    (submitCommandJob port k n u s).lineMap = s.lineMap := by
  unfold submitCommandJob
  dsimp only
  split <;> simp

@[simp] theorem startPass_lineMap : (startPass s).lineMap = s.lineMap := by
  unfold startPass
  split <;> rfl

@[simp] theorem endFill_lineMap : (endFill s).lineMap = s.lineMap := by
  unfold endFill
  split <;> rfl

@[simp] theorem runPatrolOn_lineMap (p : PairNo) : (runPatrolOn p s).lineMap = s.lineMap := rfl

@[simp] theorem chipStrobe_lineMap (adc : BitVec 14) : (chipStrobe adc s).lineMap = s.lineMap := rfl

@[simp] theorem evaluateAndGoOn_lineMap (rec : PassRecord) : (evaluateAndGoOn rec s).lineMap = s.lineMap := by
  unfold evaluateAndGoOn
  simp

theorem SameMap.engineResetState : SameMap s (engineResetState s) := by
  have hcleared : SameMap s (clearWork s) := by
    refine ⟨fun _ => rfl, fun h => ?_⟩
    simp only [State.housing, clearWork]
    by_cases hh : h - 1 < 192
    · rw [tableGet_eq _ _ _ hh, tableGet_eq _ _ _ hh, Vector.getElem_map]
      rfl
    · rw [tableGet_of_le _ _ _ (by omega), tableGet_of_le _ _ _ (by omega)]
  unfold Machine.engineResetState
  dsimp only
  split <;> exact hcleared.trans_lineMap (by simp)

end

/-! ### Who writes the Line Map -/

/-- The writes of the pair records and of presence, each by its command (R3, R5). -/
inductive MapWrite : Instr → State → State → Prop
  | powerOn (straps : BitVec 4) (s : State) (ports : Vector PortState 4) (q : List Instr) :
      MapWrite (.powerOn straps) s (State.cleared ports q)
  | housing (c : Instr) (s : State) {h : Byte} {v : Presence} (hnum : housingNumber h = true)
      (hfree : mayWritePresence v h.toNat s) : MapWrite c s (s.setHousing h.toNat (withPresence v))
  | routeOpen (port : Port) (a b x d : Byte) (q : Half) (s : State) (p : PairNo) (u : Profile × Nat) :
      MapWrite (.routeOpen port a b x d q) s (s.setPair p (fun r =>
        { r with state := .edit, profile := u.1, quietBase := u.2, route := [] }))
  | routeEntries (port : Port) (a f : Byte) (l : List (Byte × Half)) (s : State) (p : PairNo)
      (hedit : (s.pair p).state = .edit) (hgood : badEntry l = none) (hfirst : f.toNat ≤ (s.pair p).n + 1) :
      MapWrite (.routeEntries port a f l) s (s.setPair p (fun r => { r with
        route := writeEntries f.toNat (entriesUsed (seqLength (s.pair p).profile.order) f.toNat l)
          (s.pair p).route }))
  | routeClose (port : Port) (a : Byte) (s : State) (p : PairNo) (hedit : (s.pair p).state = .edit)
      (hvalid : validateRoute (housingPresent s) (s.pair p) = none) :
      MapWrite (.routeClose port a) s (s.setPair p (fun r => { r with state := .routed }))
  | assign (port : Port) (a : Byte) (f : Option Byte) (s : State) (p : PairNo) (o : Option Port) :
      MapWrite (.assign port a f) s (s.setPair p (fun r => { r with owner := o }))

/-- What a move does to the Line Map: nothing to records and presence, or one of their writes. -/
theorem Does.map {c : Instr} {s t : State} (hdoes : Does c s t) :
    SameMap s t ∨ ∃ u, MapWrite c s u ∧ t.lineMap = u.lineMap := by
  cases hdoes with
  | powerOn straps =>
    refine .inr ⟨_, .powerOn straps s s.ports s.pending, ?_⟩
    unfold powerOnState
    rw [arbitrate_lineMap]
    rfl
  | engineReset => exact .inl (.engineResetState s)
  | ports _ hmove => exact .inl (.of_lineMap hmove.lineMap)
  | writeHousing _ _ hnum hfree => exact .inr ⟨_, .housing c s hnum hfree, rfl⟩
  | routeOpen port a b x d q _ p u => exact .inr ⟨_, .routeOpen port a b x d q s p u, rfl⟩
  | routeEntries port a f l _ p hedit hgood hfirst =>
    exact .inr ⟨_, .routeEntries port a f l s p hedit hgood hfirst, rfl⟩
  | routeClose port a _ p hedit hvalid => exact .inr ⟨_, .routeClose port a s p hedit hvalid, rfl⟩
  | assign port a f _ p o =>
    refine .inr ⟨_, .assign port a f s p o, ?_⟩
    unfold assignState
    dsimp only
    rw [arbitrate_lineMap, foldl_keep State.lineMap _ fun s j => lapseJob_lineMap ..]
    rfl
  | lastSlot => exact .inl (.trans (.of_lineMap (by simp)) (.decideWord _ _))
  | exchangeEnd => exact .inl (.trans (.of_lineMap (s := s) (t := s.setExchange Exchange.none) rfl) (.afterExchange _ _ _ _))
  | _ => exact .inl (.of_lineMap (by simp))

/-! ### Validation of a route (R11) -/

/-- The entries from a place on pass the tests of R11 exactly when their housings are present, new and
distinct, and their lags rise from the last lag below. -/
theorem positionFailure_eq_none_iff (present : Nat → Bool) (rest : List RouteEntry) :
    ∀ below, positionFailure present below rest = none ↔
      (∀ e ∈ rest, present e.housing = true) ∧ (∀ e ∈ rest, ∀ b ∈ below, b.housing ≠ e.housing) ∧
      (rest.map RouteEntry.housing).Nodup ∧
      List.IsChain (fun a b : RouteEntry => a.lag < b.lag) (below.getLast?.toList ++ rest) := by
  induction rest with
  | nil =>
    intro below
    cases below.getLast? <;> simp [positionFailure]
  | cons e rest ih =>
    intro below
    have hfail : entryFailure present below e = none ↔ present e.housing = true ∧
        (∀ b ∈ below, b.housing ≠ e.housing) ∧ ∀ b, below.getLast? = some b → b.lag < e.lag := by
      unfold entryFailure
      by_cases hrepeated : ∃ b ∈ below, b.housing = e.housing
      · cases present e.housing <;> simp [hrepeated]
      · cases present e.housing <;> cases below.getLast? <;> simp [hrepeated] <;> grind
    have hstep : positionFailure present below (e :: rest) = none ↔
        entryFailure present below e = none ∧ positionFailure present (below ++ [e]) rest = none := by
      rw [positionFailure]
      cases entryFailure present below e <;> simp
    rw [hstep, hfail, ih]
    simp only [List.getLast?_append, List.getLast?_singleton, Option.some_or, Option.toList_some]
    cases hlast : below.getLast? with
    | none =>
      obtain rfl : below = [] := by simpa using hlast
      simp
      grind
    | some b =>
      have hmem : b ∈ below := List.mem_of_getLast? hlast
      simp
      grind

/-- Lags that rise are at most the last. -/
theorem lag_le_last {l : List RouteEntry} (h : (l.map RouteEntry.lag).Pairwise (· < ·)) {last e : RouteEntry}
    (hlast : l.getLast? = some last) (he : e ∈ l) : e.lag ≤ last.lag := by
  obtain ⟨front, rfl⟩ := List.getLast?_eq_some_iff.mp hlast
  rw [List.map_append, List.pairwise_append] at h
  rcases List.mem_append.mp he with hfront | hself
  · exact (h.2.2 _ (List.mem_map_of_mem hfront) _ (by simp)).le
  · rw [List.mem_singleton.mp hself]

/-- R11: validation finds no fault exactly in a valid route. -/
theorem validateRoute_eq_none_iff (present : Nat → Bool) (pr : Pair) :
    validateRoute present pr = none ↔
      1 ≤ pr.n ∧ (∀ e ∈ pr.route, present e.housing = true) ∧ (pr.route.map RouteEntry.housing).Nodup ∧
      (pr.route.map RouteEntry.lag).Pairwise (· < ·) ∧ (∀ e ∈ pr.route, e.lag + 3 < pr.quietBase) ∧
      pr.quietBase + 3 < seqLength pr.profile.order := by
  unfold validateRoute
  by_cases hn : pr.n = 0
  · simp [hn]
  · rw [if_neg hn]
    obtain ⟨last, hlast⟩ : ∃ e, pr.route.getLast? = some e := by
      cases hroute : pr.route.getLast? with
      | none => exact absurd (by simpa [Pair.n] using hroute) hn
      | some e => exact ⟨e, rfl⟩
    have hchain : List.IsChain (fun a b : RouteEntry => a.lag < b.lag) pr.route ↔
        (pr.route.map RouteEntry.lag).Pairwise (· < ·) := by
      rw [List.isChain_iff_pairwise, List.pairwise_map]
    have htests := positionFailure_eq_none_iff present pr.route []
    simp only [List.not_mem_nil, false_implies, implies_true, List.getLast?_nil, Option.toList_none,
      List.nil_append, hchain, true_and] at htests
    cases hpos : positionFailure present [] pr.route with
    | some f =>
      simp only [reduceCtorEq, false_iff]
      rintro ⟨-, hpresent, hnodup, hlags, -⟩
      simpa [hpos] using htests.mpr ⟨hpresent, hnodup, hlags⟩
    | none =>
      obtain ⟨hpresent, hnodup, hlags⟩ := htests.mp hpos
      have hlag : (pr.lagAt pr.n).getD 0 = last.lag := by
        rw [List.getLast?_eq_getElem?] at hlast
        have hget : pr.route[pr.n - 1]? = some last := hlast
        simp [Pair.lagAt, hn, hget]
      have hbelow : (∀ e ∈ pr.route, e.lag + 3 < pr.quietBase) ↔ last.lag + 3 < pr.quietBase := by
        refine ⟨fun h => h last (List.mem_of_getLast? hlast), fun h e he => ?_⟩
        have hle : e.lag ≤ last.lag := lag_le_last hlags hlast he
        omega
      dsimp only
      rw [hlag, hbelow]
      split
      · simp; omega
      · split
        · simp; omega
        · simp only [true_iff]
          exact ⟨by omega, hpresent, hnodup, hlags, by omega, by omega⟩

/-! ### The laws (R3, R11) -/

/-- Where housing presence may be written, no route in force loses a housing (R3). -/
theorem not_routed_of_heldBy_eq_none {s : State} {h : Nat} (hheld : heldBy s h = none) (p : PairNo)
    (hstate : (s.pair p).state ≠ .unrouted) : ∀ e ∈ (s.pair p).route, e.housing ≠ h := by
  have hp := List.findSome?_eq_none_iff.mp hheld p (List.mem_finRange p)
  simp only [hstate, if_false, Option.map_eq_none_iff, Pair.positionOf, List.findIdx?_eq_none_iff] at hp
  simpa using hp

theorem housingNumber_iff (b : Byte) : housingNumber b = true ↔ 1 ≤ b.toNat ∧ b.toNat ≤ 192 := by
  rw [housingNumber, Bool.and_eq_true, decide_eq_true_iff, decide_eq_true_iff]
  rfl

theorem State.pair_cleared (ports : Vector PortState 4) (q : List Instr) (p : PairNo) :
    (State.cleared ports q).pair p = Pair.powerOn := by
  simp [State.pair, State.cleared]

/-- The pair records alone decide the law of R11. -/
theorem MapWrite.keeps_routeLaw {c : Instr} {s t : State} (hwrite : MapWrite c s t)
    (h : ∀ p, RouteLaw (s.pair p)) (p : PairNo) : RouteLaw (t.pair p) := by
  cases hwrite with
  | powerOn =>
    rw [State.pair_cleared]
    simp [RouteLaw, Pair.powerOn]
  | housing => exact h p
  | routeOpen => rw [State.pair_setPair]; split <;> [simp [RouteLaw]; exact h p]
  | routeEntries _ _ _ _ _ q hedit =>
    rw [State.pair_setPair]
    split
    · next heq => subst heq; simp [RouteLaw, hedit]
    · exact h p
  | routeClose _ _ _ q _ hvalid =>
    rw [State.pair_setPair]
    split
    · next heq =>
      subst heq
      obtain ⟨hn, -, hnodup, hlags, hquiet, hrange⟩ := (validateRoute_eq_none_iff ..).mp hvalid
      exact fun _ => ⟨hn, hlags, hnodup, fun e he => lt_of_le_of_lt (Nat.le_add_right _ 3) (hquiet e he), hrange⟩
    · exact h p
  | assign => rw [State.pair_setPair]; split <;> exact h p

/-- An entry of a route with entries written is one of them or of the route before (R10). -/
theorem mem_writeEntries {first : Nat} {l route : List RouteEntry} {e : RouteEntry}
    (h : e ∈ writeEntries first l route) : e ∈ l ∨ e ∈ route := by
  simp only [writeEntries, List.mem_append] at h
  rcases h with (h | h) | h
  · exact .inr (List.mem_of_mem_take h)
  · exact .inl h
  · exact .inr (List.mem_of_mem_drop h)

theorem housing_range_of_entriesUsed {L first : Nat} {l : List (Byte × Half)} (hgood : badEntry l = none)
    {e : RouteEntry} (he : e ∈ entriesUsed L first l) : 1 ≤ e.housing ∧ e.housing ≤ 192 := by
  simp only [entriesUsed, List.mem_map] at he
  obtain ⟨b, hb, rfl⟩ := he
  have := List.findIdx?_eq_none_iff.mp hgood b (List.mem_of_mem_take hb)
  exact (housingNumber_iff b.1).mp (by simpa using this)

theorem MapWrite.keeps_housingsLaw {c : Instr} {s t : State} (hwrite : MapWrite c s t) (h : HousingsLaw s) :
    HousingsLaw t := by
  intro p hstate e he
  cases hwrite with
  | powerOn =>
    rw [State.pair_cleared] at hstate
    exact absurd rfl hstate
  | @housing _ _ n v hnum hfree =>
    obtain ⟨hlow, hhigh, hpresent⟩ := h p hstate e he
    obtain ⟨hn, hn'⟩ := (housingNumber_iff n).mp hnum
    refine ⟨hlow, hhigh, fun hrouted => ?_⟩
    rw [State.housing_setHousing _ _ _ _ hlow hhigh hn]
    split
    · next heq =>
      cases v with
      | present => rfl
      | absent =>
        have hheld := hfree rfl (heq ▸ hpresent hrouted)
        exact absurd heq.symm (not_routed_of_heldBy_eq_none hheld p hstate e he)
    · exact hpresent hrouted
  | routeOpen _ _ _ _ _ _ _ q u =>
    rw [State.pair_setPair] at hstate he ⊢
    split at he
    · cases he
    · next hne =>
      rw [if_neg hne] at hstate ⊢
      exact h p hstate e he
  | routeEntries _ _ _ _ _ q hedit hgood =>
    rw [State.pair_setPair] at hstate he ⊢
    by_cases heq : q = p
    · subst heq
      rw [if_pos rfl] at he ⊢
      have hrange : 1 ≤ e.housing ∧ e.housing ≤ 192 := by
        rcases mem_writeEntries he with hnew | hold
        · exact housing_range_of_entriesUsed hgood hnew
        · obtain ⟨hlow, hhigh, -⟩ := h q (by simp [hedit]) e hold
          exact ⟨hlow, hhigh⟩
      exact ⟨hrange.1, hrange.2, fun hrouted => by simp [hedit] at hrouted⟩
    · rw [if_neg heq] at hstate he ⊢
      exact h p hstate e he
  | routeClose _ _ _ q hedit hvalid =>
    rw [State.pair_setPair] at hstate he ⊢
    by_cases heq : q = p
    · subst heq
      rw [if_pos rfl] at he
      obtain ⟨hlow, hhigh, -⟩ := h q (by simp [hedit]) e he
      obtain ⟨-, hpresent, -⟩ := (validateRoute_eq_none_iff ..).mp hvalid
      exact ⟨hlow, hhigh, fun _ => of_decide_eq_true (hpresent e he)⟩
    · rw [if_neg heq] at hstate he ⊢
      exact h p hstate e he
  | assign _ _ _ _ q o =>
    rw [State.pair_setPair] at hstate he ⊢
    split at he
    · next heq => rw [if_pos heq] at hstate ⊢; exact h p hstate e he
    · next hne => rw [if_neg hne] at hstate ⊢; exact h p hstate e he

theorem SameMap.keeps_housingsLaw {s t : State} (hsame : SameMap s t) (h : HousingsLaw s) : HousingsLaw t := by
  intro p
  rw [hsame.pair p]
  intro hstate e he
  obtain ⟨hlow, hhigh, hpresent⟩ := h p hstate e he
  exact ⟨hlow, hhigh, fun hrouted => (hsame.presence e.housing).trans (hpresent hrouted)⟩

/-- Settles O54: a move leaves records and presence, or is one of their writes; a route becomes ROUTED only where
validation has passed. -/
theorem routeLawsAreKept : Obligations.RouteLawsAreKept := by
  refine ⟨fun s t hstep => step_keeps (P := fun s => ∀ p, RouteLaw (s.pair p)) (fun _ _ h => h) (fun _ _ h => h)
    (fun c s t hdoes h => ?routes) hstep, fun s t hstep => step_keeps (P := HousingsLaw) (fun _ _ h => h)
    (fun _ _ h => h) (fun c s t hdoes h => ?housings) hstep⟩
  case routes =>
    rcases hdoes.map with hsame | ⟨u, hwrite, hmap⟩
    · exact fun p => (hsame.pair p).symm ▸ h p
    · exact fun p => (SameMap.of_lineMap hmap).pair p ▸ hwrite.keeps_routeLaw h p
  case housings =>
    rcases hdoes.map with hsame | ⟨u, hwrite, hmap⟩
    · exact hsame.keeps_housingsLaw h
    · exact (SameMap.of_lineMap hmap).keeps_housingsLaw (hwrite.keeps_housingsLaw h)

end Sys2Proof.Machine
end

section
/-! R23 to R31, R36, R41, R170, R182: properties of the sequencer, the dark offset, the synthetic line and the
ports' roles, carried through the job driver's operations. -/

namespace Sys2Proof.Machine

/-! ### Roles stand through the operations that raise notices -/

theorem port_of_ports {s t : State} (h : t.ports = s.ports) (p : Port) : t.port p = s.port p := by
  simp only [State.port, h]

section
variable (s : State) (q : Port)

@[simp] theorem raiseNotice_role (k : Notice) (p : Port) :
    ((raiseNotice k p s).port q).role = (s.port q).role := (PortsMove.raiseNotice s k p).role q

@[simp] theorem endJob_role (n : Nat) (o : JobOutcome) :
    ((endJob n o s).port q).role = (s.port q).role := by
  unfold endJob
  split
  · rfl
  · split
    · rfl
    · rw [raiseNotice_role]
      rfl

@[simp] theorem bumpStat_role (k : SmallStat) (p : PairNo) :
    ((bumpStat k p s).port q).role = (s.port q).role := by
  unfold bumpStat
  dsimp only
  split
  · rw [raiseNotice_role]
    rfl
  · rfl

@[simp] theorem endHeld_role (n : Nat) : ((endHeld n s).port q).role = (s.port q).role := endJob_role _ q n _

@[simp] theorem cutJob_role (j : Job) : ((cutJob j s).port q).role = (s.port q).role := by
  unfold cutJob
  dsimp only
  split
  · rw [bumpStat_role]
    rfl
  · rfl

@[simp] theorem takeFault_role : ((takeFault s).port q).role = (s.port q).role := by
  unfold takeFault
  dsimp only
  split <;> simp only [raiseNotice_role] <;> rfl

@[simp] theorem faultJob_role (j : Job) : ((faultJob j s).port q).role = (s.port q).role := by
  unfold faultJob
  split
  · exact endJob_role ..
  · rfl

@[simp] theorem faultOnPair_role : ((faultOnPair s).port q).role = (s.port q).role := by
  unfold faultOnPair
  dsimp only
  split
  · rw [faultJob_role]
    exact takeFault_role s q
  · exact takeFault_role s q

@[simp] theorem noticeOverdrive_role (rec : PassRecord) :
    ((noticeOverdrive rec s).port q).role = (s.port q).role := by
  unfold noticeOverdrive
  dsimp only
  repeat' split
  all_goals simp

@[simp] theorem countPass_role (rec : PassRecord) : ((countPass rec s).port q).role = (s.port q).role := by
  unfold countPass
  dsimp only
  split
  · rfl
  · split
    · rw [bumpStat_role]
      rfl
    · rfl

@[simp] theorem advanceJob_role (rec : PassRecord) : ((advanceJob rec s).port q).role = (s.port q).role := rfl

@[simp] theorem stepFive_role (rec : PassRecord) : ((stepFive rec s).port q).role = (s.port q).role := by
  have hrefresh : ∀ t : State, ((refreshCount rec.params.darkEvery t).port q).role = (t.port q).role :=
    fun t => by rw [port_of_ports (refreshCount_ports ..)]
  unfold stepFive
  dsimp only
  split <;> split <;> simp [hrefresh]

@[simp] theorem raiseNew_role (par : Params) (p : PairNo) :
    ((raiseNew par p s).port q).role = (s.port q).role := by
  unfold raiseNew
  dsimp only
  split <;> simp

@[simp] theorem raiseAll_role (k : Notice) (ps : List Port) :
    ((raiseAll k ps s).port q).role = (s.port q).role :=
  foldl_keep (fun s : State => (s.port q).role) _ (fun s p => raiseNotice_role s q k p) ps s

@[simp] theorem applyDetection_role (par : Params) (p : PairNo) (stamp : Nat) (d : Detection) :
    ((applyDetection par p stamp d s).1.port q).role = (s.port q).role := by
  unfold applyDetection
  dsimp only
  repeat' split
  all_goals simp only [raiseNotice_role, raiseNew_role, raiseAll_role]
  all_goals rfl

@[simp] theorem applyDetections_role (par : Params) (p : PairNo) (stamp : Nat) (l : List Detection) :
    ((applyDetections par p stamp l s).1.port q).role = (s.port q).role := by
  induction l generalizing s with
  | nil => rfl
  | cons d rest ih => exact (ih _).trans (applyDetection_role ..)

@[simp] theorem cleanObservations_role (par : Params) (p : PairNo) (a b : Nat) (records : List EchoRecord)
    (found : List Detection) :
    ((cleanObservations par p a b records found s).port q).role = (s.port q).role := by
  unfold cleanObservations
  dsimp only
  split
  · rw [raiseNotice_role]
    rfl
  · rfl

@[simp] theorem locate_role (rec : PassRecord) (p : PairNo) (stamp : Nat) (records : List EchoRecord)
    (drifts : List (Nat × Int)) : ((locate rec p stamp records drifts s).1.port q).role = (s.port q).role := by
  unfold locate
  dsimp only
  rw [foldl_keep (fun s : State => (s.port q).role) _
    fun s k => by rw [port_of_ports (takeConfirm_ports ..)]]
  simp

@[simp] theorem evaluatePass_role (rec : PassRecord) :
    ((evaluatePass rec s).port q).role = (s.port q).role := by
  have hsig : ∀ mode records p, ((sigPass mode rec.params p records s).1.port q).role = (s.port q).role :=
    fun mode records p => by rw [port_of_ports (sigPass_ports ..)]
  have hsteps : ∀ records, ((stepsTwoThree rec records s).1.port q).role = (s.port q).role := by
    intro records
    unfold stepsTwoThree
    dsimp only
    repeat' split
    · rfl
    · rw [locate_role, hsig]
    · exact hsig ..
    · exact hsig ..
  have hdeliver : ∀ n f t, ((deliver n f t).port q).role = (t.port q).role :=
    fun n f t => by rw [port_of_ports (deliver_ports ..)]
  unfold evaluatePass
  dsimp only
  rw [port_of_ports (dropPass_ports _), stepFive_role]
  split
  · exact hdeliver ..
  · rw [hdeliver, hsteps]

@[simp] theorem actOnWord_role (o : WordOutcome) (j : Job) (p : PairNo) (c : CommandFields) (x : Exchange) :
    ((actOnWord o j p c x s).port q).role = (s.port q).role := by
  cases o with
  | retry => rfl
  | exhausted => exact (bumpStat_role ..).trans (by rw [port_of_ports (writeJobToggle_ports ..)])
  | refused => exact congrArg PortState.role (port_of_ports (writeJobToggle_ports ..) q)
  | succeeded => exact congrArg PortState.role (port_of_ports (wordSucceeded_ports ..) q)

@[simp] theorem decideWord_role (retryMax : Nat) : ((decideWord retryMax s).port q).role = (s.port q).role := by
  rcases decideWord_cases retryMax s with h | ⟨j, p, c, _, _, _, h⟩
  · rw [h]
    rfl
  · rw [h, actOnWord_role]
    rfl

@[simp] theorem openRecord_role (r : ConcurRec) : ((openRecord r s).port q).role = (s.port q).role :=
  raiseNotice_role ..

@[simp] theorem lapseJob_role (j : Job) : ((lapseJob j s).port q).role = (s.port q).role := by
  unfold lapseJob
  dsimp only
  split
  · rfl
  · exact endJob_role ..

@[simp] theorem rejectDark_role (j : Job) : ((rejectDark j s).port q).role = (s.port q).role :=
  raiseNotice_role ..

end

/-- A switch fault sets the hold (R30). -/
theorem takeFault_seq (s : State) : (takeFault s).seq = { s.seq with faultHold := true } := by
  unfold takeFault
  dsimp only
  split <;> rfl

/-! ### Quiet moves: no order is given -/

/-- The sequencer, the synthetic line, the dark offset with its accumulation, and the ports' roles are the same. -/
structure Quiet (s t : State) : Prop where
  seq : t.seq = s.seq
  synth : t.synth = s.synth
  offset : t.intake.offset = s.intake.offset
  darkState : t.intake.darkState = s.intake.darkState
  everCal : t.intake.everCal = s.intake.everCal
  acc : t.intake.acc = s.intake.acc
  role : ∀ p, (t.port p).role = (s.port p).role

namespace Quiet

variable {s t u : State}

theorem trans (h : Quiet s t) (k : Quiet t u) : Quiet s u where
  seq := k.seq.trans h.seq
  synth := k.synth.trans h.synth
  offset := k.offset.trans h.offset
  darkState := k.darkState.trans h.darkState
  everCal := k.everCal.trans h.everCal
  acc := k.acc.trans h.acc
  role p := (k.role p).trans (h.role p)

/-- A move that leaves the sequencer, the intake and the synthetic line. -/
theorem of_role (hseq : t.seq = s.seq) (hintake : t.intake = s.intake) (hsynth : t.synth = s.synth)
    (hrole : ∀ p, (t.port p).role = (s.port p).role) : Quiet s t :=
  ⟨hseq, hsynth, by rw [hintake], by rw [hintake], by rw [hintake], by rw [hintake], hrole⟩

/-- A move that leaves the ports too. -/
theorem of_ports (hseq : t.seq = s.seq) (hintake : t.intake = s.intake) (hsynth : t.synth = s.synth)
    (hports : t.ports = s.ports) : Quiet s t :=
  of_role hseq hintake hsynth fun p => by rw [port_of_ports hports]

theorem of_portsMove (h : PortsMove s t) : Quiet s t := of_role h.seq h.intake h.synth h.role

theorem sched (s : State) (x : Scheduler) : Quiet s { s with sched := x } := of_ports rfl rfl rfl rfl

theorem endJob (n : Nat) (o : JobOutcome) (s : State) : Quiet s (endJob n o s) :=
  of_role (by simp) (by simp) (by simp) (by simp)

theorem evaluatePass (rec : PassRecord) (s : State) : Quiet s (evaluatePass rec s) := by
  have hstepFive : ∀ t : State, Quiet t (stepFive rec t) := by
    intro t
    have hrefresh : ∀ n (t : State), Quiet t (refreshCount n t) := by
      intro n t
      unfold refreshCount
      dsimp only
      repeat' split
      all_goals exact ⟨rfl, rfl, rfl, rfl, rfl, rfl, fun _ => rfl⟩
    have hcount : Quiet t (countPass rec (advanceJob rec t)) :=
      of_role (by simp) (by simp) (by simp) (by simp)
    have hnotice : ∀ t : State, Quiet t (noticeOverdrive rec t) :=
      fun t => of_role (by simp) (by simp) (by simp) (by simp)
    unfold stepFive
    dsimp only
    split <;> split
    · exact hcount.trans (hnotice _)
    · exact hcount
    · exact (hcount.trans (hnotice _)).trans (hrefresh _ _)
    · exact hcount.trans (hrefresh _ _)
  have hkept : (Machine.evaluatePass rec s).intake = (stepFive rec (if rec.kind = .survey then
      deliver rec.job (appendCandidates (surveyCandidates rec s.corr.cells)) s
    else deliver rec.job (appendEchoes (stepsTwoThree rec (stepOne rec s) s).2)
      (stepsTwoThree rec (stepOne rec s) s).1)).intake := rfl
  have hbefore : ∀ t : State, t.intake = s.intake →
      (stepFive rec t).intake.offset = s.intake.offset ∧
      (stepFive rec t).intake.darkState = s.intake.darkState ∧
      (stepFive rec t).intake.everCal = s.intake.everCal ∧ (stepFive rec t).intake.acc = s.intake.acc :=
    fun t ht => ⟨(hstepFive t).offset.trans (by rw [ht]), (hstepFive t).darkState.trans (by rw [ht]),
      (hstepFive t).everCal.trans (by rw [ht]), (hstepFive t).acc.trans (by rw [ht])⟩
  obtain ⟨hoffset, hdark, hever, hacc⟩ := hbefore (if rec.kind = .survey then
      deliver rec.job (appendCandidates (surveyCandidates rec s.corr.cells)) s
    else deliver rec.job (appendEchoes (stepsTwoThree rec (stepOne rec s) s).2)
      (stepsTwoThree rec (stepOne rec s) s).1) (by split <;> simp)
  exact ⟨by simp, by simp, hkept ▸ hoffset, hkept ▸ hdark, hkept ▸ hever, hkept ▸ hacc, by simp⟩

end Quiet

/-! ### Moves of the sequencer that no order makes -/

/-- The sequencer's own moves: boundaries, chips, the end of a fill, the fault hold, and its reset. -/
inductive SeqMove : Sequencer → Sequencer → Prop
  | boundary (q : Sequencer) : SeqMove q (takeBoundary q)
  | steady (q : Sequencer) (h : q.state = .filling) : SeqMove q { q with state := .steady }
  | filled (q : Sequencer) : SeqMove q { q with filled := true }
  | chip (q : Sequencer) : SeqMove q (sendChip q)
  | hold (q : Sequencer) : SeqMove q { q with faultHold := true }
  | fault (q : Sequencer) (h : q.faultHold = true) :
      SeqMove q { q with state := .switchFault, current := none, goal := none, running := false }
  | clear (q : Sequencer) : SeqMove q (clearHold q)
  | reset (q : Sequencer) : SeqMove q (resetSequencer q)

/-- A property that stands through quiet moves, orders, settle ends and the sequencer's own moves. -/
structure Closed (P : State → Prop) : Prop where
  quiet {s t : State} : P s → Quiet s t → P t
  order {s : State} (o : Order) : P s → P (giveOrder o s)
  settle {s : State} {o : Order} : settleDue s = some o → P s → P (settleInto o s)
  word {s : State} : P s → P (afterWord s)
  seq {s : State} {q : Sequencer} : SeqMove s.seq q → P s → P { s with seq := q }
  stopAcc {s : State} : P s → P { s with intake := { s.intake with acc := none } }
  sample {s : State} (adc : BitVec 14) : P s → P { s with intake := darkSample adc.toNat s.intake }
  release {s : State} : P s → P (setIntake (releaseOffset s.intake) s)
  noise {s : State} (x : BitVec 16) : P s → P { s with synth := { s.synth with noise := x } }

namespace Closed

variable {P : State → Prop} (hP : Closed P) {s : State}

section
include hP

theorem sched (x : Scheduler) (hs : P s) : P { s with sched := x } := hP.quiet hs (.sched s x)

theorem corr (x : Correlator) (hs : P s) : P { s with corr := x } :=
  hP.quiet hs (.of_ports (t := { s with corr := x }) rfl rfl rfl rfl)

theorem channel (x : Channel) (hs : P s) : P { s with channel := x } :=
  hP.quiet hs (.of_ports (t := { s with channel := x }) rfl rfl rfl rfl)

theorem endJob (n : Nat) (o : JobOutcome) (hs : P s) : P (endJob n o s) := hP.quiet hs (.endJob n o s)

theorem runPass (j : Job) (hs : P s) : P (runPass j s) := by
  have hbuild : P (buildPass j s) := hP.quiet hs (.of_ports (by simp) (by simp) (by simp) (by simp))
  unfold Machine.runPass
  split <;> exact hP.order _ hbuild

theorem startWord (j : Job) (w : CmdWord) (toggle : Bool) (tries : Nat) (hs : P s) :
    P (startWord j w toggle tries s) := by
  unfold Machine.startWord
  dsimp only
  split
  · exact hP.order _ (hP.quiet hs (.of_ports (by simp) (by simp) (by simp) (by simp)))
  · exact hs

theorem sendFirst (j : Job) (hs : P s) : P (sendFirst j s) := by
  unfold Machine.sendFirst
  split <;> exact hP.startWord _ _ _ _ hs

theorem startCommand (j : Job) (hs : P s) : P (startCommand j s) := by
  unfold Machine.startCommand
  repeat' split
  · exact hP.runPass j hs
  · exact hP.sendFirst j hs
  · exact hP.order _ hs
  · exact hs

theorem afterSettle (hs : P s) : P (afterSettle s) := by
  unfold Machine.afterSettle
  repeat' split
  · exact hP.sendFirst _ hs
  all_goals exact hs

theorem startWork (j : Job) (hs : P s) : P (startWork j s) := by
  unfold Machine.startWork
  split
  case h_6 => exact hP.startCommand j hs
  case h_7 => exact hP.order _ (hP.quiet hs ⟨rfl, rfl, rfl, rfl, rfl, rfl, fun _ => rfl⟩)
  all_goals exact hP.runPass j hs

theorem activate (j : Job) (hs : P s) : P (activate j s) :=
  hP.quiet hs (.of_ports (by simp) (by simp) (by simp) (by simp))

theorem grantLoop (fuel : Nat) : ∀ s, P s → P (grantLoop fuel s) := by
  induction fuel with
  | zero => exact fun s hs => hs
  | succ fuel ih =>
    intro s hs
    unfold Machine.grantLoop
    dsimp only
    split
    · exact hs
    · next j _ =>
      have hactive := hP.activate j hs
      split
      · exact ih _ (hP.quiet hactive (.of_role (by simp) (by simp) (by simp) (by simp)))
      · exact hP.startWork j hactive

theorem arbitrate (hs : P s) : P (arbitrate s) := by
  unfold Machine.arbitrate
  split
  · exact hs
  · exact hP.grantLoop _ s hs

theorem becameEligible (urgent : Bool) (hs : P s) : P (becameEligible urgent s) := by
  unfold Machine.becameEligible
  split
  · exact hP.arbitrate hs
  · split
    · exact hP.arbitrate (hP.quiet hs (.of_role (by simp) (by simp) (by simp) (by simp)))
    · exact hs

theorem acceptJob (j : Job) (hs : P s) : P (acceptJob j s) := by
  have hadd : P (s.addJob j) := hP.sched _ hs
  unfold Machine.acceptJob
  dsimp only
  split
  · exact hP.becameEligible _ hadd
  · exact hadd

theorem takeFault (hs : P s) : P (takeFault s) := by
  have hhold : P { s with seq := { s.seq with faultHold := true } } := hP.seq (.hold s.seq) hs
  refine hP.quiet hhold (.of_role ?_ ?_ ?_ ?_)
  · unfold Machine.takeFault
    dsimp only
    split <;> rfl
  · simp
  · simp
  · exact takeFault_role s

theorem faultOnPair (hs : P s) : P (faultOnPair s) := by
  have hfault : P { Machine.takeFault s with seq := { (Machine.takeFault s).seq with
      state := .switchFault, current := none, goal := none, running := false } } :=
    hP.seq (.fault _ (by rw [takeFault_seq])) (hP.takeFault hs)
  refine hP.quiet hfault (.of_role ?_ ?_ ?_ ?_)
  · unfold Machine.faultOnPair
    dsimp only
    split <;> simp
  · simp
  · simp
  · simpa [State.port] using fun p => (faultOnPair_role s p).trans (takeFault_role s p).symm

theorem evaluateAndGoOn (rec : PassRecord) (hs : P s) : P (evaluateAndGoOn rec s) := by
  have heval : P (evaluatePass rec s) := hP.quiet hs (.evaluatePass rec s)
  have hend : ∀ (j : Job) (o : JobOutcome), P (endAtPassEnd j o (evaluatePass rec s)) := by
    intro j o
    refine hP.arbitrate (hP.endJob _ _ ?_)
    split
    · exact hP.order _ heval
    · exact heval
  unfold Machine.evaluateAndGoOn afterPass
  dsimp only
  split
  · exact heval
  · split
    · exact hend _ _
    · split
      · exact hend _ _
      · split
        · exact hP.arbitrate (hP.sched _ heval)
        · split
          · exact hP.arbitrate (hP.sched _ heval)
          · refine hP.runPass _ ?_
            split
            · exact hP.sched _ heval
            · exact heval

theorem endUnresolved (j : Job) (o : Option WordOutcome) (out : JobOutcome) (hs : P s) :
    P (endUnresolved j o out s) := by
  unfold Machine.endUnresolved
  refine hP.arbitrate (hP.endJob _ _ ?_)
  split
  · exact hP.quiet hs (.of_ports (by simp) (by simp) (by simp) (by simp))
  · exact hs

theorem afterExchange (j : Job) (c : CommandFields) (x : Exchange) (hs : P s) :
    P (afterExchange j c x s) := by
  unfold Machine.afterExchange
  repeat' split
  all_goals first
    | exact hP.endUnresolved _ _ _ hs | exact hP.startWord _ _ _ _ hs
    | exact hP.arbitrate (hP.endJob _ _ hs) | exact hP.runPass j hs | exact hs

theorem cancelState (j : Job) (hs : P s) : P (cancelState j s) := by
  have hpass : P (cancelPass j s) := by
    unfold cancelPass endAtPassEnd
    split
    · exact hP.sched _ hs
    · refine hP.arbitrate (hP.endJob _ _ ?_)
      split
      · exact hP.order _ (hP.corr _ hs)
      · exact hP.corr _ hs
  have hcommand : P (cancelCommand j s) := by
    unfold cancelCommand
    split
    · exact hpass
    · exact hP.sched _ hs
  unfold Machine.cancelState
  repeat' split
  · exact hP.endJob _ _ hs
  · exact hP.endJob _ _ hs
  · exact hP.endJob _ _ (hP.channel _ hs)
  · exact hcommand
  · exact hpass
  · exact hs

theorem consentState (port : Port) (n : Nat) (hs : P s) : P (consentState port n s) := by
  have hconsent : P (consent port n s) := hP.sched _ (hP.channel _ hs)
  unfold Machine.consentState
  dsimp only
  split
  · exact hP.becameEligible _ hconsent
  · exact hconsent

theorem assignState (p : PairNo) (o : Option Port) (hs : P s) : P (assignState p o s) := by
  unfold Machine.assignState
  refine hP.arbitrate (List.foldlRecOn (motive := P) _ _ ?start fun t ht j _ => ?one)
  case start => exact hP.quiet hs (.of_ports rfl rfl rfl rfl)
  case one => exact hP.quiet ht (.of_role (by simp) (by simp) (by simp) (by simp))

/-- What follows the intake's write of a calibration (R44). -/
theorem decideCalibration (j : Job) (a : DarkAcc)
    (hs : P (setIntake (intakeAfter (decideDark s.intake a) a s.intake) s)) :
    P (decideCalibration j a s) := by
  unfold Machine.decideCalibration
  dsimp only
  refine hP.arbitrate (hP.endJob _ _ (hP.order _ (hP.sched _ ?_)))
  split
  · exact hP.quiet hs (.of_role (by simp) (by simp) (by simp) (by simp))
  · exact hs

theorem portResetState (p : Port) (hs : P s) : P (portResetState p s) := by
  unfold Machine.portResetState
  split
  · exact hs
  · exact hP.arbitrate (hP.quiet hs (.of_role (t := dropPortJobs p (s.setPort p resetPort)) rfl rfl rfl
        (PortsMove.setPort s p (f := resetPort) fun _ => rfl).role))

theorem engineResetState (hs : P s) : P (engineResetState s) := by
  have hreset : P { s with
      seq := resetSequencer s.seq, intake := { s.intake with acc := none }
      synth := resetSynth s.synth } := by
    have hseq := hP.stopAcc (hP.seq (.reset s.seq) hs)
    unfold resetSynth
    split
    · exact hP.noise _ hseq
    · exact hseq
  have hclear : P (clearWork s) := hP.quiet (t := clearWork s) hreset ⟨rfl, rfl, rfl, rfl, rfl, rfl, fun _ => rfl⟩
  have hnotices : P (raiseAll .engineReset [0, 1, 2, 3] (clearWork s)) :=
    hP.quiet hclear (.of_role (by simp) (by simp) (by simp) (by simp))
  unfold Machine.engineResetState
  dsimp only
  split
  · exact hP.arbitrate (hP.sched _ hnotices)
  · exact hnotices

theorem startPass (hs : P s) : P (startPass s) := by
  unfold Machine.startPass
  split
  · exact hP.corr _ hs
  · exact hs

theorem tookBoundary (hs : P s) : P (tookBoundary s) := hP.seq (.boundary s.seq) hs

theorem endFill (hs : P s) : P (endFill s) := by
  unfold Machine.endFill
  split
  · exact hP.seq (.steady s.seq ‹_›) hs
  · exact hP.seq (.filled s.seq) hs

theorem chipStrobe (adc : BitVec 14) (hs : P s) : P (chipStrobe adc s) := by
  have hsent : P { s with seq := sendChip s.seq } := hP.seq (.chip s.seq) hs
  unfold Machine.chipStrobe rawSample
  dsimp only
  split
  · exact hP.corr _ (hP.noise _ hsent)
  · exact hP.corr _ hsent

theorem decideWord (retryMax : Nat) (hs : P s) : P (decideWord retryMax s) :=
  hP.quiet hs (.of_role (by simp) (by simp) (by simp) (by simp))

/-- A closed property stands through every move but the five that write a register by hand, which are left to
the caller. -/
theorem does {c : Instr} {t : State} (hdoes : Does c s t) (hs : P s)
    (hpowerOn : ∀ straps, c = .powerOn straps → P (powerOnState straps s))
    (hrelease : ∀ p b, c = .portResetRelease p b → P (portReleaseState p b s))
    (hmanual : ∀ port v, c = .setDarkModeManual port v →
      P (setIntake (holdOffset (clamp 0 16383 v.toNat) s.intake) s))
    (hdefine : ∀ port o q d n e m l f, c = .synthDefine port o q d n e m l → P (holdDefinition f s))
    (hcalibrated : ∀ a, c = .darkSamplingEnd → samplingDone s = some a →
      P (setIntake (intakeAfter (decideDark s.intake a) a s.intake) s)) : P t := by
  cases hdoes with
  | nothing => exact hs
  | powerOn straps => exact hpowerOn straps rfl
  | engineReset => exact hP.engineResetState hs
  | portReset _ p => exact hP.portResetState p hs
  | portRelease p b => exact hrelease p b rfl
  | ports _ hmove => exact hP.quiet hs (.of_portsMove hmove)
  | submit | submitDark => exact hP.acceptJob _ hs
  | submitCommand _ _ port k n u =>
    have haccept := hP.acceptJob (commandJob port k n u (askedOwner s port u.pair u.opcode)) hs
    unfold submitCommandJob
    dsimp only
    split
    · exact hP.quiet haccept (.of_role (by simp) (by simp) (by simp) (by simp))
    · exact haccept
  | cancel => exact hP.cancelState _ hs
  | free | setPatrol | setStats | emptyLog => exact hP.sched _ hs
  | consent => exact hP.consentState _ _ hs
  | decline | deadline => exact hP.endJob _ _ (hP.channel _ hs)
  | writeBases | relearn => exact hP.quiet hs (.of_ports (by simp) (by simp) (by simp) (by simp))
  | freeze | dismiss | writeHousing | routeEntries | expiry | tick =>
    exact hP.quiet hs ⟨rfl, rfl, rfl, rfl, rfl, rfl, fun _ => rfl⟩
  | routeOpen | routeClose => exact hP.quiet hs ⟨rfl, rfl, rfl, rfl, rfl, rfl, fun _ => rfl⟩
  | setParams => exact hP.quiet hs ⟨rfl, rfl, rfl, rfl, rfl, rfl, fun _ => rfl⟩
  | assign => exact hP.assignState _ _ hs
  | holdOffset port v => exact hmanual port v rfl
  | releaseOffset => exact hP.release hs
  | clearFault =>
    unfold clearFaultState
    exact hP.becameEligible _ (hP.seq (.clear s.seq) hs)
  | define port o q d n e m l _ f => exact hdefine port o q d n e m l f rfl
  | settle _ _ hdue => exact hP.afterSettle (hP.settle hdue hs)
  | settleFault => exact hP.arbitrate (hP.faultOnPair hs)
  | settleDark _ _ hdue =>
    refine hP.settle ?_ (hP.takeFault hs)
    simpa [settleDue, takeFault_seq] using hdue
  | fillEnd => exact hP.startPass (hP.endFill (hP.tookBoundary hs))
  | startPass => exact hP.startPass (hP.tookBoundary hs)
  | period | slotStart => exact hP.corr _ (hP.tookBoundary hs)
  | passEnd => exact hP.evaluateAndGoOn _ (hP.tookBoundary hs)
  | passFault => exact hP.arbitrate (hP.faultOnPair (hP.tookBoundary hs))
  | passDark => exact hP.evaluateAndGoOn _ (hP.takeFault (hP.tookBoundary hs))
  | calibrated _ hdue => exact hP.decideCalibration _ _ (hcalibrated _ rfl hdue)
  | wordEnd => exact hP.word (hP.quiet hs (.of_ports (by simp) (by simp) (by simp) (by simp)))
  | slotResult => exact hP.corr _ (hP.channel _ (hP.tookBoundary hs))
  | lastSlot => exact hP.decideWord _ (hP.corr _ (hP.channel _ (hP.tookBoundary hs)))
  | exchangeEnd => exact hP.afterExchange _ _ _ (hP.channel _ hs)
  | exchangeLost => exact hP.channel _ hs
  | patrol => exact hP.acceptJob _ (hP.sched _ hs)
  | chip _ _ adc => exact hP.chipStrobe adc hs
  | darkStrobe _ _ adc => exact hP.sample adc hs

end

end Closed

end Sys2Proof.Machine
end

section
/-! R23 to R31, R41, R76, R174: the laws of the registers, kept by every step. -/

namespace Sys2Proof.Machine

/-! ### The law of the sequencer (R23 to R31) -/

theorem orderTarget_le (o : Order) : orderTarget o ≤ 16 := by
  cases o with
  | runPair p | sendWord p => exact p.isLt.le
  | darkSample | darkChips | endDark => exact le_rfl

theorem orderTarget_of_isDark {o : Order} (h : o.isDark = true) : orderTarget o = 16 := by
  cases o <;> first | rfl | cases h

section
variable {s : State} (hwp : s.seq.wp < 32768)
include hwp

theorem sequencerLaw_moveSwitch (o : Order) : SequencerLaw (moveSwitch o s).seq :=
  ⟨orderTarget_le o, hwp, rfl, o, rfl, rfl⟩

theorem sequencerLaw_enterFilling {p : PairNo} (hpos : s.seq.position = p.val) (prof : Profile) :
    SequencerLaw (enterFilling p prof s).seq :=
  ⟨show s.seq.position ≤ 16 from hpos ▸ p.isLt.le, hwp, _, rfl, hpos.symm⟩

theorem sequencerLaw_enterTone {p : PairNo} (hpos : s.seq.position = p.val) (prof : Profile)
    (bits : List Bool) : SequencerLaw (enterTone p prof bits s).seq :=
  ⟨show s.seq.position ≤ 16 from hpos ▸ p.isLt.le, hwp, _, rfl, hpos.symm⟩

theorem sequencerLaw_enterRest (hpos : s.seq.position = 16) : SequencerLaw (enterRest s).seq := by
  refine ⟨hpos.le, hwp, ?_⟩
  cases hhold : s.seq.faultHold <;> simp [enterRest, restState, hhold, hpos]

theorem sequencerLaw_enterDark (hpos : s.seq.position = 16) (o : Order) :
    SequencerLaw (enterDark o s).seq := by
  cases o with
  | darkSample | darkChips => exact ⟨hpos.le, hwp, hpos, rfl⟩
  | runPair | sendWord | endDark => exact sequencerLaw_enterRest hwp hpos

/-- A settle leads to a state that the switch's position fits. -/
theorem sequencerLaw_settleInto {o : Order} (hpos : orderTarget o = s.seq.position) :
    SequencerLaw (settleInto o s).seq := by
  cases o with
  | runPair p prof => exact sequencerLaw_enterFilling hwp hpos.symm prof
  | sendWord p prof bits => exact sequencerLaw_enterTone hwp hpos.symm prof bits
  | darkSample | darkChips => exact sequencerLaw_enterDark hwp hpos.symm _
  | endDark => exact sequencerLaw_enterRest hwp hpos.symm

end

/-- While a pair is current the switch stands at it (R25). -/
theorem SequencerLaw.position_of_current {q : Sequencer} (h : SequencerLaw q) {p : PairNo} {prof : Profile}
    (hcurrent : q.current = some (p, prof)) : q.position = p.val := by
  obtain ⟨-, -, hstate⟩ := h
  cases hq : q.state <;> simp only [hq] at hstate <;> simp_all

theorem SequencerLaw.giveOrder {s : State} (h : SequencerLaw s.seq) (o : Order) :
    SequencerLaw (giveOrder o s).seq := by
  have hwp := h.2.1
  have hmove := sequencerLaw_moveSwitch hwp o
  obtain ⟨hpos, -, hstate⟩ := id h
  unfold Machine.giveOrder
  split
  case h_1 hq => -- PARKED
    rw [hq] at hstate
    cases o with
    | endDark => exact h
    | darkSample | darkChips => exact sequencerLaw_enterDark hwp hstate.1 _
    | runPair | sendWord => exact hmove
  case h_2 hq => -- SETTLING
    simp only [hq] at hstate
    obtain ⟨hcurrent, o', hgoal, htarget⟩ := hstate
    have hheld : ∀ x, orderTarget x = s.seq.position →
        SequencerLaw { s.seq with goal := some x } := by
      intro x hx
      refine ⟨hpos, hwp, ?_⟩
      simp only [hq]
      exact ⟨hcurrent, x, rfl, hx⟩
    cases o with
    | endDark =>
      dsimp only
      split
      · next hdark =>
        have : orderTarget o' = 16 := orderTarget_of_isDark (by simpa [hgoal] using hdark)
        exact hheld .endDark (this.symm.trans htarget)
      · exact h
    | darkSample | darkChips | runPair | sendWord =>
      dsimp only
      split
      · exact hheld _ ‹_›
      · exact hmove
  case h_3 | h_4 => -- FILLING, STEADY
    cases o with
    | endDark => exact h
    | darkSample | darkChips => exact hmove
    | runPair p prof =>
      dsimp only
      split
      · next hcurrent =>
        have := h.position_of_current hcurrent
        split
        · next heq =>
          split
          · exact h
          · exact sequencerLaw_enterFilling hwp (heq ▸ this) prof
        · exact hmove
      · exact hmove
    | sendWord p prof bits =>
      dsimp only
      split
      · next hcurrent =>
        have := h.position_of_current hcurrent
        split
        · next heq => exact sequencerLaw_enterTone hwp (heq ▸ this) prof bits
        · exact hmove
      · exact hmove
  case h_5 => -- TONE
    cases o <;> exact h
  case h_6 hq => -- DARK
    rw [hq] at hstate
    cases o with
    | endDark => exact sequencerLaw_enterRest hwp hstate.1
    | darkSample | darkChips => exact sequencerLaw_enterDark hwp hstate.1 _
    | runPair | sendWord => exact hmove
  case h_7 => -- SWITCH_FAULT
    cases o with
    | endDark | runPair | sendWord => exact h
    | darkSample | darkChips =>
      dsimp only
      split
      · exact sequencerLaw_enterDark hwp ‹_› _
      · exact hmove

theorem SequencerLaw.afterWord {s : State} (h : SequencerLaw s.seq) : SequencerLaw (afterWord s).seq := by
  have hwp := h.2.1
  unfold Machine.afterWord
  split
  · next hcurrent _ => exact sequencerLaw_enterFilling hwp (h.position_of_current hcurrent) _
  · next hcurrent _ =>
    have hpos := h.position_of_current hcurrent
    dsimp only
    split
    · split
      · next heq =>
        exact sequencerLaw_enterFilling (s := { s with seq := { s.seq with held := none } }) hwp (heq ▸ hpos) _
      · exact sequencerLaw_moveSwitch (s := { s with seq := { s.seq with held := none } }) hwp _
    · split
      · next heq =>
        exact sequencerLaw_enterTone (s := { s with seq := { s.seq with held := none } }) hwp (heq ▸ hpos) _ _
      · exact sequencerLaw_moveSwitch (s := { s with seq := { s.seq with held := none } }) hwp _
    · exact sequencerLaw_moveSwitch (s := { s with seq := { s.seq with held := none } }) hwp _
    · exact sequencerLaw_moveSwitch (s := { s with seq := { s.seq with held := none } }) hwp _
    · exact h
  · exact h

theorem SequencerLaw.resetSequencer (q : Sequencer) : SequencerLaw (resetSequencer q) :=
  ⟨le_rfl, Nat.zero_lt_succ _, rfl, rfl⟩

theorem SequencerLaw.seqMove {q r : Sequencer} (h : SequencerLaw q) (hmove : SeqMove q r) : SequencerLaw r := by
  obtain ⟨hpos, hwp, hstate⟩ := id h
  cases hmove with
  | boundary | filled => exact h
  | chip => exact ⟨hpos, Nat.mod_lt _ (by decide), hstate⟩
  | steady hfill => rw [hfill] at hstate; exact ⟨hpos, hwp, hstate⟩
  | hold =>
    refine ⟨hpos, hwp, ?_⟩
    cases hq : q.state <;> simp only [hq] at hstate ⊢ <;> first | exact hstate | exact ⟨trivial, hstate.2⟩
  | fault hhold => exact ⟨hpos, hwp, hhold, rfl⟩
  | clear =>
    unfold clearHold
    split
    · next hq => rw [hq] at hstate; exact ⟨le_rfl, hwp, rfl, hstate.2⟩
    · next hq =>
      refine ⟨hpos, hwp, ?_⟩
      cases hq' : q.state with
      | switchFault => exact absurd hq' hq
      | _ => simpa only [hq'] using hstate
  | reset => exact .resetSequencer q

theorem settleDue_some {s : State} {o : Order} (h : settleDue s = some o) :
    s.seq.state = .settling ∧ s.seq.goal = some o := by
  unfold settleDue at h
  split at h
  · next hdue => exact ⟨hdue.1, h⟩
  · cases h

theorem closed_sequencerLaw : Closed (fun s => SequencerLaw s.seq) where
  quiet hs hquiet := hquiet.seq ▸ hs
  order o hs := hs.giveOrder o
  settle hdue hs := by
    obtain ⟨hq, hgoal⟩ := settleDue_some hdue
    obtain ⟨-, hwp, hstate⟩ := id hs
    simp only [hq] at hstate
    obtain ⟨-, o', hgoal', htarget⟩ := hstate
    cases hgoal.symm.trans hgoal'
    exact sequencerLaw_settleInto hwp htarget
  word hs := hs.afterWord
  seq hmove hs := hs.seqMove hmove
  stopAcc hs := hs
  sample _ hs := hs
  release hs := hs
  noise _ hs := hs

/-! ### The law of the dark offset (R41, R43) -/

/-- The intake alone decides the law of R41. -/
def IntakeLaw (i : Intake) : Prop := i.offset ≤ 16383 ∧ ∀ a, i.acc = some a → a.sum ≤ a.count * 16383

theorem darkLaw_iff (s : State) : DarkLaw s ↔ IntakeLaw s.intake := Iff.rfl

/-- The intakes that orders lead to: the same offset, and an accumulation begun, ended or going on. -/
theorem IntakeLaw.of_acc {i k : Intake} (h : IntakeLaw i) (hoffset : k.offset = i.offset)
    (hacc : k.acc = i.acc ∨ k.acc = none ∨ k.acc = some ⟨0, 0, 0⟩) : IntakeLaw k := by
  refine ⟨hoffset ▸ h.1, fun a ha => ?_⟩
  rcases hacc with hacc | hacc | hacc <;> rw [hacc] at ha
  · exact h.2 a ha
  · cases ha
  · cases ha
    exact Nat.zero_le _

/-- What entering DARK makes of the intake (R29, R43). -/
theorem enterDark_intake (o : Order) (s : State) : (enterDark o s).intake.offset = s.intake.offset ∧
    ((enterDark o s).intake.acc = none ∨ (enterDark o s).intake.acc = some ⟨0, 0, 0⟩) := by
  cases o <;> simp [enterDark, enterRest]

theorem giveOrder_intake (o : Order) (s : State) : (giveOrder o s).intake.offset = s.intake.offset ∧
    ((giveOrder o s).intake.acc = s.intake.acc ∨ (giveOrder o s).intake.acc = none ∨
      (giveOrder o s).intake.acc = some ⟨0, 0, 0⟩) := by
  have hdark := enterDark_intake o s
  have hmove : (moveSwitch o s).intake.acc = none := rfl
  unfold giveOrder
  repeat' split
  all_goals first
    | exact ⟨hdark.1, .inr hdark.2⟩ | exact ⟨rfl, .inl rfl⟩ | exact ⟨rfl, .inr (.inl rfl)⟩

theorem settleInto_intake (o : Order) (s : State) : (settleInto o s).intake.offset = s.intake.offset ∧
    ((settleInto o s).intake.acc = s.intake.acc ∨ (settleInto o s).intake.acc = none ∨
      (settleInto o s).intake.acc = some ⟨0, 0, 0⟩) := by
  cases o with
  | runPair | sendWord => exact ⟨rfl, .inl rfl⟩
  | darkSample | darkChips => exact ⟨(enterDark_intake _ s).1, .inr (enterDark_intake _ s).2⟩
  | endDark => exact ⟨rfl, .inr (.inl rfl)⟩

theorem afterWord_intake (s : State) : (afterWord s).intake.offset = s.intake.offset ∧
    ((afterWord s).intake.acc = s.intake.acc ∨ (afterWord s).intake.acc = none) := by
  unfold afterWord
  dsimp only
  repeat' split
  all_goals first | exact ⟨rfl, .inl rfl⟩ | exact ⟨rfl, .inr rfl⟩

/-- A sample keeps the sum below the full scale of the samples counted. -/
theorem IntakeLaw.darkSample {i : Intake} (h : IntakeLaw i) (adc : BitVec 14) :
    IntakeLaw (darkSample adc.toNat i) := by
  refine ⟨h.1, fun a ha => ?_⟩
  obtain ⟨b, hb, hab⟩ := Option.map_eq_some_iff.mp ha
  have hsum := h.2 b hb
  split at hab
  · subst hab
    have := adc.isLt
    simp only [addDark]
    omega
  · exact hab ▸ hsum

/-- A mean of full-scale samples is at most full scale. -/
theorem darkMean_le {d sum : Nat} (h : sum ≤ 2 ^ d * 16383) : darkMean d sum ≤ 16383 := by
  have hpos : 0 < 2 ^ d := Nat.two_pow_pos d
  unfold darkMean
  refine Nat.le_of_lt_succ ((Nat.div_lt_iff_lt_mul hpos).mpr ?_)
  omega

theorem samplingDone_some {s : State} {a : DarkAcc} (h : samplingDone s = some a) :
    s.intake.acc = some a ∧ a.count = 2 ^ s.intake.dd := by
  unfold samplingDone at h
  split at h
  · obtain ⟨b, hb, hab⟩ := Option.bind_eq_some_iff.mp h
    split at hab
    · cases hab
      exact ⟨hb, ‹_›⟩
    · cases hab
  · cases h

theorem IntakeLaw.intakeAfter {s : State} (h : IntakeLaw s.intake) {a : DarkAcc}
    (hdue : samplingDone s = some a) (r : CalResult) : IntakeLaw (intakeAfter r a s.intake) := by
  obtain ⟨hacc, hcount⟩ := samplingDone_some hdue
  cases r with
  | accepted => exact ⟨darkMean_le (hcount ▸ h.2 a hacc), h.2⟩
  | rejected | held => exact h

theorem clamp_le {lo hi x : Nat} (h : lo ≤ hi) : clamp lo hi x ≤ hi := by
  unfold clamp
  split <;> [exact h; split <;> omega]

theorem le_clamp {lo hi x : Nat} (h : lo ≤ hi) : lo ≤ clamp lo hi x := by
  unfold clamp
  split <;> [exact le_rfl; split <;> omega]

theorem closed_darkLaw : Closed DarkLaw where
  quiet hs hquiet := IntakeLaw.of_acc hs hquiet.offset (.inl hquiet.acc)
  order o hs := IntakeLaw.of_acc hs (giveOrder_intake o _).1 (giveOrder_intake o _).2
  settle _ hs := IntakeLaw.of_acc hs (settleInto_intake _ _).1 (settleInto_intake _ _).2
  word hs := IntakeLaw.of_acc hs (afterWord_intake _).1 ((afterWord_intake _).2.imp_right .inl)
  seq _ hs := hs
  stopAcc hs := IntakeLaw.of_acc hs rfl (.inr (.inl rfl))
  sample adc hs := IntakeLaw.darkSample hs adc
  release {s} hs := by
    refine IntakeLaw.of_acc hs ?_ ?_
    · change (releaseOffset s.intake).offset = _
      unfold releaseOffset
      split <;> rfl
    · change (releaseOffset s.intake).acc = _ ∨ _
      unfold releaseOffset
      split <;> exact .inl rfl
  noise _ hs := hs

/-! ### The law of the parameters (R174) -/

/-- Every parameter but wide lies in its range, and wide is at most 1000: what each entry of a list keeps. -/
def Params.Ranged (p : Params) : Prop :=
  (1 ≤ p.settle ∧ p.settle ≤ 255) ∧ p.clipLimit ≤ 65535 ∧ (8 ≤ p.snrQ ∧ p.snrQ ≤ 255) ∧
  (1 ≤ p.stable ∧ p.stable ≤ 500) ∧ p.wide ≤ 1000 ∧
  (1 ≤ p.step ∧ p.step ≤ 100) ∧ (1 ≤ p.learnN ∧ p.learnN ≤ 16) ∧
  (1 ≤ p.driftN ∧ p.driftN ≤ 255) ∧ (5 ≤ p.stepThr ∧ p.stepThr ≤ 1000) ∧
  (1 ≤ p.confirmN ∧ p.confirmN ≤ 15) ∧ (1 ≤ p.clearN ∧ p.clearN ≤ 15) ∧
  (1 ≤ p.suspectTtl ∧ p.suspectTtl ≤ 1440) ∧ p.qConfirmAdd ≤ 6 ∧ (1 ≤ p.slice ∧ p.slice ≤ 64) ∧
  p.preemptMax ≤ 255 ∧ (10 ≤ p.concurTimeout ∧ p.concurTimeout ≤ 3600) ∧ p.retryMax ≤ 7 ∧
  p.darkEvery ≤ 255 ∧ (12 ≤ p.dd ∧ p.dd ≤ 20)

theorem ParamsLaw.ranged {p : Params} (h : ParamsLaw p) : p.Ranged := by
  unfold ParamsLaw at h
  unfold Params.Ranged
  omega

/-- The value used lies in the range of its parameter (R172). -/
theorem paramUsed_mem {p : Params} {n : Nat} (v : Nat) (h : (paramRange p n).1 ≤ (paramRange p n).2) :
    (paramRange p n).1 ≤ paramUsed p n v ∧ paramUsed p n v ≤ (paramRange p n).2 :=
  ⟨le_clamp h, clamp_le h⟩

theorem Params.Ranged.putParam {p : Params} (h : p.Ranged) (n v : Nat) :
    (putParam p n (paramUsed p n v)).Ranged := by
  have hrange : (paramRange p n).1 ≤ (paramRange p n).2 := by
    unfold Params.Ranged at h
    unfold paramRange
    split <;> simp only [] <;> omega
  obtain ⟨hlow, hhigh⟩ := paramUsed_mem v hrange
  generalize paramUsed p n v = u at *
  unfold Params.Ranged at *
  unfold Machine.putParam paramRange at *
  split at hlow <;> simp only [] at hlow hhigh ⊢ <;> omega

theorem Params.Ranged.applyParams (l : List (Byte × Half)) :
    ∀ {p : Params}, p.Ranged → (applyParams l p).1.Ranged := by
  induction l with
  | nil => exact fun h => h
  | cons e rest ih => exact fun h => ih (h.putParam e.1.toNat e.2.toNat)

theorem Params.Ranged.settleWide {p : Params} (h : p.Ranged) : ParamsLaw (settleWide p) := by
  unfold Params.Ranged at h
  have hlow : p.stable ≤ clamp p.stable 1000 p.wide := le_clamp (by omega)
  have hhigh : clamp p.stable 1000 p.wide ≤ 1000 := clamp_le (by omega)
  unfold ParamsLaw Machine.settleWide
  simp only []
  omega

theorem paramsLaw_paramsAfter (l : List (Byte × Half)) {p : Params} (h : ParamsLaw p) :
    ParamsLaw (paramsAfter l p) := (h.ranged.applyParams l).settleWide

theorem paramsLaw_default : ParamsLaw Params.default := by
  unfold ParamsLaw Params.default
  decide

/-! ### The law of the signature entries (R76) -/

/-- Every entry of the table meets its law. -/
def SigLaw (s : State) : Prop := ∀ p k, (s.sigAt p k).law

/-- A move that leaves the freeze flags and keeps the law of the entries. -/
structure SigKeep (s t : State) : Prop where
  freeze : t.sig.freeze = s.sig.freeze
  law : SigLaw s → SigLaw t

namespace SigKeep

variable {s t u : State}

theorem of_sig (h : t.sig = s.sig) : SigKeep s t :=
  ⟨by rw [h], fun hs p k => by simpa [State.sigAt, h] using hs p k⟩

theorem refl (s : State) : SigKeep s s := of_sig rfl

theorem trans (h : SigKeep s t) (k : SigKeep t u) : SigKeep s u :=
  ⟨k.freeze.trans h.freeze, fun hs => k.law (h.law hs)⟩

end SigKeep

/-- An entry after a write of one is the entry before or what the write makes of it. -/
theorem sigAt_setSig_cases (s : State) (p q : PairNo) (h k : Nat) (f : SigEntry → SigEntry) :
    (s.setSig p h f).sigAt q k = f (s.sigAt q k) ∨ (s.setSig p h f).sigAt q k = s.sigAt q k := by
  simp only [State.sigAt, State.setSig, Fin.getElem_fin]
  rw [tableMap_get _ _ _ _ q.isLt]
  split
  · by_cases hk : k - 1 < 192
    · rw [tableGet_tableMap _ _ _ _ _ hk]
      split
      · exact .inl rfl
      · exact .inr rfl
    · rw [tableGet_of_le _ _ _ (by omega), tableGet_of_le _ _ _ (by omega)]
      exact .inr rfl
  · exact .inr rfl

theorem SigKeep.setSig_of_law (s : State) (p : PairNo) (k : Nat) {f : SigEntry → SigEntry}
    (hf : ∀ e : SigEntry, e.law → (f e).law) : SigKeep s (s.setSig p k f) := by
  refine ⟨rfl, fun hs q j => ?_⟩
  rcases sigAt_setSig_cases s p q k j f with h | h <;> rw [h]
  · exact hf _ (hs q j)
  · exact hs q j

theorem SigKeep.setSig_const (s : State) (p : PairNo) (k : Nat) {e : SigEntry} (he : SigLaw s → e.law) :
    SigKeep s (s.setSig p k (fun _ => e)) := by
  refine ⟨rfl, fun hs q j => ?_⟩
  rcases sigAt_setSig_cases s p q k j (fun _ => e) with h | h <;> rw [h]
  · exact he hs
  · exact hs q j

theorem law_relearnEntry {e : SigEntry} : (relearnEntry e).law :=
  ⟨Nat.zero_le _, rfl, iff_of_true rfl rfl⟩

theorem law_writtenEntry (v : Nat) {e : SigEntry} : (writtenEntry v e).law :=
  ⟨Nat.zero_le _, Option.some_ne_none v⟩

theorem law_powerOn : SigEntry.powerOn.law := ⟨Nat.zero_le _, rfl, rfl, rfl⟩

/-- The law reads neither the last level nor its deviation and stamp. -/
theorem SigEntry.law_congr {e e' : SigEntry} (hstate : e'.state = e.state) (hbase : e'.base = e.base)
    (hlearn : e'.learn = e.learn) (hdrift : e'.drift = e.drift) : e'.law ↔ e.law := by
  unfold SigEntry.law
  rw [hstate, hbase, hlearn, hdrift]

/-- R80: an entry that learns a level has a base and a count. -/
theorem law_learnLevel (p : Params) (v : Nat) {e : SigEntry} (h : e.law)
    (hstate : e.state ≠ .tracking ∨ e.base = none) : (learnLevel p v e).law := by
  have hdrift : e.drift = 0 := by
    obtain ⟨-, hrest⟩ := h
    cases hst : e.state <;> simp only [hst] at hrest hstate
    · exact hrest.2.2
    · exact hrest.1
    · exact absurd (hstate.resolve_left (by simp)) hrest
  have hlearn : 1 ≤ (learnLevel p v e).learn := by
    unfold learnLevel
    dsimp only
    repeat' split
    all_goals simp
  refine ⟨show e.drift ≤ 255 by omega, ?_⟩
  have hbase : (learnLevel p v e).base ≠ none := Option.some_ne_none _
  have hcases : (learnLevel p v e).state = .tracking ∨ (learnLevel p v e).state = .learning := by
    exact ite_eq_or_eq ..
  rcases hcases with hst | hst <;> rw [hst]
  · exact hbase
  · exact ⟨hdrift, iff_of_false hbase (by omega)⟩

theorem law_trackLevel (p : Params) (base : Nat) (d : Int) {e : SigEntry} (h : e.law)
    (hstate : e.state = .tracking) : (trackLevel p base d e).1.law := by
  obtain ⟨hdrift, hbase⟩ := id h
  rw [hstate] at hbase
  unfold trackLevel
  repeat' split
  · exact ⟨Nat.zero_le _, by simp [hstate]⟩
  · exact ⟨Nat.zero_le _, by simpa [hstate] using hbase⟩
  · exact ⟨Nat.min_le_right _ _, by simpa [hstate] using hbase⟩
  · exact h

theorem law_updateEntry (p : Params) (frozen : Bool) (stamp v : Nat) {e : SigEntry} (h : e.law) :
    (updateEntry p frozen stamp v e).1.law := by
  unfold updateEntry
  split
  · next base hstate _ =>
    refine (SigEntry.law_congr rfl rfl rfl rfl).mpr (?_ : (if frozen then (e, false) else _).1.law)
    split
    · exact h
    · exact law_trackLevel p base _ h hstate
  · next hother =>
    refine (SigEntry.law_congr rfl rfl rfl rfl).mpr (?_ : (if frozen then e else _).law)
    split
    · exact h
    · refine law_learnLevel p v h ?_
      by_contra hboth
      simp only [not_or, not_not] at hboth
      obtain ⟨base, hbase⟩ := Option.ne_none_iff_exists'.mp hboth.2
      exact hother base hboth.1 hbase

/-- Every treatment of a record keeps its entry's law (R78). -/
theorem law_sigStep (mode : SigMode) (p : Params) (frozen : Bool) (r : EchoRecord) {e : SigEntry} (h : e.law) :
    (sigStep mode p frozen e r).1.law := by
  unfold sigStep
  split
  · exact (SigEntry.law_congr rfl rfl rfl rfl).mpr h
  · exact law_updateEntry _ _ _ _ h
  all_goals exact h

namespace SigKeep

theorem sigPass (mode : SigMode) (par : Params) (p : PairNo) (records : List EchoRecord) :
    ∀ s, SigKeep s (sigPass mode par p records s).1 := by
  induction records with
  | nil => exact refl
  | cons r rest ih =>
    intro s
    refine SigKeep.trans ?_ (ih _)
    cases mode with
    | update => exact setSig_const s p _ fun hs => law_sigStep _ _ _ _ (hs p r.position)
    | lookup | skip => exact refl s

theorem relearnRange (p : PairNo) (a b : Nat) (s : State) : SigKeep s (relearnRange p a b s) :=
  List.foldlRecOn (motive := SigKeep s) _ _ (refl s) fun t ht k _ =>
    ht.trans (setSig_of_law t p k fun _ _ => law_relearnEntry)

theorem writeBases (p : PairNo) (l : List Nat) : ∀ k s, SigKeep s (writeBases p k l s) := by
  induction l with
  | nil => exact fun k s => refl s
  | cons v rest ih => exact fun k s => (setSig_of_law s p k fun _ _ => law_writtenEntry v).trans (ih _ _)

theorem completeCommand (p : PairNo) (c : CommandFields) (s : State) :
    SigKeep s (completeCommand p c s) := by
  have hone : ∀ q (t : State), SigKeep t (relearnAndIsolate c.housing q t) :=
    fun q t => (relearnRange q _ _ t).trans (of_sig rfl)
  have hset : ∀ f, SigKeep s (if c.opcode = .selectPump then s.setHousing c.housing f else s) := fun f => by
    split
    · exact of_sig rfl
    · exact refl s
  have hwrite : ∀ f, SigKeep s (s.setHousing c.housing f) := fun f => of_sig rfl
  have hentries : ∀ (t : State) k n, SigKeep t (if c.argument.getLsbD 0 then Machine.relearnRange p k n t
      else if c.argument.getLsbD 1 then Machine.relearnRange p k k t else t) := fun t k n => by
    repeat' split
    · exact relearnRange ..
    · exact relearnRange ..
    · exact refl t
  have hmute : ∀ muting, SigKeep s (completeMute p c muting s) := fun muting => by
    unfold completeMute
    dsimp only
    split
    · exact ((hwrite _).trans (hentries _ _ _)).trans (of_sig rfl)
    · exact (hwrite _).trans (hentries _ _ _)
  unfold Machine.completeCommand
  cases c.opcode with
  | selectPump | trimGain =>
    exact List.foldlRecOn (motive := SigKeep s) _ _ (hset _) fun t ht q _ => ht.trans (hone q t)
  | mute | unmute =>
    exact hmute _
  | setLoopback =>
    exact (hwrite _).trans (relearnRange ..)
  | nop | queryPumps | queryTemp => exact refl s

theorem actOnWord (o : WordOutcome) (j : Job) (p : PairNo) (c : CommandFields) (x : Exchange) (s : State) :
    SigKeep s (actOnWord o j p c x s) := by
  cases o with
  | retry => exact refl s
  | exhausted => exact of_sig (wordExhausted_sig ..)
  | refused => exact of_sig (writeJobToggle_sig ..)
  | succeeded =>
    have hbefore : SigKeep s ((writeJobToggle j (some x.toggle) s).setCmd j.number (advanceCommand x.word)) :=
      of_sig (by simp)
    unfold Machine.actOnWord wordSucceeded
    dsimp only
    split
    · exact hbefore.trans (completeCommand ..)
    · exact hbefore

theorem decideWord (retryMax : Nat) (s : State) : SigKeep s (decideWord retryMax s) := by
  rcases decideWord_cases retryMax s with h | ⟨j, p, c, _, _, _, h⟩ <;> rw [h]
  · exact of_sig rfl
  · exact .trans (t := notedWord retryMax j s) (of_sig rfl) (actOnWord ..)

theorem evaluateAndGoOn (rec : PassRecord) (s : State) : SigKeep s (evaluateAndGoOn rec s) := by
  have hsteps : SigKeep s (stepsTwoThree rec (stepOne rec s) s).1 := by
    unfold stepsTwoThree
    dsimp only
    split
    · exact refl s
    · split
      · exact (sigPass ..).trans (of_sig (locate_sig ..))
      · exact sigPass ..
      · exact sigPass ..
  have heval : SigKeep s (evaluatePass rec s) := by
    unfold evaluatePass
    dsimp only
    refine SigKeep.trans ?_ (of_sig ((dropPass_sig _).trans (stepFive_sig ..)))
    split
    · exact of_sig (deliver_sig ..)
    · exact hsteps.trans (of_sig (deliver_sig ..))
  exact heval.trans (of_sig (afterPass_sig ..))

theorem emptySignatures (p : PairNo) (s : State) : SigKeep s (emptySignatures p s) := by
  refine ⟨rfl, fun hs q k => ?_⟩
  simp only [State.sigAt, Machine.emptySignatures, Fin.getElem_fin]
  rw [tableMap_get _ _ _ _ q.isLt]
  split
  · by_cases hk : k - 1 < 192
    · rw [tableGet_eq _ _ _ hk, Vector.getElem_replicate]
      exact law_powerOn
    · rw [tableGet_of_le _ _ _ (by omega)]
      exact law_powerOn
  · exact hs q k

end SigKeep

/-! ### What the moves leave of time, parameters and queue -/

/-- Line time, parameters and queue are the same. -/
structure SameBase (s t : State) : Prop where
  lineTime : t.lineTime = s.lineTime
  params : t.params = s.params
  pending : t.pending = s.pending

section
variable (s : State)

theorem portResetState_base (p : Port) :
    SameBase s (portResetState p s) ∧ (portResetState p s).sig = s.sig := by
  unfold portResetState
  split
  · exact ⟨⟨rfl, rfl, rfl⟩, rfl⟩
  · exact ⟨⟨arbitrate_lineTime _, arbitrate_params _, arbitrate_pending _⟩, arbitrate_sig _⟩

theorem portReleaseState_base (p : Port) (b : Bool) :
    SameBase s (portReleaseState p b s) ∧ (portReleaseState p b s).sig = s.sig := by
  unfold portReleaseState
  split <;> exact ⟨⟨rfl, rfl, rfl⟩, rfl⟩

theorem engineResetState_base :
    SameBase s (engineResetState s) ∧ (engineResetState s).sig = s.sig := by
  unfold engineResetState
  dsimp only
  split
  · exact ⟨⟨arbitrate_lineTime _, arbitrate_params _, arbitrate_pending _⟩, arbitrate_sig _⟩
  · exact ⟨⟨rfl, rfl, rfl⟩, rfl⟩

theorem submitCommandJob_base (port : Port) (k n : Nat) (u : CommandUse) :
    SameBase s (submitCommandJob port k n u s) ∧ (submitCommandJob port k n u s).sig = s.sig := by
  unfold submitCommandJob
  dsimp only
  split <;> exact ⟨⟨by simp, by simp, by simp⟩, by simp⟩

theorem startPass_base : SameBase s (startPass s) ∧ (startPass s).sig = s.sig := by
  unfold startPass
  split <;> exact ⟨⟨rfl, rfl, rfl⟩, rfl⟩

theorem endFill_base : SameBase s (endFill s) ∧ (endFill s).sig = s.sig := by
  unfold endFill
  split <;> exact ⟨⟨rfl, rfl, rfl⟩, rfl⟩

theorem chipStrobe_base (adc : BitVec 14) :
    SameBase s (chipStrobe adc s) ∧ (chipStrobe adc s).sig = s.sig := by
  unfold chipStrobe rawSample
  dsimp only
  split <;> exact ⟨⟨rfl, rfl, rfl⟩, rfl⟩

theorem evaluateAndGoOn_base (rec : PassRecord) : SameBase s (evaluateAndGoOn rec s) := by
  unfold evaluateAndGoOn
  exact ⟨by simp, by simp, by simp⟩

end

theorem SameBase.trans {s t u : State} (h : SameBase s t) (k : SameBase t u) : SameBase s u :=
  ⟨k.lineTime.trans h.lineTime, k.params.trans h.params, k.pending.trans h.pending⟩

/-- The three moves that write line time or parameters, and every other. -/
inductive BaseMove : Instr → State → State → Prop
  | same (c : Instr) {s t : State} (h : SameBase s t) : BaseMove c s t
  | powerOn (straps : BitVec 4) {s t : State} (hparams : t.params = Params.default)
      (hpending : t.pending = s.pending) : BaseMove (.powerOn straps) s t
  | setParams (port : Port) (l : List (Byte × Half)) (s : State) :
      BaseMove (.setParams port l) s (writeParams l s)
  | tick (s : State) : BaseMove .lineTimeTick s { s with lineTime := s.lineTime + 1 }

theorem Does.base {c : Instr} {s t : State} (hdoes : Does c s t) : BaseMove c s t := by
  cases hdoes with
  | powerOn straps =>
    refine .powerOn straps ?_ ?_ <;> unfold powerOnState
    · exact arbitrate_params _
    · exact arbitrate_pending _
  | engineReset => exact .same c (engineResetState_base s).1
  | portReset _ p => exact .same c (portResetState_base s p).1
  | portRelease p b => exact .same _ (portReleaseState_base s p b).1
  | ports _ hmove => exact .same c ⟨hmove.lineTime, hmove.params, hmove.pending⟩
  | submitCommand => exact .same c (submitCommandJob_base ..).1
  | setParams port l => exact .setParams port l s
  | tick => exact .tick s
  | fillEnd =>
    have hboundary : SameBase s (tookBoundary s) := ⟨rfl, rfl, rfl⟩
    exact .same c ((hboundary.trans (endFill_base _).1).trans (startPass_base _).1)
  | startPass =>
    have hboundary : SameBase s (tookBoundary s) := ⟨rfl, rfl, rfl⟩
    exact .same c (hboundary.trans (startPass_base _).1)
  | passEnd =>
    have hboundary : SameBase s (tookBoundary s) := ⟨rfl, rfl, rfl⟩
    exact .same c (hboundary.trans (evaluateAndGoOn_base ..))
  | passDark =>
    have hfault : SameBase s (takeFault (tookBoundary s)) := ⟨by simp, by simp, by simp⟩
    exact .same c (hfault.trans (evaluateAndGoOn_base ..))
  | routeOpen | routeClose | assign | calibrated => exact .same _ ⟨by simp, by simp, by simp⟩
  | holdOffset | define | freeze | routeEntries => exact .same _ ⟨rfl, rfl, rfl⟩
  | patrol => exact .same c ⟨by simp [runPatrolOn], by simp [runPatrolOn], by simp [runPatrolOn]⟩
  | chip => exact .same c (chipStrobe_base ..).1
  | _ => exact .same c ⟨by simp, by simp, by simp⟩

/-- Every move but a write of a flag keeps flags and law (R76, R87). -/
inductive SigMove : Instr → State → State → Prop
  | keep (c : Instr) {s t : State} (h : SigKeep s t) : SigMove c s t
  | powerOn (straps : BitVec 4) {s t : State} (h : SigLaw t) : SigMove (.powerOn straps) s t
  | freeze (port : Port) (x y : Byte) {s t : State} (h : t.sig.entries = s.sig.entries) :
      SigMove (.freeze port x y) s t

theorem Does.sig {c : Instr} {s t : State} (hdoes : Does c s t) : SigMove c s t := by
  cases hdoes with
  | powerOn straps =>
    refine .powerOn straps fun p k => ?_
    have hsig : (powerOnState straps s).sig = (State.cleared s.ports []).sig := arbitrate_sig _
    rw [State.sigAt, hsig]
    by_cases hk : k - 1 < 192
    · rw [tableGet_eq _ _ _ hk]
      simpa [State.cleared] using law_powerOn
    · rw [tableGet_of_le _ _ _ (by omega)]
      exact law_powerOn
  | engineReset => exact .keep c (.of_sig (engineResetState_base s).2)
  | portReset _ p => exact .keep c (.of_sig (portResetState_base s p).2)
  | portRelease p b => exact .keep _ (.of_sig (portReleaseState_base s p b).2)
  | ports _ hmove => exact .keep c (.of_sig hmove.sig)
  | submitCommand => exact .keep c (.of_sig (submitCommandJob_base ..).2)
  | writeBases => exact .keep c (.writeBases ..)
  | relearn => exact .keep c (.relearnRange ..)
  | freeze port x y => exact .freeze port x y rfl
  | routeOpen =>
    have hpair : ∀ p f, SigKeep s (s.setPair p f) := fun p f => .of_sig rfl
    exact .keep _ (((hpair _ _).trans (.emptySignatures _ _)).trans (.of_sig rfl))
  | fillEnd => exact .keep c (.of_sig ((startPass_base _).2.trans (endFill_base _).2))
  | startPass => exact .keep c (.of_sig (startPass_base _).2)
  | passEnd => exact .keep c (.trans (t := tookBoundary s) (.of_sig rfl) (.evaluateAndGoOn ..))
  | passDark =>
    exact .keep c (.trans (t := takeFault (tookBoundary s)) (.of_sig (by simp)) (.evaluateAndGoOn ..))
  | @lastSlot _ _ su =>
    have hheard : SigKeep s (dropPass (addSlot (slotOutcome su s.corr.cells) (tookBoundary s))) := .of_sig rfl
    exact .keep c (hheard.trans (.decideWord ..))
  | holdOffset | setParams | define | routeEntries | tick => exact .keep _ (.of_sig rfl)
  | routeClose | assign | calibrated => exact .keep _ (.of_sig (by simp))
  | patrol => exact .keep c (.of_sig (by simp [runPatrolOn]))
  | chip => exact .keep c (.of_sig (chipStrobe_base ..).2)
  | _ => exact .keep c (.of_sig (by simp))

/-! ### Every step -/

theorem sequencerLaw_cleared (straps : BitVec 4) (s : State) : SequencerLaw (clearedFrom straps s).seq :=
  .resetSequencer s.seq

theorem darkLaw_cleared (straps : BitVec 4) (s : State) : DarkLaw (clearedFrom straps s) :=
  ⟨show 8192 ≤ 16383 by decide, fun _ h => by cases h⟩

theorem Closed.powerOn {P : State → Prop} (hP : Closed P) {straps : BitVec 4} {s : State}
    (h : P (clearedFrom straps s)) : P (powerOnState straps s) :=
  hP.arbitrate (hP.sched _ h)

theorem Does.keeps_sequencerLaw {c : Instr} {s t : State} (hdoes : Does c s t) (hs : SequencerLaw s.seq) :
    SequencerLaw t.seq := by
  refine closed_sequencerLaw.does hdoes hs (fun straps _ => closed_sequencerLaw.powerOn (sequencerLaw_cleared ..))
    (fun p b _ => ?_) (fun _ _ _ => hs) (fun _ _ _ _ _ _ _ _ _ _ => hs) (fun _ _ _ => hs)
  unfold portReleaseState
  split <;> exact hs

theorem Does.keeps_darkLaw {c : Instr} {s t : State} (hdoes : Does c s t) (hs : DarkLaw s) : DarkLaw t := by
  refine closed_darkLaw.does hdoes hs (fun straps _ => closed_darkLaw.powerOn (darkLaw_cleared ..))
    (fun p b _ => ?_) (fun _ v _ => ⟨clamp_le (Nat.zero_le _), hs.2⟩) (fun _ _ _ _ _ _ _ _ _ _ => hs)
    (fun a _ hdue => IntakeLaw.intakeAfter hs hdue _)
  unfold portReleaseState
  split <;> exact hs

theorem Does.keeps_paramsLaw {c : Instr} {s t : State} (hdoes : Does c s t) (hs : ParamsLaw s.params) :
    ParamsLaw t.params := by
  cases hdoes.base with
  | same _ hsame => exact hsame.params ▸ hs
  | powerOn _ hparams => exact hparams ▸ paramsLaw_default
  | setParams _ l => exact paramsLaw_paramsAfter l hs
  | tick => exact hs

theorem Does.keeps_sigLaw {c : Instr} {s t : State} (hdoes : Does c s t) (hs : SigLaw s) : SigLaw t := by
  cases hdoes.sig with
  | keep _ hkeep => exact hkeep.law hs
  | powerOn _ hlaw => exact hlaw
  | freeze _ _ _ hentries => exact fun p k => by simpa [State.sigAt, hentries] using hs p k

/-- Settles O55: four laws, each kept by every move. -/
theorem registerLawsAreKept : Obligations.RegisterLawsAreKept := fun _ _ hstep =>
  ⟨step_keeps (P := DarkLaw) (fun _ _ h => h) (fun _ _ h => h) (fun _ _ _ => Does.keeps_darkLaw) hstep,
    step_keeps (P := fun s => ParamsLaw s.params) (fun _ _ h => h) (fun _ _ h => h)
      (fun _ _ _ => Does.keeps_paramsLaw) hstep,
    step_keeps (P := fun s => SequencerLaw s.seq) (fun _ _ h => h) (fun _ _ h => h)
      (fun _ _ _ => Does.keeps_sequencerLaw) hstep,
    step_keeps (P := SigLaw) (fun _ _ h => h) (fun _ _ h => h) (fun _ _ _ => Does.keeps_sigLaw) hstep⟩

end Sys2Proof.Machine
end

section
/-! The law of the slots and of the one ACTIVE job (R115, R116, R122; O56): the law reads the list of jobs alone;
it stands where jobs leave or keep number, requester, kind, pair and command fields and none becomes ACTIVE; a
new job takes a free number and a free slot; and a grant is made only where no job is ACTIVE. -/

namespace Sys2Proof.Machine

/-! ### The law on a list of jobs -/

/-- A job agrees with one before in what the law of the slots reads, and is ACTIVE only if that one was. -/
structure Job.Alike (j i : Job) : Prop where
  number : j.number = i.number
  requester : j.requester = i.requester
  kind : j.kind = i.kind
  pair : j.pair = i.pair
  cmd : j.cmd.isSome = i.cmd.isSome
  active : j.state = .active → i.state = .active

theorem Job.Alike.refl (j : Job) : j.Alike j := ⟨rfl, rfl, rfl, rfl, rfl, id⟩

theorem Job.Alike.trans {i j k : Job} (h : i.Alike j) (h' : j.Alike k) : i.Alike k :=
  ⟨h.number.trans h'.number, h.requester.trans h'.requester, h.kind.trans h'.kind, h.pair.trans h'.pair,
    h.cmd.trans h'.cmd, h'.active ∘ h.active⟩

theorem Job.Alike.kindLaw {j i : Job} (h : j.Alike i) (hi : i.kindLaw) : j.kindLaw := by
  unfold Job.kindLaw at *
  rwa [h.cmd, h.kind, h.requester, h.pair]

/-- The second list comes from the first: jobs have left, and those that stay are alike. -/
def Milder (l' l : List Job) : Prop := List.SublistForall₂ Job.Alike l' l

namespace Milder

variable {l l' l'' : List Job}

theorem refl (l : List Job) : Milder l l := by
  induction l with
  | nil => exact .nil
  | cons j l ih => exact .cons (.refl j) ih

theorem trans (h' : Milder l'' l') (h : Milder l' l) : Milder l'' l :=
  have : IsTrans Job Job.Alike := ⟨fun _ _ _ => Job.Alike.trans⟩
  (List.SublistForall₂.is_trans (Rₐ := Job.Alike)).trans _ _ _ h' h

theorem map {f : Job → Job} (h : ∀ j, (f j).Alike j) (l : List Job) : Milder (l.map f) l := by
  induction l with
  | nil => exact .nil
  | cons j l ih => exact .cons (h j) ih

theorem filter (p : Job → Bool) (l : List Job) : Milder (l.filter p) l := by
  induction l with
  | nil => exact .nil
  | cons j l ih =>
    rw [List.filter_cons]
    split
    · exact .cons (.refl j) ih
    · exact .cons_right ih

theorem mem (h : Milder l' l) : ∀ {j}, j ∈ l' → ∃ i ∈ l, j.Alike i := by
  induction h with
  | nil => exact fun hj => absurd hj List.not_mem_nil
  | cons hab _ ih =>
    intro j hj
    rcases List.mem_cons.mp hj with rfl | hj
    · exact ⟨_, List.mem_cons_self, hab⟩
    · exact (ih hj).imp fun i hi => ⟨List.mem_cons_of_mem _ hi.1, hi.2⟩
  | cons_right _ ih => exact fun hj => (ih hj).imp fun i hi => ⟨List.mem_cons_of_mem _ hi.1, hi.2⟩

theorem numbers (h : Milder l' l) : (l'.map Job.number).Sublist (l.map Job.number) := by
  induction h with
  | nil => exact List.nil_sublist _
  | cons hab _ ih =>
    rw [List.map_cons, List.map_cons, hab.number]
    exact ih.cons_cons _
  | cons_right _ ih => exact ih.cons _

theorem countP (h : Milder l' l) {P : Job → Bool} (hP : ∀ j i : Job, j.Alike i → P j = true → P i = true) :
    l'.countP P ≤ l.countP P := by
  induction h with
  | nil => exact Nat.zero_le _
  | cons hab _ ih =>
    rw [List.countP_cons, List.countP_cons]
    have := hP _ _ hab
    split_ifs <;> simp_all; omega
  | cons_right _ ih =>
    rw [List.countP_cons]
    omega

end Milder

/-- No job holds the path. -/
def PathFree (s : State) : Prop := ∀ j ∈ s.sched.jobs, j.state ≠ .active

theorem pathFree_iff {s : State} : PathFree s ↔ s.active? = none := by
  simp [PathFree, State.active?, List.find?_eq_none]

/-- A move of the jobs that keeps the law and makes no job ACTIVE. -/
structure JobsKeep (s t : State) : Prop where
  law : JobsLaw s → JobsLaw t
  free : PathFree s → PathFree t

namespace JobsKeep

variable {s t u : State}

theorem of_milder (h : Milder t.sched.jobs s.sched.jobs) : JobsKeep s t := by
  refine ⟨fun hs => ?_, fun hs j hj hact => ?_⟩
  · obtain ⟨hnodup, hrange, hkind, hport, hservice, hpatrol, hactive⟩ := hs
    refine ⟨hnodup.sublist h.numbers, fun j hj => ?_, fun j hj => ?_, fun p => (h.countP ?_).trans (hport p),
      (h.countP ?_).trans hservice, fun p => (h.countP ?_).trans (hpatrol p), (h.countP ?_).trans hactive⟩
    · obtain ⟨i, hi, hji⟩ := h.mem hj
      exact hji.number ▸ hrange i hi
    · obtain ⟨i, hi, hji⟩ := h.mem hj
      exact hji.kindLaw (hkind i hi)
    · exact fun j i hji hj => by rwa [Job.inPortSlot, ← hji.requester, ← hji.kind]
    · exact fun j i hji hj => by rwa [Job.inServiceSlot, ← hji.kind]
    · exact fun j i hji hj => by rwa [← hji.kind, ← hji.pair]
    · exact fun j i hji hj => decide_eq_true (hji.active (of_decide_eq_true hj))
  · obtain ⟨i, hi, hji⟩ := h.mem hj
    exact hs i hi (hji.active hact)

theorem of_jobs (h : t.sched.jobs = s.sched.jobs) : JobsKeep s t := of_milder (h ▸ .refl _)

theorem refl (s : State) : JobsKeep s s := of_jobs rfl

theorem trans (h : JobsKeep s t) (k : JobsKeep t u) : JobsKeep s u :=
  ⟨k.law ∘ h.law, k.free ∘ h.free⟩

theorem setJob (s : State) (n : Nat) {f : Job → Job} (hf : ∀ j, (f j).Alike j) : JobsKeep s (s.setJob n f) :=
  of_milder (Milder.map (fun j => by split <;> [exact hf j; exact .refl j]) _)

theorem setCmd (s : State) (n : Nat) (f : CommandFields → CommandFields) : JobsKeep s (s.setCmd n f) :=
  setJob s n fun j => ⟨rfl, rfl, rfl, rfl, by simp, id⟩

theorem freeJob (s : State) (n : Nat) : JobsKeep s (s.freeJob n) := of_milder (.filter _ _)

end JobsKeep

theorem JobsLaw.setJob {s : State} {n : Nat} {f : Job → Job} (h : JobsLaw s) (hf : ∀ j, (f j).Alike j) :
    JobsLaw (s.setJob n f) := (JobsKeep.setJob s n hf).law h

theorem JobsLaw.giveOrder {s : State} (o : Order) (h : JobsLaw s) : JobsLaw (giveOrder o s) :=
  (JobsKeep.of_jobs (by simp)).law h

/-! ### A new job -/

/-- The slots bound the list of jobs: four for each port, eight for service, one PATROL job for each pair (R115). -/
theorem JobsLaw.length_le {s : State} (h : JobsLaw s) : s.sched.jobs.length ≤ 40 := by
  obtain ⟨-, -, hkind, hport, hservice, hpatrol, -⟩ := h
  have hcover : ∀ l : List Job, (∀ j ∈ l, j.kindLaw) → l.length ≤
      (∑ p : Port, l.countP (Job.inPortSlot p)) + l.countP Job.inServiceSlot +
        ∑ p : PairNo, l.countP (fun j => j.kind = .patrol && j.pair = some p) := by
    intro l
    induction l with
    | nil => simp
    | cons j l ih =>
      intro hl
      have hrest := ih fun i hi => hl i (List.mem_cons_of_mem _ hi)
      have hj : 1 ≤ (∑ p : Port, if Job.inPortSlot p j = true then 1 else 0) +
          (if j.inServiceSlot = true then 1 else 0) +
          ∑ p : PairNo, if (j.kind = .patrol && j.pair = some p) = true then 1 else 0 := by
        obtain ⟨-, hlaw⟩ := hl j List.mem_cons_self
        cases hk : j.kind <;> simp only [hk] at hlaw
        case patrol =>
          obtain ⟨q, hq⟩ := Option.isSome_iff_exists.mp hlaw.2
          have := Finset.single_le_sum (f := fun p : PairNo =>
            if ((JobKind.patrol = .patrol) && j.pair = some p) = true then 1 else 0) (fun _ _ => Nat.zero_le _)
            (Finset.mem_univ q)
          simp only [hq] at this ⊢
          simp at this ⊢
        case confirm | dark => simp [Job.inServiceSlot, hk]
        all_goals
          cases hr : j.requester with
          | internal => exact absurd hr hlaw
          | port q => simp [Job.inPortSlot, hk, hr]
      simp only [List.countP_cons, Finset.sum_add_distrib, List.length_cons]
      omega
  have hsum := hcover _ hkind
  have hports : ∑ p : Port, s.portSlotsUsed p ≤ ∑ _p : Port, 4 := Finset.sum_le_sum fun p _ => hport p
  have hpatrols : (∑ p : PairNo, s.sched.jobs.countP (fun j => j.kind = .patrol && j.pair = some p)) ≤
      ∑ _p : PairNo, 1 := Finset.sum_le_sum fun p _ => hpatrol p
  simp only [Finset.sum_const, Finset.card_univ, Fintype.card_fin, smul_eq_mul] at hports hpatrols
  unfold State.portSlotsUsed at hports
  unfold State.serviceSlotsUsed at hservice
  omega

/-- While fewer than 255 jobs stand, the next number is in 1 to 255 and no job holds it (R116). -/
theorem nextNumber_fresh (last : Nat) {l : List Job} (h : l.length < 255) :
    (1 ≤ nextNumber last l ∧ nextNumber last l ≤ 255) ∧ ∀ j ∈ l, j.number ≠ nextNumber last l := by
  unfold nextNumber
  cases hfind : ((List.range 255).map (fun i => (last + i) % 255 + 1)).find?
      (fun n => l.all (fun j => j.number ≠ n)) with
  | some n =>
    have hmem := List.mem_of_find?_eq_some hfind
    have hfree := List.find?_some hfind
    simp only [List.mem_map, List.mem_range, List.all_eq_true, decide_eq_true_eq] at hmem hfree
    obtain ⟨i, -, rfl⟩ := hmem
    simp only [Option.getD_some]
    exact ⟨by omega, hfree⟩
  | none =>
    exfalso
    have hall : Finset.Icc 1 255 ⊆ (l.map Job.number).toFinset := by
      intro n hn
      rw [Finset.mem_Icc] at hn
      have htaken := List.find?_eq_none.mp hfind n (List.mem_map.mpr
        ⟨(n + 254 - last % 255) % 255, List.mem_range.mpr (by omega), by omega⟩)
      simp only [List.all_eq_true, decide_eq_true_eq, not_forall, not_not] at htaken
      obtain ⟨j, hj, hjn⟩ := htaken
      exact List.mem_toFinset.mpr (List.mem_map.mpr ⟨j, hj, hjn⟩)
    have hcard := (Finset.card_le_card hall).trans (List.toFinset_card_le _)
    simp only [Nat.card_Icc, List.length_map] at hcard
    omega

/-- What a new job needs: it is not ACTIVE, its fields fit its kind, and its slot is free (R115). -/
structure MayJoin (j : Job) (s : State) : Prop where
  state : j.state ≠ .active
  kind : j.kindLaw
  port : ∀ p, j.inPortSlot p = true → s.portSlotsUsed p < 4
  service : j.inServiceSlot = true → s.serviceSlotsUsed < 8
  patrol : ∀ p, j.kind = .patrol → j.pair = some p →
    ∀ i ∈ s.sched.jobs, ¬ (i.kind = .patrol ∧ i.pair = some p)

theorem State.addJob_jobs (s : State) (j : Job) : (s.addJob j).sched.jobs =
    s.sched.jobs ++ [{ j with number := nextNumber s.sched.lastNumber s.sched.jobs }] := rfl

/-- A new job in a free slot keeps the law. -/
theorem JobsKeep.addJob {j : Job} {s : State} (h : MayJoin j s) : JobsKeep s (s.addJob j) := by
  refine ⟨fun hs => ?_, fun hs i hi => ?_⟩
  · have hlength := hs.length_le
    obtain ⟨hrange', hfresh⟩ := nextNumber_fresh s.sched.lastNumber (l := s.sched.jobs) (by omega)
    obtain ⟨hnodup, hrange, hkind, hport, hservice, hpatrol, hactive⟩ := hs
    have hcount : ∀ (P : Job → Bool) (b : Nat), s.sched.jobs.countP P ≤ b →
        (P { j with number := nextNumber s.sched.lastNumber s.sched.jobs } = true → s.sched.jobs.countP P < b) →
        (s.addJob j).sched.jobs.countP P ≤ b := by
      intro P b hle hlt
      rw [State.addJob_jobs, List.countP_append, List.countP_singleton]
      split
      · have := hlt ‹_›
        omega
      · omega
    refine ⟨?_, ?_, ?_, fun p => hcount _ _ (hport p) (h.port p), hcount _ _ hservice h.service,
      fun p => hcount _ _ (hpatrol p) fun hj => ?_, hcount _ _ hactive fun hj => absurd (of_decide_eq_true hj) h.state⟩
    · rw [State.addJob_jobs, List.map_append, List.nodup_append]
      refine ⟨hnodup, List.nodup_singleton _, fun a ha b hb => ?_⟩
      obtain ⟨i, hi, rfl⟩ := List.mem_map.mp ha
      obtain rfl := List.mem_singleton.mp hb
      exact hfresh i hi
    · rw [State.addJob_jobs, List.forall_mem_append]
      exact ⟨hrange, by simpa using hrange'⟩
    · rw [State.addJob_jobs, List.forall_mem_append]
      exact ⟨hkind, List.forall_mem_singleton.mpr h.kind⟩
    · simp only [Bool.and_eq_true, decide_eq_true_eq] at hj
      have hnone : s.sched.jobs.countP (fun j => j.kind = .patrol && j.pair = some p) = 0 := by
        rw [List.countP_eq_zero]
        simpa using h.patrol p hj.1 hj.2
      omega
  · rw [State.addJob_jobs, List.mem_append, List.mem_singleton] at hi
    rcases hi with hi | rfl
    · exact hs i hi
    · exact h.state

/-! ### Grants -/

theorem chooseJob_mem {s : State} {j : Job} (h : chooseJob s = some j) :
    j ∈ s.sched.jobs ∧ eligible s.seq.faultHold j = true := by
  unfold chooseJob at h
  dsimp only at h
  obtain ⟨r, -, hr⟩ := List.exists_of_findSome?_eq_some h
  have hpool := List.mem_of_find?_eq_some hr
  refine List.mem_filter.mp (?_ : j ∈ s.eligibleJobs)
  split at hpool
  · exact (List.mem_filter.mp hpool).1
  · exact hpool

/-- The loop of grants: a calibration HELD at once keeps what stands before each grant, and the loop ends with no
job to choose or with the work of the last grant. -/
theorem grantLoop_induction {P Q : State → Prop} (hstop : ∀ s, P s → Q s)
    (hheld : ∀ s j, P s → chooseJob s = some j → j.kind = .dark → P (endHeld j.number (activate j s)))
    (hwork : ∀ s j, P s → chooseJob s = some j → Q (startWork j (activate j s))) :
    ∀ fuel s, P s → Q (grantLoop fuel s) := by
  intro fuel
  induction fuel with
  | zero => exact hstop
  | succ fuel ih =>
    intro s hs
    unfold grantLoop
    split
    · exact hstop s hs
    · next j hj =>
      dsimp only
      split
      · next hdark => exact ih _ (hheld s j hs hj hdark.1)
      · exact hwork s j hs hj

@[simp] theorem takeOver_jobs (j : Job) (s : State) : (takeOver j s).sched.jobs = s.sched.jobs := by
  unfold takeOver
  split <;> rfl

/-- The job record as a grant leaves it (R122). -/
def Job.granted (j : Job) : Job := { j with state := .active, passes := 0, everActive := true }

theorem activate_jobs (j : Job) (s : State) : (activate j s).sched.jobs =
    s.sched.jobs.map (fun i => if i.number = j.number then i.granted else i) := by
  have hsched : ∀ c : JobClass, (match c with
      | .urgent => { (s.setJob j.number Job.granted).sched with lastUrgent := j.requester }
      | .routine => { (s.setJob j.number Job.granted).sched with lastRoutine := j.requester } :
        Scheduler).jobs = (s.setJob j.number Job.granted).sched.jobs := by
    intro c
    cases c <;> rfl
  unfold activate
  dsimp only
  split
  · rw [takeOver_jobs]
    exact hsched j.cls
  · exact hsched j.cls

/-- Only the job granted is ACTIVE. -/
theorem number_of_active_activate {j i : Job} {s : State} (h : PathFree s)
    (hi : i ∈ (activate j s).sched.jobs) (hact : i.state = .active) : i.number = j.number := by
  rw [activate_jobs] at hi
  obtain ⟨k, hk, rfl⟩ := List.mem_map.mp hi
  split at hact
  · next hn => simp [hn, Job.granted]
  · exact absurd hact (h k hk)

theorem JobsLaw.activate {j : Job} {s : State} (h : JobsLaw s) (hfree : PathFree s) :
    JobsLaw (activate j s) := by
  have halike : ∀ i : Job, i.kindLaw → (if i.number = j.number then i.granted else i).kindLaw := by
    intro i hi
    split <;> exact hi
  have hcount : ∀ P : Job → Bool, (∀ i : Job, P i.granted = P i) →
      (Machine.activate j s).sched.jobs.countP P = s.sched.jobs.countP P := by
    intro P hP
    rw [activate_jobs, List.countP_map]
    refine List.countP_congr fun i _ => ?_
    simp only [Function.comp_apply]
    split <;> simp [hP]
  obtain ⟨hnodup, hrange, hkind, hport, hservice, hpatrol, -⟩ := h
  have hnumber : (fun i : Job => (if i.number = j.number then i.granted else i).number) = Job.number := by
    funext i
    split <;> rfl
  have hnumbers : (Machine.activate j s).sched.jobs.map Job.number = s.sched.jobs.map Job.number := by
    rw [activate_jobs, List.map_map]
    exact congrArg (List.map · _) hnumber
  refine ⟨hnumbers ▸ hnodup, fun i hi => ?_, fun i hi => ?_, fun p => (hcount _ fun _ => rfl).trans_le (hport p),
    (hcount _ fun _ => rfl).trans_le hservice, fun p => (hcount _ fun _ => rfl).trans_le (hpatrol p), ?_⟩
  · have hmem : i.number ∈ s.sched.jobs.map Job.number := hnumbers ▸ List.mem_map_of_mem hi
    obtain ⟨k, hk, hki⟩ := List.mem_map.mp hmem
    exact hki ▸ hrange k hk
  · rw [activate_jobs] at hi
    obtain ⟨k, hk, rfl⟩ := List.mem_map.mp hi
    exact halike k (hkind k hk)
  · rw [activate_jobs, List.countP_map]
    refine (List.countP_mono_left (q := (· == j.number) ∘ Job.number) fun i hi hact => ?_).trans ?_
    · simp only [Function.comp_apply, decide_eq_true_eq] at hact
      split at hact
      · simpa using ‹i.number = j.number›
      · exact absurd hact (hfree i hi)
    · rw [← List.countP_map]
      exact List.nodup_iff_count_le_one.mp hnodup j.number

/-! ### Ends, suspensions and the arbiter -/

/-- The job record as an end leaves it (R120). -/
def Job.endedWith (o : JobOutcome) (j : Job) : Job := { j with state := .ended, outcome := some o }

theorem endJob_of_none {n : Nat} {s : State} (o : JobOutcome) (h : s.job? n = none) : endJob n o s = s := by
  unfold endJob
  rw [h]

theorem endJob_of_internal {n : Nat} {s : State} {j : Job} (o : JobOutcome) (h : s.job? n = some j)
    (hr : j.requester = .internal) : endJob n o s = s.freeJob n := by
  unfold endJob
  rw [h]
  simp only [hr]

theorem endJob_of_port {n : Nat} {s : State} {j : Job} {p : Port} (o : JobOutcome) (h : s.job? n = some j)
    (hr : j.requester = .port p) : endJob n o s =
      raiseNotice .jobEnded p ((s.setJob n (Job.endedWith o)).setResults p (closeList n o)) := by
  unfold endJob
  rw [h]
  simp only [hr]
  rfl

/-- The jobs after an end: the job has left or is ENDED. -/
theorem endJob_jobs (n : Nat) (o : JobOutcome) (s : State) :
    (endJob n o s).sched.jobs = s.sched.jobs.filter (fun j => j.number ≠ n) ∨
    (endJob n o s).sched.jobs = s.sched.jobs.map (fun j => if j.number = n then j.endedWith o else j) := by
  cases hjob : s.job? n with
  | none =>
    rw [endJob_of_none o hjob]
    refine .inl (List.filter_eq_self.mpr fun j hj => ?_).symm
    simpa using List.find?_eq_none.mp hjob j hj
  | some j =>
    cases hr : j.requester with
    | internal => exact .inl (by rw [endJob_of_internal o hjob hr, State.freeJob_jobs])
    | port p => exact .inr (by rw [endJob_of_port o hjob hr, raiseNotice_sched, State.setResults_jobs,
        State.setJob_jobs])

/-- A job that is not ENDED after an end is one before it, of another number. -/
theorem mem_endJob {n : Nat} {o : JobOutcome} {s : State} {j : Job} (h : j ∈ (endJob n o s).sched.jobs) :
    j ∈ s.sched.jobs ∧ j.number ≠ n ∨ j.state = .ended ∧ ∃ i ∈ s.sched.jobs, i.number = n ∧ j = i.endedWith o := by
  rcases endJob_jobs n o s with hjobs | hjobs <;> rw [hjobs] at h
  · exact .inl (by simpa using h)
  · obtain ⟨i, hi, rfl⟩ := List.mem_map.mp h
    split
    · next hn => exact .inr ⟨rfl, i, hi, hn, rfl⟩
    · next hn => exact .inl ⟨hi, hn⟩

namespace JobsKeep

variable (s : State)

theorem endJob (n : Nat) (o : JobOutcome) : JobsKeep s (endJob n o s) := by
  refine of_milder ?_
  rcases endJob_jobs n o s with h | h <;> rw [h]
  · exact .filter _ _
  · refine .map (fun j => ?_) _
    split
    · exact ⟨rfl, rfl, rfl, rfl, rfl, nofun⟩
    · exact .refl j

theorem suspendJob (n : Nat) : JobsKeep s (suspendJob n s) :=
  setJob s n fun _ => ⟨rfl, rfl, rfl, rfl, rfl, nofun⟩

end JobsKeep

theorem pathFree_endHeld_activate {j : Job} {s : State} (h : PathFree s) :
    PathFree (endHeld j.number (activate j s)) := by
  intro i hi hact
  unfold endHeld at hi
  rcases mem_endJob hi with ⟨hmem, hn⟩ | ⟨hended, -⟩
  · obtain ⟨k, hk, rfl⟩ := List.mem_map.mp hmem
    split at hn
    · exact hn ‹_›
    · exact hn (number_of_active_activate h hk (by rwa [if_neg ‹_›] at hact))
  · exact absurd hact (by rw [hended]; nofun)

theorem jobsKeep_endHeld (n : Nat) (s : State) : JobsKeep s (endHeld n s) := by
  unfold endHeld
  refine .trans ?_ (.endJob ..)
  exact .setJob s n fun _ => ⟨rfl, rfl, rfl, rfl, rfl, id⟩

/-- The command fields as the start of a word leaves them (R142, R151). -/
def CommandFields.started (w : CmdWord) (toggle : Bool) (tries : Nat) (c : CommandFields) : CommandFields :=
  { c with next := .word w, wordStarted := true, reply := noteSending w toggle tries c.reply }

theorem startWord_eq {j : Job} {p : PairNo} {c : CommandFields} (w : CmdWord) (toggle : Bool) (tries : Nat)
    (s : State) (hpair : j.pair = some p) (hcmd : j.cmd = some c) : startWord j w toggle tries s =
      giveOrder (.sendWord p (s.pair p).profile (wordBits p c w toggle))
        ((s.setCmd j.number (.started w toggle tries)).setExchange
          { Exchange.none with
            phase := .sending, job := j.number, word := w, toggle := toggle, tries := tries }) := by
  unfold startWord
  rw [hpair, hcmd]
  rfl

theorem jobsKeep_startWord (j : Job) (w : CmdWord) (toggle : Bool) (tries : Nat) (s : State) :
    JobsKeep s (startWord j w toggle tries s) := by
  cases hpair : j.pair with
  | none => exact .of_jobs (by simp [startWord, hpair])
  | some p =>
    cases hcmd : j.cmd with
    | none => exact .of_jobs (by simp [startWord, hcmd])
    | some c =>
      rw [startWord_eq w toggle tries s hpair hcmd]
      exact (JobsKeep.setCmd s j.number (.started w toggle tries)).trans (.of_jobs (by simp))

theorem jobsKeep_sendFirst (j : Job) (s : State) : JobsKeep s (sendFirst j s) := by
  unfold sendFirst
  split <;> exact jobsKeep_startWord ..

theorem jobsKeep_runPass (j : Job) (s : State) : JobsKeep s (runPass j s) := .of_jobs (by simp)

theorem jobsKeep_startCommand (j : Job) (s : State) : JobsKeep s (startCommand j s) := by
  unfold startCommand
  split
  · split
    · exact jobsKeep_runPass j s
    · split
      · exact jobsKeep_sendFirst j s
      · exact .of_jobs (by simp)
  · exact .refl s

theorem jobsKeep_startWork (j : Job) (s : State) : JobsKeep s (startWork j s) := by
  unfold startWork
  split
  · exact jobsKeep_runPass j s
  · exact jobsKeep_runPass j s
  · exact jobsKeep_runPass j s
  · exact jobsKeep_runPass j s
  · exact jobsKeep_runPass j s
  · exact jobsKeep_startCommand j s
  · exact .of_jobs (by simp)

theorem JobsLaw.arbitrate {s : State} (h : JobsLaw s) : JobsLaw (arbitrate s) := by
  unfold Machine.arbitrate
  split
  · exact h
  · next hfree =>
    refine grantLoop_induction (P := fun s => JobsLaw s ∧ PathFree s) (Q := JobsLaw) (fun _ hs => hs.1) ?_ ?_ _ _
      ⟨h, pathFree_iff.mpr hfree⟩
    · exact fun s j hs _ _ => ⟨(jobsKeep_endHeld ..).law (hs.1.activate hs.2), pathFree_endHeld_activate hs.2⟩
    · exact fun s j hs _ => (jobsKeep_startWork ..).law (hs.1.activate hs.2)

/-! ### The moves of the machine -/

@[simp] theorem bumpStat_jobs (k : SmallStat) (p : PairNo) (s : State) :
    (bumpStat k p s).sched.jobs = s.sched.jobs := by
  unfold bumpStat
  dsimp only
  split
  · rw [raiseNotice_sched]
    rfl
  · rfl

@[simp] theorem countPass_jobs (rec : PassRecord) (s : State) : (countPass rec s).sched.jobs = s.sched.jobs := by
  unfold countPass
  dsimp only
  split
  · rfl
  · split
    · rw [bumpStat_jobs]
      rfl
    · rfl

@[simp] theorem takeFault_jobs (s : State) : (takeFault s).sched.jobs = s.sched.jobs := by
  unfold takeFault
  dsimp only
  split <;> simp

theorem jobsKeep_cutJob (j : Job) (s : State) : JobsKeep s (cutJob j s) := by
  have hcut : JobsKeep s ((dropPass s).setJob j.number (fun i =>
      { i with state := .suspended, preempts := saturating 255 i.preempts })) :=
    .trans (t := dropPass s) (.of_jobs rfl) (.setJob (dropPass s) j.number fun _ => ⟨rfl, rfl, rfl, rfl, rfl, nofun⟩)
  unfold cutJob
  dsimp only
  split
  · exact hcut.trans (.of_jobs (bumpStat_jobs ..))
  · exact hcut

theorem JobsLaw.becameEligible {s : State} (u : Bool) (h : JobsLaw s) : JobsLaw (becameEligible u s) := by
  unfold Machine.becameEligible
  split
  · exact h.arbitrate
  · split
    · exact ((jobsKeep_cutJob _ s).law h).arbitrate
    · exact h

theorem JobsLaw.acceptJob {s : State} {j : Job} (hj : MayJoin j s) (h : JobsLaw s) : JobsLaw (acceptJob j s) := by
  have hadd := (JobsKeep.addJob hj).law h
  unfold Machine.acceptJob
  dsimp only
  split
  · exact hadd.becameEligible _
  · exact hadd

theorem jobsKeep_faultOnPair (s : State) : JobsKeep s (faultOnPair s) := by
  have hbefore : JobsKeep s (dropPass { takeFault s with seq := { (takeFault s).seq with
      state := .switchFault, current := none, goal := none, running := false } }) := .of_jobs (takeFault_jobs s)
  unfold faultOnPair
  dsimp only
  split
  · unfold faultJob
    split
    · exact hbefore.trans (.endJob ..)
    · exact hbefore.trans (.suspendJob ..)
  · exact hbefore

theorem jobsKeep_deliver (n : Nat) (f : ResultList → ResultList) (s : State) : JobsKeep s (deliver n f s) := by
  unfold deliver
  split
  · split
    · exact .of_jobs rfl
    · exact .setJob s n fun _ => ⟨rfl, rfl, rfl, rfl, rfl, id⟩
  · exact .refl s
  · exact .refl s

/-- A job of the part itself may take a free service slot (R115). -/
theorem mayJoin_confirm {s : State} (hroom : s.serviceSlotsUsed < Config.serviceSlots) (p : Option PairNo)
    (range : Option (Nat × Nat)) (q w : Nat) : MayJoin (Job.fresh .internal .confirm .urgent p range q w) s :=
  ⟨nofun, ⟨iff_of_false nofun nofun, rfl⟩, fun p h => by simp [Job.inPortSlot, Job.fresh] at h, fun _ => hroom,
    nofun⟩

theorem mayJoin_dark {s : State} (hroom : s.serviceSlotsUsed < Config.serviceSlots) (r : Requester) :
    MayJoin (Job.fresh r .dark .urgent none none 0 1) s :=
  ⟨nofun, ⟨iff_of_false nofun nofun, trivial⟩, fun p h => by simp [Job.inPortSlot, Job.fresh] at h,
    fun _ => hroom, nofun⟩

theorem mayJoin_patrol {s : State} {p : PairNo} (hfree : patrolSlotTaken p s = false) :
    MayJoin (patrolJob p s) (runPatrolOn p s) := by
  refine ⟨nofun, ⟨iff_of_false nofun nofun, rfl, rfl⟩, fun p h => by simp [Job.inPortSlot, Job.fresh, patrolJob] at h,
    nofun, fun q _ hq => ?_⟩
  obtain rfl : p = q := Option.some.inj hq
  have hnone : ∀ j ∈ s.sched.jobs, ¬ (j.kind = .patrol ∧ j.pair = some p) := by simpa [patrolSlotTaken] using hfree
  exact hnone

theorem mayJoin_of_quota {s : State} {port : Port} {j : Job} (hroom : quotaSpent port s = false)
    (hstate : j.state ≠ .active) (hreq : j.requester = .port port) (hlaw : j.kindLaw)
    (hkind : j.kind ≠ .dark ∧ j.kind ≠ .confirm ∧ j.kind ≠ .patrol) : MayJoin j s := by
  refine ⟨hstate, hlaw, fun p h => ?_, fun h => ?_, fun p h => absurd h hkind.2.2⟩
  · have hp : port = p := by simpa [Job.inPortSlot, hreq, hkind.1] using h
    subst hp
    exact Nat.lt_of_not_le (of_decide_eq_false hroom)
  · simp [Job.inServiceSlot, hkind.1, hkind.2.1] at h

theorem Job.PlainSubmission.mayJoin {s : State} {port : Port} {j : Job} (hj : j.PlainSubmission port)
    (hroom : quotaSpent port s = false) : MayJoin j s := by
  have hlaw : j.kindLaw := by
    refine ⟨?_, ?_⟩
    · rcases hj.kind with hk | hk | hk <;> simp [hj.cmd, hk]
    · rcases hj.kind with hk | hk | hk <;> simp [hj.requester, hk]
  refine mayJoin_of_quota hroom (by simp [hj.state]) hj.requester hlaw ?_
  rcases hj.kind with hk | hk | hk <;> simp [hk]

theorem mayJoin_commandJob {s : State} {port : Port} (hroom : quotaSpent port s = false) (k n : Nat)
    (u : CommandUse) (asked : Option Port) : MayJoin (commandJob port k n u asked) s := by
  refine mayJoin_of_quota hroom ?_ rfl ⟨iff_of_true rfl rfl, nofun⟩ ⟨nofun, nofun, nofun⟩
  unfold commandJob
  cases asked <;> nofun

theorem jobsKeep_takeConfirm (r : ConfirmRequest) (s : State) : JobsKeep s (takeConfirm r s) := by
  unfold takeConfirm
  split
  · refine .of_milder (.map (fun j => ?_) _)
    split
    · exact ⟨rfl, rfl, rfl, rfl, rfl, id⟩
    · exact .refl j
  · split
    · exact .addJob (mayJoin_confirm ‹_› ..)
    · exact .refl s

theorem jobsKeep_refreshCount (d : Nat) (s : State) : JobsKeep s (refreshCount d s) := by
  have hset : ∀ c, JobsKeep s (setRefresh c s) := fun c => .of_jobs rfl
  unfold refreshCount
  dsimp only
  generalize (if s.intake.refresh < d then s.intake.refresh + 1 else s.intake.refresh) = c
  repeat' split
  · exact hset 0
  · exact hset _
  · exact hset 0
  · next hroom => exact (hset 0).trans (.addJob (mayJoin_dark (s := setRefresh 0 s) hroom .internal))
  · exact hset _

theorem jobsKeep_stepFive (rec : PassRecord) (s : State) : JobsKeep s (stepFive rec s) := by
  have hcount : JobsKeep s (countPass rec (advanceJob rec s)) :=
    .trans (t := advanceJob rec s) (.setJob s rec.job fun _ => ⟨rfl, rfl, rfl, rfl, rfl, id⟩) (.of_jobs (by simp))
  have hnotice : JobsKeep s (if isOverdrive rec then noticeOverdrive rec (countPass rec (advanceJob rec s))
      else countPass rec (advanceJob rec s)) := by
    split
    · exact hcount.trans (.of_jobs (by simp))
    · exact hcount
  unfold stepFive
  dsimp only
  split
  · exact hnotice
  · exact hnotice.trans (jobsKeep_refreshCount ..)

theorem jobsKeep_locate (rec : PassRecord) (p : PairNo) (stamp : Nat) (records : List EchoRecord)
    (drifts : List (Nat × Int)) (s : State) : JobsKeep s (locate rec p stamp records drifts s).1 := by
  unfold locate
  exact List.foldlRecOn (motive := JobsKeep s) _ _ (.of_jobs (by simp)) fun t ht k _ =>
    ht.trans (jobsKeep_takeConfirm ..)

theorem jobsKeep_stepsTwoThree (rec : PassRecord) (records : List EchoRecord) (s : State) :
    JobsKeep s (stepsTwoThree rec records s).1 := by
  unfold stepsTwoThree
  dsimp only
  split
  · exact .refl s
  · have hpass : ∀ m par p l, JobsKeep s (sigPass m par p l s).1 := fun _ _ _ _ => .of_jobs (by simp)
    split
    · exact (hpass ..).trans (jobsKeep_locate ..)
    · exact hpass ..
    · exact hpass ..

theorem jobsKeep_evaluatePass (rec : PassRecord) (s : State) : JobsKeep s (evaluatePass rec s) := by
  unfold evaluatePass
  dsimp only
  refine JobsKeep.trans ?_ ((jobsKeep_stepFive ..).trans (.of_jobs rfl))
  split
  · exact jobsKeep_deliver ..
  · exact (jobsKeep_stepsTwoThree ..).trans (jobsKeep_deliver ..)

theorem JobsLaw.endAtPassEnd {s : State} (j : Job) (o : JobOutcome) (h : JobsLaw s) :
    JobsLaw (endAtPassEnd j o s) := by
  unfold Machine.endAtPassEnd
  refine JobsLaw.arbitrate ((JobsKeep.endJob _ _ _).law ?_)
  split
  · exact (JobsKeep.of_jobs (by simp)).law h
  · exact h

theorem JobsLaw.afterPass {s : State} (rec : PassRecord) (h : JobsLaw s) : JobsLaw (afterPass rec s) := by
  unfold Machine.afterPass
  dsimp only
  repeat' split
  · exact h
  · exact h.endAtPassEnd ..
  · exact h.endAtPassEnd ..
  · exact ((JobsKeep.suspendJob ..).law h).arbitrate
  · exact ((JobsKeep.suspendJob ..).law h).arbitrate
  · refine (jobsKeep_runPass ..).law ((JobsKeep.setJob s _ fun _ => ?_).law h)
    exact ⟨rfl, rfl, rfl, rfl, rfl, id⟩
  · exact (jobsKeep_runPass ..).law h

theorem JobsLaw.evaluateAndGoOn {s : State} (rec : PassRecord) (h : JobsLaw s) :
    JobsLaw (evaluateAndGoOn rec s) := ((jobsKeep_evaluatePass rec s).law h).afterPass rec

theorem jobsKeep_decideWord (retryMax : Nat) (s : State) : JobsKeep s (decideWord retryMax s) := by
  rcases decideWord_cases retryMax s with h | ⟨j, p, c, -, -, -, h⟩ <;> rw [h]
  · exact .of_jobs rfl
  · refine .trans (t := notedWord retryMax j s) (.trans (t := decidedWord retryMax s) (.of_jobs rfl) (.setCmd ..)) ?_
    unfold actOnWord
    split
    · exact .refl _
    · exact .of_jobs (by simp [wordExhausted])
    · exact .of_jobs (by simp)
    · unfold wordSucceeded
      dsimp only
      have htoggle : JobsKeep (notedWord retryMax j s)
          (writeJobToggle j (some s.channel.exchange.toggle) (notedWord retryMax j s)) := .of_jobs (by simp)
      split
      · exact (htoggle.trans (.setCmd _ j.number (advanceCommand s.channel.exchange.word))).trans
          (.of_jobs (by simp))
      · exact htoggle.trans (.setCmd ..)

theorem JobsLaw.afterExchange {s : State} (j : Job) (c : CommandFields) (x : Exchange) (h : JobsLaw s) :
    JobsLaw (afterExchange j c x s) := by
  have hend : ∀ o, JobsLaw (Machine.arbitrate (endJob j.number o s)) := fun o => ((JobsKeep.endJob ..).law h).arbitrate
  have hunresolved : ∀ o out, JobsLaw (endUnresolved j o out s) := by
    intro o out
    unfold endUnresolved
    refine JobsLaw.arbitrate ((JobsKeep.endJob _ _ _).law ?_)
    split
    · exact (JobsKeep.of_jobs (by simp)).law h
    · exact h
  unfold Machine.afterExchange
  repeat' split
  · exact hunresolved ..
  · exact hunresolved ..
  · exact (jobsKeep_startWord ..).law h
  · exact hend _
  · exact hend _
  · exact (jobsKeep_startWord ..).law h
  · exact (jobsKeep_runPass ..).law h
  · exact hend _
  · exact h

theorem jobsKeep_consent (port : Port) (n : Nat) (s : State) : JobsKeep s (consent port n s) :=
  .trans (t := s.removeConcur n) (.of_jobs rfl)
    (.setJob (s.removeConcur n) n fun j => ⟨rfl, rfl, rfl, rfl, by simp, nofun⟩)

theorem JobsLaw.consentState {s : State} (port : Port) (n : Nat) (h : JobsLaw s) :
    JobsLaw (consentState port n s) := by
  have hgiven := (jobsKeep_consent port n s).law h
  unfold Machine.consentState
  dsimp only
  split
  · exact hgiven.becameEligible _
  · exact hgiven

theorem JobsLaw.cancelState {s : State} (j : Job) (h : JobsLaw s) : JobsLaw (cancelState j s) := by
  have hhold : JobsLaw (holdCancel j s) := by
    unfold holdCancel
    exact h.setJob fun _ => ⟨rfl, rfl, rfl, rfl, rfl, id⟩
  have hpass : JobsLaw (cancelPass j s) := by
    unfold cancelPass
    split
    · exact hhold
    · exact JobsLaw.endAtPassEnd j _ ((JobsKeep.of_jobs rfl).law h)
  unfold Machine.cancelState
  split
  · exact (JobsKeep.endJob ..).law h
  · exact (JobsKeep.endJob ..).law h
  · exact (JobsKeep.trans (t := s.removeConcur j.number) (.of_jobs rfl) (.endJob ..)).law h
  · split
    · unfold cancelCommand
      split
      · exact hpass
      · exact hhold
    · exact hpass
  · exact h

theorem jobsKeep_lapseJob (j : Job) (s : State) : JobsKeep s (lapseJob j s) := by
  unfold lapseJob
  dsimp only
  refine .trans (.setCmd s j.number (fun c => { c with basis := .lapsed })) ?_
  split
  · exact .refl _
  · exact .endJob ..

theorem JobsLaw.assignState {s : State} (p : PairNo) (o : Option Port) (h : JobsLaw s) :
    JobsLaw (assignState p o s) := by
  unfold Machine.assignState
  refine JobsLaw.arbitrate (List.foldlRecOn (motive := JobsLaw) _ _ ?_ fun t ht j _ => (jobsKeep_lapseJob j t).law ht)
  exact (JobsKeep.of_jobs rfl).law h

theorem jobsLaw_of_no_jobs {s : State} (h : s.sched.jobs = []) : JobsLaw s := by
  simp [JobsLaw, h, State.portSlotsUsed, State.serviceSlotsUsed]

theorem serviceSlotsUsed_of_no_jobs {s : State} (h : s.sched.jobs = []) : s.serviceSlotsUsed = 0 := by
  simp [h, State.serviceSlotsUsed]

theorem JobsLaw.portResetState {s : State} (p : Port) (h : JobsLaw s) : JobsLaw (portResetState p s) := by
  unfold Machine.portResetState
  split
  · exact h
  · exact JobsLaw.arbitrate ((JobsKeep.of_milder (.filter _ s.sched.jobs)).law h)

theorem jobsLaw_engineResetState (s : State) : JobsLaw (engineResetState s) := by
  have hempty : (raiseAll .engineReset [0, 1, 2, 3] (clearWork s)).sched.jobs = [] := by
    rw [raiseAll_sched]
    rfl
  unfold engineResetState
  dsimp only
  split
  · refine JobsLaw.arbitrate ((JobsKeep.addJob (mayJoin_dark ?_ .internal)).law (jobsLaw_of_no_jobs hempty))
    rw [serviceSlotsUsed_of_no_jobs hempty]
    decide
  · exact jobsLaw_of_no_jobs hempty

section
variable (s : State)

@[simp] theorem startPass_jobs : (startPass s).sched.jobs = s.sched.jobs := by
  unfold startPass
  split <;> rfl

@[simp] theorem endFill_jobs : (endFill s).sched.jobs = s.sched.jobs := by
  unfold endFill
  split <;> rfl

@[simp] theorem chipStrobe_jobs (adc : BitVec 14) : (chipStrobe adc s).sched.jobs = s.sched.jobs := rfl

@[simp] theorem portReleaseState_jobs (p : Port) (b : Bool) :
    (portReleaseState p b s).sched.jobs = s.sched.jobs := by
  unfold portReleaseState
  split <;> rfl

end

/-- Every move keeps the law of the slots and of the one ACTIVE job. -/
theorem Does.keeps_jobsLaw {c : Instr} {s t : State} (hdoes : Does c s t) (h : JobsLaw s) : JobsLaw t := by
  have hsame : ∀ {u : State}, u.sched.jobs = s.sched.jobs → JobsLaw u := fun hu => (JobsKeep.of_jobs hu).law h
  cases hdoes with
  | powerOn straps =>
    refine JobsLaw.arbitrate ((JobsKeep.addJob (mayJoin_dark ?_ .internal)).law (jobsLaw_of_no_jobs rfl))
    exact (serviceSlotsUsed_of_no_jobs rfl).trans_lt (by decide)
  | engineReset => exact jobsLaw_engineResetState s
  | portReset _ p => exact h.portResetState p
  | ports _ hmove => exact hsame (by rw [hmove.sched])
  | submit _ _ hj hslot => exact h.acceptJob (hj.mayJoin hslot)
  | submitDark _ _ port hslot =>
    refine h.acceptJob (mayJoin_dark ?_ _)
    exact Nat.lt_of_not_le (of_decide_eq_false hslot)
  | submitCommand _ _ port k n u hslot =>
    have haccept := h.acceptJob (mayJoin_commandJob hslot k n u (askedOwner s port u.pair u.opcode))
    unfold submitCommandJob
    dsimp only
    split
    · exact (JobsKeep.of_jobs (by simp)).law haccept
    · exact haccept
  | cancel _ _ hjob => exact h.cancelState _
  | free => exact (JobsKeep.freeJob ..).law h
  | consent => exact h.consentState ..
  | decline | deadline => exact (JobsKeep.trans (t := s.removeConcur _) (.of_jobs rfl) (.endJob ..)).law h
  | clearFault =>
    unfold clearFaultState
    exact JobsLaw.becameEligible _ ((JobsKeep.of_jobs rfl).law h)
  | assign => exact h.assignState ..
  | settle =>
    have hinto : ∀ o, JobsLaw (settleInto o s) := fun o => hsame (by simp)
    unfold afterSettle
    repeat' split
    · exact (jobsKeep_sendFirst ..).law (hinto _)
    all_goals exact hinto _
  | settleFault => exact ((jobsKeep_faultOnPair s).law h).arbitrate
  | passFault => exact ((jobsKeep_faultOnPair (tookBoundary s)).law (hsame rfl)).arbitrate
  | passEnd => exact JobsLaw.evaluateAndGoOn _ (hsame rfl)
  | passDark => exact JobsLaw.evaluateAndGoOn _ (hsame (by simp))
  | @calibrated _ a j =>
    unfold decideCalibration
    dsimp only
    refine JobsLaw.arbitrate ((JobsKeep.endJob _ _ _).law (JobsLaw.giveOrder _ ?_))
    refine JobsLaw.setJob ?_ fun _ => ⟨rfl, rfl, rfl, rfl, rfl, id⟩
    split
    · exact hsame (by simp [rejectDark])
    · exact hsame rfl
  | wordEnd => exact hsame (by simp)
  | lastSlot => exact (jobsKeep_decideWord ..).law (hsame rfl)
  | exchangeEnd => exact JobsLaw.afterExchange _ _ _ (hsame rfl)
  | patrol _ _ p hslot => exact JobsLaw.acceptJob (mayJoin_patrol hslot) (hsame rfl)
  | fillEnd => exact hsame ((startPass_jobs _).trans (endFill_jobs _))
  | startPass => exact hsame (startPass_jobs _)
  | emptyLog | routeOpen | routeClose | holdOffset | expiry | darkStrobe | tick => exact hsame rfl
  | _ => exact hsame (by simp)

/-- Settles O56: by the moves. -/
theorem jobsLawIsKept : Obligations.JobsLawIsKept := fun _ _ hstep =>
  step_keeps (P := JobsLaw) (fun _ _ h => h) (fun _ _ h => h) (fun _ _ _ => Does.keeps_jobsLaw) hstep

end Sys2Proof.Machine
end

section
/-! The laws of the work on the path and of consent (R122, R143, R160, R165; O57), held together: how they pass
from a state to one whose jobs come from its jobs, and the operations of the arbiter and the job driver. -/

namespace Sys2Proof.Machine

/-! ### The joint law -/

/-- The laws of O57 together. -/
structure Sound (s : State) : Prop where
  jobs : JobsLaw s
  concur : ConcurLaw s
  pass : PassLaw s
  exchange : ExchangeLaw s
  stand : ∀ j ∈ s.sched.jobs, ∀ c, j.cmd = some c → c.standLaw
  consent : ConsentLaw s
  word : SharedWordLaw s

theorem sound_iff {s : State} : Sound s ↔ WorkLaw s ∧ ConsentLaw s ∧ SharedWordLaw s := by
  constructor
  · exact fun ⟨hj, hc, hp, hx, hst, hcons, hw⟩ => ⟨⟨hj, hc, hp, hx, hst⟩, hcons, hw⟩
  · exact fun ⟨⟨hj, hc, hp, hx, hst⟩, hcons, hw⟩ => ⟨hj, hc, hp, hx, hst, hcons, hw⟩

/-- Two jobs with one number are one job (R116). -/
theorem JobsLaw.eq_of_number {s : State} (h : JobsLaw s) {i j : Job} (hi : i ∈ s.sched.jobs)
    (hj : j ∈ s.sched.jobs) (hij : i.number = j.number) : i = j :=
  List.inj_on_of_nodup_map h.1 hi hj hij

theorem eq_of_length_le_one {α : Type} {l : List α} (h : l.length ≤ 1) {a b : α} (ha : a ∈ l) (hb : b ∈ l) :
    a = b := by
  cases l with
  | nil => exact absurd ha List.not_mem_nil
  | cons c l =>
    obtain rfl : l = [] := List.eq_nil_of_length_eq_zero (Nat.le_zero.mp (Nat.le_of_succ_le_succ h))
    exact (List.mem_singleton.mp ha).trans (List.mem_singleton.mp hb).symm

/-- Two ACTIVE jobs are one job (R122). -/
theorem JobsLaw.eq_of_active {s : State} (h : JobsLaw s) {i j : Job} (hi : i ∈ s.sched.jobs)
    (hj : j ∈ s.sched.jobs) (hia : i.state = .active) (hja : j.state = .active) : i = j := by
  obtain ⟨-, -, -, -, -, -, hactive⟩ := h
  rw [List.countP_eq_length_filter] at hactive
  have hi' : i ∈ s.sched.jobs.filter (fun j => j.state = .active) := List.mem_filter.mpr ⟨hi, decide_eq_true hia⟩
  have hj' : j ∈ s.sched.jobs.filter (fun j => j.state = .active) := List.mem_filter.mpr ⟨hj, decide_eq_true hja⟩
  exact eq_of_length_le_one hactive hi' hj'

theorem job?_mem {s : State} {n : Nat} {j : Job} (h : s.job? n = some j) :
    j ∈ s.sched.jobs ∧ j.number = n :=
  ⟨List.mem_of_find?_eq_some h, by simpa using List.find?_some h⟩

theorem active?_mem {s : State} {j : Job} (h : s.active? = some j) : j ∈ s.sched.jobs ∧ j.state = .active :=
  ⟨List.mem_of_find?_eq_some h, by simpa using List.find?_some h⟩

theorem JobsLaw.job?_eq {s : State} (h : JobsLaw s) {j : Job} (hj : j ∈ s.sched.jobs) :
    s.job? j.number = some j := by
  cases hfind : s.job? j.number with
  | none => simpa using List.find?_eq_none.mp hfind j hj
  | some i =>
    obtain ⟨hi, hn⟩ := job?_mem hfind
    rw [h.eq_of_number hi hj hn]

theorem JobsLaw.active?_eq {s : State} (h : JobsLaw s) {j : Job} (hj : j ∈ s.sched.jobs) (hact : j.state = .active) :
    s.active? = some j := by
  cases hfind : s.active? with
  | none => exact absurd hact (pathFree_iff.mpr hfind j hj)
  | some i =>
    obtain ⟨hi, hia⟩ := active?_mem hfind
    rw [h.eq_of_active hi hj hia hact]

/-- No pass is held, no reply slot stands and no exchange runs. -/
structure PathIdle (s : State) : Prop where
  pass : s.corr.pass = none
  slot : s.corr.slot = none
  phase : s.channel.exchange.phase = .idle

namespace Sound

variable {s : State}

theorem slot_none (hs : Sound s) (h : s.channel.exchange.phase = .idle) : s.corr.slot = none := by
  by_contra hslot
  exact absurd (h.symm.trans (hs.exchange.2 hslot)) nofun

theorem phase_idle_of_pass (hs : Sound s) {r : PassRecord} (h : s.corr.pass = some r) :
    s.channel.exchange.phase = .idle := (hs.pass r h).1

/-- The exchange's job, where one runs, is the ACTIVE job with a word started (R142, R143). -/
theorem exchange_job (hs : Sound s) (h : s.channel.exchange.phase ≠ .idle) :
    ∃ j ∈ s.sched.jobs, j.number = s.channel.exchange.job ∧ j.state = .active ∧
      (∃ c, j.cmd = some c ∧ c.wordStarted = true ∧
        (c.completed = true → s.channel.exchange.phase = .decided ∧
          s.channel.exchange.outcome = some .succeeded)) ∧
      ∃ p prof, j.pair = some p ∧ s.seq.current = some (p, prof) := (hs.exchange.1 h).1

theorem idle_of_free (hs : Sound s) (hfree : PathFree s) : PathIdle s := by
  have hphase : s.channel.exchange.phase = .idle := by
    by_contra hx
    obtain ⟨j, hj, -, hact, -⟩ := hs.exchange_job hx
    exact hfree j hj hact
  refine ⟨?_, hs.slot_none hphase, hphase⟩
  by_contra hpass
  obtain ⟨r, hr⟩ := Option.ne_none_iff_exists'.mp hpass
  obtain ⟨-, j, hj, -, hact, -⟩ := hs.pass r hr
  exact hfree j hj hact

/-- No exchange runs while the ACTIVE job has started no word. -/
theorem phase_idle_of_active (hs : Sound s) {j : Job} (hj : j ∈ s.sched.jobs) (hact : j.state = .active)
    (hcmd : ∀ c, j.cmd = some c → c.wordStarted = false) : s.channel.exchange.phase = .idle := by
  by_contra hx
  obtain ⟨i, hi, -, hia, ⟨c, hc, hstarted, -⟩, -⟩ := hs.exchange_job hx
  obtain rfl := hs.jobs.eq_of_active hi hj hia hact
  exact absurd hstarted (by simp [hcmd c hc])

theorem phase_idle_of_seq (hs : Sound s)
    (h : s.seq.state ≠ .tone ∧ s.seq.state ≠ .filling ∧ s.seq.state ≠ .steady) :
    s.channel.exchange.phase = .idle := by
  by_contra hx
  obtain ⟨-, -, htone, hrun⟩ := hs.exchange.1 hx
  by_cases hsend : s.channel.exchange.phase = .sending
  · exact h.1 (htone hsend)
  · exact (hrun hsend).elim h.2.1 h.2.2

/-- No pass is held for an ACTIVE job whose command has not completed. -/
theorem pass_none_of_active (hs : Sound s) {j : Job} (hj : j ∈ s.sched.jobs) (hact : j.state = .active)
    (h : j.kind = .dark ∨ ∃ c, j.cmd = some c ∧ c.completed = false) : s.corr.pass = none := by
  by_contra hpass
  obtain ⟨r, hr⟩ := Option.ne_none_iff_exists'.mp hpass
  obtain ⟨-, i, hi, -, hia, hkind, -, hdone⟩ := hs.pass r hr
  obtain rfl := hs.jobs.eq_of_active hi hj hia hact
  rcases h with h | ⟨c, hc, hcompleted⟩
  · exact hkind h
  · exact absurd (hdone c hc) (by simp [hcompleted])

end Sound

/-! ### From a state to one whose jobs come from its jobs -/

/-- Command fields come from those before: opcode and consent are the same, and the command goes on. -/
structure CommandFields.Follows (c d : CommandFields) : Prop where
  opcode : c.opcode = d.opcode
  basis : c.basis = d.basis
  askedPort : c.askedPort = d.askedPort
  started : d.wordStarted = true → c.wordStarted = true
  completed : d.completed = true → c.completed = true
  stand : d.standLaw → c.standLaw

theorem CommandFields.Follows.refl (c : CommandFields) : c.Follows c := ⟨rfl, rfl, rfl, id, id, id⟩

/-- A job comes from one before it: what the laws read agrees, but that its state and its command may go on. -/
structure Job.From (j i : Job) : Prop where
  number : j.number = i.number
  requester : j.requester = i.requester
  kind : j.kind = i.kind
  pair : j.pair = i.pair
  cmd : Option.Rel CommandFields.Follows j.cmd i.cmd

namespace Job.From

theorem of_cmd {j i : Job} (hnumber : j.number = i.number) (hrequester : j.requester = i.requester)
    (hkind : j.kind = i.kind) (hpair : j.pair = i.pair) (hcmd : j.cmd = i.cmd) : j.From i := by
  refine ⟨hnumber, hrequester, hkind, hpair, ?_⟩
  rw [hcmd]
  cases i.cmd with
  | none => exact .none
  | some c => exact .some (.refl c)

theorem refl (j : Job) : j.From j := of_cmd rfl rfl rfl rfl rfl

/-- The command fields of the job before, for those of the job. -/
theorem exists_before {j i : Job} (h : j.From i) {c : CommandFields} (hc : j.cmd = some c) :
    ∃ d, i.cmd = some d ∧ c.Follows d := by
  have hrel := h.cmd
  rw [hc] at hrel
  generalize i.cmd = o at hrel
  cases hrel with
  | some hfollows => exact ⟨_, rfl, hfollows⟩

theorem exists_after {j i : Job} (h : j.From i) {d : CommandFields} (hd : i.cmd = some d) :
    ∃ c, j.cmd = some c ∧ c.Follows d := by
  have hrel := h.cmd
  rw [hd] at hrel
  generalize j.cmd = o at hrel
  cases hrel with
  | some hfollows => exact ⟨_, rfl, hfollows⟩

theorem consentCovers {j i : Job} (h : j.From i) (o : Option Port) : consentCovers o j = consentCovers o i := by
  unfold Machine.consentCovers
  rw [h.requester]
  cases hi : i.cmd with
  | some d =>
    obtain ⟨c, hc, hfollows⟩ := h.exists_after hi
    simp only [hc, Option.map_some, hfollows.basis, hfollows.askedPort]
  | none =>
    cases hj : j.cmd with
    | none => rfl
    | some c =>
      obtain ⟨d, hd, -⟩ := h.exists_before hj
      exact absurd (hi.symm.trans hd) nofun

end Job.From

/-- The jobs and records of a state come from those before: a job ended, or is as it was but for what the driver
writes; a record stands with its job, and a job that waits keeps its record. -/
structure Shift (s t : State) : Prop where
  owner : ∀ p, (t.pair p).owner = (s.pair p).owner
  sub : t.channel.concur.Sublist s.channel.concur
  back : ∀ j ∈ t.sched.jobs, ∃ i ∈ s.sched.jobs, j.From i ∧
    (j.state = .ended ∨ i.state ≠ .ended ∧ (j.state = .waitConcur ↔ i.state = .waitConcur))
  kept : ∀ r ∈ t.channel.concur, ∀ i ∈ s.sched.jobs, i.number = r.job → i.state = .waitConcur →
    ∃ j ∈ t.sched.jobs, j.From i ∧ j.state = .waitConcur
  left : ∀ r ∈ s.channel.concur, r ∈ t.channel.concur ∨
    ∀ j ∈ t.sched.jobs, j.number = r.job → j.state ≠ .waitConcur

namespace Shift

variable {s t : State}

theorem of_eq (hjobs : t.sched.jobs = s.sched.jobs) (hconcur : t.channel.concur = s.channel.concur)
    (howner : ∀ p, (t.pair p).owner = (s.pair p).owner) : Shift s t := by
  refine ⟨howner, hconcur ▸ List.Sublist.refl _, fun j hj => ⟨j, hjobs ▸ hj, .refl j, ?_⟩, fun r _ i hi _ hw =>
    ⟨i, hjobs ▸ hi, .refl i, hw⟩, fun r hr => .inl (hconcur ▸ hr)⟩
  by_cases h : j.state = .ended
  · exact .inl h
  · exact .inr ⟨h, .rfl⟩

theorem concurLaw (h : Shift s t) (hs : Sound s) : ConcurLaw t := by
  obtain ⟨hlength, hnodup, hrec, hwait⟩ := hs.concur
  refine ⟨h.sub.length_le.trans hlength, hnodup.sublist (h.sub.map _), fun r hr => ?_, fun j hj hw => ?_⟩
  · obtain ⟨i, hi, hn, hstate, hreq, hpair⟩ := hrec r (h.sub.subset hr)
    obtain ⟨j, hj, hfrom, hjw⟩ := h.kept r hr i hi hn hstate
    exact ⟨j, hj, hfrom.number.trans hn, hjw, hfrom.requester.trans hreq, hfrom.pair.trans hpair⟩
  · obtain ⟨i, hi, hfrom, hstate⟩ := h.back j hj
    rcases hstate with hended | ⟨-, hiff⟩
    · exact absurd (hended.symm.trans hw) nofun
    · obtain ⟨r, hr, hn⟩ := hwait i hi (hiff.mp hw)
      rcases h.left r hr with hstays | hgone
      · exact ⟨r, hstays, hn.trans hfrom.number.symm⟩
      · exact absurd hw (hgone j hj (hfrom.number.trans hn.symm))

theorem stand (h : Shift s t) (hs : Sound s) : ∀ j ∈ t.sched.jobs, ∀ c, j.cmd = some c → c.standLaw := by
  intro j hj c hc
  obtain ⟨i, hi, hfrom, -⟩ := h.back j hj
  obtain ⟨d, hd, hwork⟩ := hfrom.exists_before hc
  exact hwork.stand (hs.stand i hi d hd)

theorem consentLaw (h : Shift s t) (hs : Sound s)
    (hlapsed : ∀ j ∈ t.sched.jobs, ∀ c, j.cmd = some c → sharedEffect c.opcode = true → j.state ≠ .ended →
      c.completed = false → c.basis = .lapsed → inExchange s j.number = true → inExchange t j.number = true) :
    ConsentLaw t := by
  refine ⟨fun r hr => ?_, fun j hj c p hc hp hshared hstate hdone => ?_⟩
  · rw [h.owner]
    exact hs.consent.1 r (h.sub.subset hr)
  · obtain ⟨i, hi, hfrom, hi'⟩ := h.back j hj
    obtain ⟨hiended, hiff⟩ := hi'.resolve_left hstate
    obtain ⟨d, hd, hwork⟩ := hfrom.exists_before hc
    have hundone : d.completed = false := Bool.eq_false_iff.mpr fun h => absurd (hwork.completed h) (by simp [hdone])
    obtain ⟨hin, hcovers⟩ := hs.consent.2 i hi d p hd (hfrom.pair ▸ hp) (hwork.opcode ▸ hshared) hiended hundone
    have hbasis := hwork.basis
    refine ⟨fun hb => ?_, fun hb hw => ?_⟩
    · exact hlapsed j hj c hc hshared hstate hdone hb (hfrom.number ▸ hin (hbasis.symm.trans hb))
    · rw [h.owner, hfrom.consentCovers]
      exact hcovers (hbasis ▸ hb) fun hiw => hw (hiff.mpr hiw)

/-- On an idle path the laws pass to the state after, if no job is left whose consent lapsed in an exchange. -/
theorem sound_idle (h : Shift s t) (hs : Sound s) (hjobs : JobsLaw t) (hidle : PathIdle t)
    (hlapsed : ∀ j ∈ t.sched.jobs, ∀ c, j.cmd = some c → sharedEffect c.opcode = true → j.state ≠ .ended →
      c.completed = false → c.basis = .lapsed → inExchange s j.number = false) : Sound t where
  jobs := hjobs
  concur := h.concurLaw hs
  pass _ hr := absurd (hidle.pass.symm.trans hr) nofun
  exchange := ⟨fun hx => absurd hidle.phase hx, fun hslot => absurd hidle.slot hslot⟩
  stand := h.stand hs
  consent := h.consentLaw hs fun j hj c hc hshared hstate hdone hb hin =>
    absurd (hin.symm.trans (hlapsed j hj c hc hshared hstate hdone hb)) nofun
  word _ _ _ _ _ _ _ hx := absurd (hidle.phase.symm.trans hx) nofun

/-- From an idle path to an idle path. -/
theorem sound_of_idle (h : Shift s t) (hs : Sound s) (hjobs : JobsLaw t)
    (hbefore : s.channel.exchange.phase = .idle) (hidle : PathIdle t) : Sound t :=
  h.sound_idle hs hjobs hidle fun _ _ _ _ _ _ _ _ => by simp [inExchange, hbefore]

end Shift

/-- The path is as it was: the exchange, a pass of the same job, the sequencer while an exchange runs, and the
ACTIVE job. -/
structure SamePath (s t : State) : Prop where
  phase : t.channel.exchange.phase = s.channel.exchange.phase
  job : t.channel.exchange.job = s.channel.exchange.job
  word : t.channel.exchange.word = s.channel.exchange.word
  outcome : t.channel.exchange.outcome = s.channel.exchange.outcome
  pass : ∀ r, t.corr.pass = some r → ∃ r', s.corr.pass = some r' ∧ r.job = r'.job ∧ r.pair = r'.pair
  slot : t.corr.slot ≠ none → s.corr.slot ≠ none
  seq : s.channel.exchange.phase ≠ .idle → t.seq.current = s.seq.current ∧ t.seq.held = s.seq.held ∧
    (t.seq.state = s.seq.state ∨ s.seq.state = .filling ∧ t.seq.state = .steady)
  active : ∀ i ∈ s.sched.jobs, i.state = .active → ∃ j ∈ t.sched.jobs, j.From i ∧ i.From j ∧ j.state = .active

namespace SamePath

variable {s t : State}

theorem of_eq (hjobs : t.sched.jobs = s.sched.jobs) (hx : t.channel.exchange = s.channel.exchange)
    (hcorr : t.corr = s.corr) (hseq : t.seq = s.seq) : SamePath s t :=
  ⟨by rw [hx], by rw [hx], by rw [hx], by rw [hx], fun r hr => ⟨r, hcorr ▸ hr, rfl, rfl⟩, fun h => hcorr ▸ h,
    fun _ => ⟨by rw [hseq], by rw [hseq], .inl (by rw [hseq])⟩, fun i hi hact => ⟨i, hjobs ▸ hi, .refl i, .refl i, hact⟩⟩

end SamePath

/-- Where jobs come from the jobs before and the path is as it was, the laws stand. -/
theorem Shift.sound_same {s t : State} (h : Shift s t) (hpath : SamePath s t) (hs : Sound s) (hjobs : JobsLaw t) :
    Sound t where
  jobs := hjobs
  concur := h.concurLaw hs
  pass r hr := by
    obtain ⟨r', hr', hjob, hpair⟩ := hpath.pass r hr
    obtain ⟨hidle, i, hi, hn, hact, hkind, hip, hdone⟩ := hs.pass r' hr'
    obtain ⟨j, hj, hfrom, -, hja⟩ := hpath.active i hi hact
    refine ⟨hpath.phase.trans hidle, j, hj, ?_, hja, hfrom.kind ▸ hkind, ?_, fun c hc => ?_⟩
    · rw [hfrom.number, hn, hjob]
    · rw [hfrom.pair, hip, hpair]
    · obtain ⟨d, hd, hwork⟩ := hfrom.exists_before hc
      exact hwork.completed (hdone d hd)
  exchange := by
    refine ⟨fun hx => ?_, fun hslot => hpath.phase.trans (hs.exchange.2 (hpath.slot hslot))⟩
    rw [hpath.phase] at hx ⊢
    rw [hpath.job, hpath.outcome]
    obtain ⟨⟨i, hi, hn, hact, ⟨d, hd, hstarted, hdone⟩, p, prof, hp, hcur⟩, hheld, htone, hrun⟩ := hs.exchange.1 hx
    obtain ⟨hcurrent, hheld', hstate⟩ := hpath.seq hx
    obtain ⟨j, hj, hfrom, hback, hja⟩ := hpath.active i hi hact
    obtain ⟨c, hc, hwork⟩ := hback.exists_before hd
    obtain ⟨c', hc', hwork'⟩ := hfrom.exists_after hd
    obtain rfl : c = c' := Option.some.inj (hc.symm.trans hc')
    refine ⟨⟨j, hj, hfrom.number.trans hn, hja, ⟨c, hc, hwork'.started hstarted, fun h => hdone (hwork.completed h)⟩,
      p, prof, hfrom.pair.trans hp, hcurrent.trans hcur⟩, hheld'.trans hheld, fun hsend => ?_, fun hsend => ?_⟩
    · rcases hstate with hsame | ⟨hfilling, -⟩
      · exact hsame.trans (htone hsend)
      · exact absurd (hfilling.symm.trans (htone hsend)) nofun
    · rcases hstate with hsame | ⟨-, hsteady⟩
      · exact hsame ▸ hrun hsend
      · exact .inr hsteady
  stand := h.stand hs
  consent := h.consentLaw hs fun _ _ _ _ _ _ _ _ hin => by
    simpa [inExchange, hpath.phase, hpath.job] using hin
  word j hj c p hc hp hshared hsend hjob hword o ho := by
    obtain ⟨i, hi, hfrom, -⟩ := h.back j hj
    obtain ⟨d, hd, hwork⟩ := hfrom.exists_before hc
    rw [h.owner] at ho
    rw [hfrom.requester, hwork.basis, hwork.askedPort]
    exact hs.word i hi d p hd (hfrom.pair ▸ hp) (hwork.opcode ▸ hshared) (hpath.phase ▸ hsend)
      (hpath.job ▸ hfrom.number ▸ hjob) (hpath.word ▸ hword) o ho

end Sys2Proof.Machine
end

section
/-! The joint law of work and consent through the operations of the arbiter and the job driver (O57). -/

namespace Sys2Proof.Machine

/-! ### Shifts of the jobs -/

/-- A change of one job that a shift allows: its state stays, or leaves one of work for another. -/
def Job.Onward (j i : Job) : Prop :=
  j.From i ∧ (j.state = i.state ∨ j.state = .ended ∧ i.state ≠ .waitConcur ∨
    i.state ≠ .ended ∧ i.state ≠ .waitConcur ∧ j.state ≠ .waitConcur)

theorem Job.Onward.refl (j : Job) : j.Onward j := ⟨.refl j, .inl rfl⟩

theorem Shift.of_map {s t : State} {f : Job → Job} (hjobs : t.sched.jobs = s.sched.jobs.map f)
    (hf : ∀ j ∈ s.sched.jobs, (f j).Onward j) (hconcur : t.channel.concur = s.channel.concur)
    (howner : ∀ p, (t.pair p).owner = (s.pair p).owner) : Shift s t := by
  have hwait : ∀ i ∈ s.sched.jobs, ((f i).state = .waitConcur ↔ i.state = .waitConcur) := by
    intro i hi
    rcases (hf i hi).2 with h | ⟨h, h'⟩ | ⟨-, h, h'⟩
    · rw [h]
    · rw [h]
      exact iff_of_false nofun h'
    · exact iff_of_false h' h
  refine ⟨howner, hconcur ▸ List.Sublist.refl _, fun j hj => ?_, fun r _ i hi _ hw => ?_,
    fun r hr => .inl (hconcur ▸ hr)⟩
  · rw [hjobs] at hj
    obtain ⟨i, hi, rfl⟩ := List.mem_map.mp hj
    refine ⟨i, hi, (hf i hi).1, ?_⟩
    by_cases hended : (f i).state = .ended
    · exact .inl hended
    · refine .inr ⟨?_, hwait i hi⟩
      rcases (hf i hi).2 with h | ⟨h, -⟩ | ⟨h, -⟩
      · exact h ▸ hended
      · exact absurd h hended
      · exact h
  · exact ⟨f i, hjobs ▸ List.mem_map_of_mem hi, (hf i hi).1, (hwait i hi).mpr hw⟩

/-- A move that leaves all that the laws read. -/
structure SameWork (s t : State) : Prop where
  jobs : t.sched.jobs = s.sched.jobs
  channel : t.channel = s.channel
  corr : t.corr = s.corr
  seq : t.seq = s.seq
  owner : ∀ p, (t.pair p).owner = (s.pair p).owner

theorem SameWork.of_lineMap {s t : State} (hjobs : t.sched.jobs = s.sched.jobs) (hchannel : t.channel = s.channel)
    (hcorr : t.corr = s.corr) (hseq : t.seq = s.seq) (hmap : t.lineMap = s.lineMap) : SameWork s t :=
  ⟨hjobs, hchannel, hcorr, hseq, fun p => by rw [State.pair, State.pair, hmap]⟩

namespace Sound

variable {s t : State}

theorem congr (hs : Sound s) (h : SameWork s t) : Sound t :=
  (Shift.of_eq h.jobs (by rw [h.channel]) h.owner).sound_same
    (.of_eq h.jobs (by rw [h.channel]) h.corr h.seq) hs ((JobsKeep.of_jobs h.jobs).law hs.jobs)

/-- The fields that the laws do not read, changed on some jobs. -/
theorem of_decorated (hs : Sound s) {f : Job → Job} (hjobs : t.sched.jobs = s.sched.jobs.map f)
    (hf : ∀ j, (f j).From j ∧ j.From (f j) ∧ (f j).state = j.state ∧ (f j).Alike j)
    (hchannel : t.channel = s.channel) (hcorr : t.corr = s.corr) (hseq : t.seq = s.seq)
    (howner : ∀ p, (t.pair p).owner = (s.pair p).owner) : Sound t := by
  refine (Shift.of_map hjobs (fun j _ => ⟨(hf j).1, .inl (hf j).2.2.1⟩) (by rw [hchannel]) howner).sound_same
    ⟨by rw [hchannel], by rw [hchannel], by rw [hchannel], by rw [hchannel], fun r hr => ⟨r, hcorr ▸ hr, rfl, rfl⟩,
      fun h => hcorr ▸ h, fun _ => ⟨by rw [hseq], by rw [hseq], .inl (by rw [hseq])⟩, fun i hi hact => ?_⟩ hs ?_
  · exact ⟨f i, hjobs ▸ List.mem_map_of_mem hi, (hf i).1, (hf i).2.1, (hf i).2.2.1.trans hact⟩
  · exact (JobsKeep.of_milder (hjobs ▸ .map (fun j => (hf j).2.2.2) _)).law hs.jobs

/-- A change of one job in fields that the laws do not read. -/
theorem setJob (hs : Sound s) (n : Nat) {f : Job → Job}
    (hf : ∀ j, (f j).number = j.number ∧ (f j).requester = j.requester ∧ (f j).kind = j.kind ∧
      (f j).pair = j.pair ∧ (f j).cmd = j.cmd ∧ (f j).state = j.state) : Sound (s.setJob n f) := by
  refine hs.of_decorated (t := s.setJob n f) rfl (fun j => ?_) rfl rfl rfl fun _ => rfl
  split
  · obtain ⟨hn, hr, hk, hp, hc, hst⟩ := hf j
    exact ⟨.of_cmd hn hr hk hp hc, .of_cmd hn.symm hr.symm hk.symm hp.symm hc.symm, hst,
      ⟨hn, hr, hk, hp, by rw [hc], fun h => hst ▸ h⟩⟩
  · exact ⟨.refl j, .refl j, rfl, .refl j⟩

theorem raiseNotice (hs : Sound s) (k : Notice) (p : Port) : Sound (raiseNotice k p s) :=
  hs.congr (.of_lineMap (by simp) (by simp) (by simp) (by simp) (by simp))

/-- A change of the sequencer alone while no exchange runs. -/
theorem of_seq (hs : Sound s) (hphase : s.channel.exchange.phase = .idle) (hjobs : t.sched.jobs = s.sched.jobs)
    (hchannel : t.channel = s.channel) (hcorr : t.corr = s.corr) (hmap : t.lineMap = s.lineMap) : Sound t := by
  refine (Shift.of_eq hjobs (by rw [hchannel]) fun p => by rw [State.pair, State.pair, hmap]).sound_same
    ⟨by rw [hchannel], by rw [hchannel], by rw [hchannel], by rw [hchannel], fun r hr => ⟨r, hcorr ▸ hr, rfl, rfl⟩,
      fun h => hcorr ▸ h, fun h => absurd hphase h, fun i hi hact => ⟨i, hjobs ▸ hi, .refl i, .refl i, hact⟩⟩ hs
    ((JobsKeep.of_jobs hjobs).law hs.jobs)

theorem giveOrder (hs : Sound s) (hphase : s.channel.exchange.phase = .idle) (o : Order) : Sound (giveOrder o s) :=
  hs.of_seq hphase (by simp) (by simp) (by simp) (by simp)

/-- A pass may be dropped at any time. -/
theorem dropPass (hs : Sound s) : Sound (dropPass s) :=
  (Shift.of_eq (s := s) (t := Machine.dropPass s) rfl rfl fun _ => rfl).sound_same
    ⟨rfl, rfl, rfl, rfl, nofun, fun h => absurd rfl h, fun _ => ⟨rfl, rfl, .inl rfl⟩,
      fun i hi hact => ⟨i, hi, .refl i, .refl i, hact⟩⟩ hs ((JobsKeep.of_jobs rfl).law hs.jobs)

end Sound

theorem PathIdle.of_eq {s t : State} (h : PathIdle s) (hx : t.channel.exchange.phase = s.channel.exchange.phase)
    (hcorr : t.corr = s.corr) : PathIdle t :=
  ⟨by rw [hcorr, h.pass], by rw [hcorr, h.slot], hx.trans h.phase⟩

/-! ### Ends -/

theorem shift_endJob (s : State) (n : Nat) (o : JobOutcome) :
    Shift s (endJob n o (s.removeConcur n)) := by
  have hconcur : (endJob n o (s.removeConcur n)).channel.concur = s.channel.concur.filter (fun r => r.job ≠ n) := by
    rw [endJob_channel]
    rfl
  have hstays : ∀ i ∈ s.sched.jobs, i.number ≠ n → i ∈ (endJob n o (s.removeConcur n)).sched.jobs := by
    intro i hi hn
    rcases endJob_jobs n o (s.removeConcur n) with h | h <;> rw [h]
    · exact List.mem_filter.mpr ⟨hi, decide_eq_true hn⟩
    · exact List.mem_map.mpr ⟨i, hi, if_neg hn⟩
  refine ⟨fun p => ?_, hconcur ▸ List.filter_sublist, fun j hj => ?_, fun r hr i hi hn hw => ?_, fun r hr => ?_⟩
  · rw [State.pair, endJob_lineMap]
    rfl
  · rcases mem_endJob hj with ⟨hmem, -⟩ | ⟨hended, i, hi, -, rfl⟩
    · refine ⟨j, hmem, .refl j, ?_⟩
      by_cases h : j.state = .ended
      · exact .inl h
      · exact .inr ⟨h, .rfl⟩
    · exact ⟨i, hi, .of_cmd rfl rfl rfl rfl rfl, .inl hended⟩
  · rw [hconcur] at hr
    exact ⟨i, hstays i hi (hn ▸ by simpa using (List.mem_filter.mp hr).2), .refl i, hw⟩
  · rw [hconcur]
    by_cases hn : r.job = n
    · refine .inr fun j hj hjn hw => ?_
      rcases mem_endJob hj with ⟨-, hne⟩ | ⟨hended, -⟩
      · exact hne (hjn.trans hn)
      · exact absurd (hended.symm.trans hw) nofun
    · exact .inl (List.mem_filter.mpr ⟨hr, decide_eq_true hn⟩)

/-- No record names a job that does not wait for one. -/
theorem removeConcur_eq_self {s : State} (hs : ConcurLaw s) {n : Nat}
    (h : ∀ j ∈ s.sched.jobs, j.number = n → j.state ≠ .waitConcur) : s.removeConcur n = s := by
  have hfilter : s.channel.concur.filter (fun r => r.job ≠ n) = s.channel.concur := by
    refine List.filter_eq_self.mpr fun r hr => decide_eq_true fun hn => ?_
    obtain ⟨j, hj, hjn, hw, -⟩ := hs.2.2.1 r hr
    exact h j hj (hjn.trans hn) hw
  unfold State.removeConcur
  rw [hfilter]

namespace Sound

variable {s : State}

/-- The end of a job that is not ACTIVE, its record removed with it. -/
theorem endWaiting (hs : Sound s) {n : Nat} (o : JobOutcome)
    (h : ∀ j ∈ s.sched.jobs, j.number = n → j.state ≠ .active) : Sound (endJob n o (s.removeConcur n)) := by
  have hjobs : JobsLaw (endJob n o (s.removeConcur n)) :=
    (JobsKeep.trans (t := s.removeConcur n) (.of_jobs rfl) (.endJob ..)).law hs.jobs
  refine (shift_endJob s n o).sound_same ⟨by simp, by simp, by simp, by simp, fun r hr => ⟨r, by simpa using hr, rfl, rfl⟩,
    fun h => by simpa using h, fun _ => by simp, fun i hi hact => ?_⟩ hs hjobs
  refine ⟨i, ?_, .refl i, .refl i, hact⟩
  have hn : i.number ≠ n := fun hn => h i hi hn hact
  rcases endJob_jobs n o (s.removeConcur n) with h | h <;> rw [h]
  · exact List.mem_filter.mpr ⟨hi, decide_eq_true hn⟩
  · exact List.mem_map.mpr ⟨i, hi, if_neg hn⟩

/-- The end of a job that waits for no answer, on an idle path. -/
theorem endJob (hs : Sound s) (hidle : PathIdle s) {n : Nat} (o : JobOutcome)
    (h : ∀ j ∈ s.sched.jobs, j.number = n → j.state ≠ .waitConcur) : Sound (endJob n o s) := by
  have hshift := shift_endJob s n o
  rw [removeConcur_eq_self hs.concur h] at hshift
  exact hshift.sound_of_idle hs ((JobsKeep.endJob ..).law hs.jobs) hidle.phase (hidle.of_eq (by simp) (by simp))

/-- The jobs of one number change their state between those of work, on an idle path. -/
theorem restate (hs : Sound s) (hidle : PathIdle s) {n : Nat} {f : Job → Job} (hjobs : JobsLaw (s.setJob n f))
    (hf : ∀ j ∈ s.sched.jobs, j.number = n → (f j).Onward j) : Sound (s.setJob n f) := by
  refine Shift.sound_of_idle (t := s.setJob n f) (.of_map rfl (fun j hj => ?_) rfl fun _ => rfl) hs hjobs hidle.phase
    (hidle.of_eq rfl rfl)
  split
  · exact hf j hj ‹_›
  · exact .refl j

theorem suspendJob (hs : Sound s) (hidle : PathIdle s) {j : Job} (hj : j ∈ s.sched.jobs) (hact : j.state = .active) :
    Sound (suspendJob j.number s) := by
  refine hs.restate hidle ((JobsKeep.suspendJob ..).law hs.jobs) fun i hi hn => ?_
  obtain rfl := hs.jobs.eq_of_number hi hj hn
  exact ⟨.of_cmd rfl rfl rfl rfl rfl, .inr (.inr (by simp [hact]))⟩

/-! ### Work -/

/-- A pass is started for the ACTIVE job, where none is held (R55, R123). -/
theorem runPass (hs : Sound s) (hidle : PathIdle s) {j : Job}
    (hjob : ∃ k ∈ s.sched.jobs, k.number = j.number ∧ k.state = .active ∧ k.kind ≠ .dark ∧ k.pair = j.pair ∧
      ∀ c, k.cmd = some c → c.completed = true) : Sound (runPass j s) := by
  have hjobs : (Machine.runPass j s).sched.jobs = s.sched.jobs := by simp
  have hchannel : (Machine.runPass j s).channel = s.channel := by simp
  have hcorr : (Machine.runPass j s).corr = (buildPass j s).corr := by
    unfold Machine.runPass
    split <;> rw [giveOrder_corr]
  have hslot : (buildPass j s).corr.slot = none := by
    unfold buildPass
    dsimp only
    repeat' split
    all_goals first | rfl | exact hidle.slot
  have hpass : ∀ r, (buildPass j s).corr.pass = some r → r.job = j.number ∧ r.pair = j.pair := by
    intro r hr
    unfold buildPass at hr
    dsimp only at hr
    split at hr
    · split at hr <;> exact Option.some.inj hr ▸ ⟨rfl, rfl⟩
    · split at hr
      · exact Option.some.inj hr ▸ ⟨rfl, rfl⟩
      · exact absurd (hidle.pass.symm.trans hr) nofun
  have hshift : Shift s (Machine.runPass j s) :=
    .of_eq hjobs (by rw [hchannel]) fun p => by rw [State.pair, State.pair, runPass_lineMap]
  have hphase : (Machine.runPass j s).channel.exchange.phase = .idle := by rw [hchannel, hidle.phase]
  refine ⟨(jobsKeep_runPass j s).law hs.jobs, hshift.concurLaw hs, fun r hr => ⟨hphase, ?_⟩,
    ⟨fun h => absurd hphase h, fun h => absurd (hcorr ▸ hslot) h⟩, hshift.stand hs,
    hshift.consentLaw hs (by simp [inExchange, hidle.phase]), fun _ _ _ _ _ _ _ h => absurd (hphase.symm.trans h) nofun⟩
  obtain ⟨hnumber, hpair⟩ := hpass r (hcorr ▸ hr)
  obtain ⟨k, hk, hn, hact, hkind, hkp, hdone⟩ := hjob
  exact ⟨k, hjobs ▸ hk, hn.trans hnumber.symm, hact, hkind, hkp.trans hpair.symm, hdone⟩

end Sound

theorem giveOrder_sendWord_of_runsOn {s : State} {p : PairNo} {prof : Profile} {bits : List Bool}
    (h : runsOn s.seq p = true) : giveOrder (.sendWord p prof bits) s = enterTone p prof bits s := by
  simp only [runsOn, Bool.and_eq_true, Bool.or_eq_true, decide_eq_true_eq] at h
  obtain ⟨hstate, hcur⟩ := h
  obtain ⟨⟨q, prof'⟩, hq, rfl⟩ := Option.map_eq_some_iff.mp hcur
  unfold giveOrder
  rcases hstate with h | h <;> simp [h, hq]

/-- A word of the ACTIVE job is sent from an idle path on its pair, its consent standing (R142, R165). -/
theorem Sound.startWord {s : State} (hs : Sound s) (hidle : PathIdle s) {j k : Job} (hk : k ∈ s.sched.jobs)
    (hact : k.state = .active) (hnumber : k.number = j.number) (hkp : k.pair = j.pair) (hkc : k.cmd = j.cmd)
    {p : PairNo} {c : CommandFields} (hpair : j.pair = some p) (hcmd : j.cmd = some c)
    (hdone : c.completed = false) (hruns : runsOn s.seq p = true) (w : CmdWord) (toggle : Bool) (tries : Nat) :
    Sound (startWord j w toggle tries s) := by
  have hk' : ∀ i ∈ s.sched.jobs, i.number = j.number → i = k := fun i hi hn =>
    hs.jobs.eq_of_number hi hk (hn.trans hnumber.symm)
  have hrun : ∀ q, runsOn ((s.setCmd j.number q).setExchange
      { Exchange.none with
        phase := .sending, job := j.number, word := w, toggle := toggle, tries := tries }).seq p = true :=
    fun _ => hruns
  rw [startWord_eq w toggle tries s hpair hcmd, giveOrder_sendWord_of_runsOn (hrun _)]
  have hfollows : (c.started w toggle tries).Follows c := by
    refine ⟨rfl, rfl, rfl, fun _ => rfl, id, fun _ => ⟨iff_of_false ?_ nofun, fun _ => rfl⟩⟩
    simp [CommandFields.started, hdone]
  generalize hu : enterTone _ _ _ _ = u
  have hjobs : u.sched.jobs = s.sched.jobs.map (fun i =>
      if i.number = j.number then { i with cmd := i.cmd.map (.started w toggle tries) } else i) := hu ▸ rfl
  have hcorr : u.corr = s.corr := hu ▸ rfl
  have hx : u.channel.exchange.phase = .sending ∧ u.channel.exchange.job = j.number := hu ▸ ⟨rfl, rfl⟩
  have hseq : u.seq.state = .tone ∧ u.seq.held = none ∧ u.seq.current = some (p, (s.pair p).profile) :=
    hu ▸ ⟨rfl, rfl, rfl⟩
  have hshift : Shift s u := by
    refine .of_map hjobs (fun i hi => ?_) (hu ▸ rfl) (fun q => hu ▸ rfl)
    split
    · next hn =>
      obtain rfl := hk' i hi hn
      refine ⟨⟨rfl, rfl, rfl, rfl, ?_⟩, .inl rfl⟩
      rw [hkc.trans hcmd]
      exact .some hfollows
    · exact .refl i
  have hmem : { k with cmd := some (c.started w toggle tries) } ∈ u.sched.jobs := by
    rw [hjobs]
    refine List.mem_map.mpr ⟨k, hk, ?_⟩
    rw [if_pos hnumber, hkc, hcmd]
    rfl
  refine ⟨?_, hshift.concurLaw hs, fun r hr => ?_, ⟨fun _ => ⟨?_, hseq.2.1, fun _ => hseq.1, fun h => absurd hx.1 h⟩,
    fun h => absurd (hcorr ▸ hidle.slot) h⟩, hshift.stand hs,
    hshift.consentLaw hs (by simp [inExchange, hidle.phase]), fun i hi d q hd hq hshared _ hjob _ o ho => ?_⟩
  · refine (JobsKeep.of_milder (hjobs ▸ .map (fun i => ?_) _)).law hs.jobs
    split
    · exact ⟨rfl, rfl, rfl, rfl, by simp, id⟩
    · exact .refl i
  · exact absurd ((hcorr ▸ hidle.pass).symm.trans hr) nofun
  · exact ⟨_, hmem, hnumber.trans hx.2.symm, hact, ⟨_, rfl, rfl, fun h => absurd h (by simp [CommandFields.started, hdone])⟩,
      p, _, hkp.trans hpair, hseq.2.2⟩
  · obtain ⟨i', hi', hfrom, -⟩ := hshift.back i hi
    obtain rfl := hk' i' hi' (hfrom.number.symm.trans (hjob.symm.trans hx.2))
    obtain ⟨e, he, hde⟩ := hfrom.exists_before hd
    obtain rfl : e = c := Option.some.inj (he.symm.trans (hkc.trans hcmd))
    obtain ⟨hlapsed, hcovers⟩ := hs.consent.2 i' hi' e q he (hfrom.pair ▸ hq) (hde.opcode ▸ hshared)
      (by simp [hact]) hdone
    have hbasis : e.basis ≠ .lapsed := fun h => by simpa [inExchange, hidle.phase] using hlapsed h
    have hcover := hcovers hbasis (by simp [hact])
    rw [hshift.owner] at ho
    rw [ho] at hcover
    rw [hfrom.requester, hde.basis, hde.askedPort]
    simpa [consentCovers, he] using hcover

/-! ### Grants -/

theorem state_of_eligible {hold : Bool} {j : Job} (h : eligible hold j = true) :
    j.state = .queued ∨ j.state = .suspended := by
  simp only [eligible, Bool.and_eq_true, Bool.or_eq_true, decide_eq_true_eq] at h
  exact h.1

theorem Shift.activate {s : State} (hjobs : JobsLaw s) {j : Job} (hj : j ∈ s.sched.jobs)
    (hstate : j.state = .queued ∨ j.state = .suspended) : Shift s (activate j s) := by
  refine .of_map (activate_jobs j s) (fun i hi => ?_) (by simp) fun p => by
    rw [State.pair, State.pair, activate_lineMap]
  split
  · next hn =>
    obtain rfl := hjobs.eq_of_number hi hj hn
    exact ⟨.of_cmd rfl rfl rfl rfl rfl, .inr (.inr (by rcases hstate with h | h <;> simp [h, Job.granted]))⟩
  · exact .refl i

theorem granted_mem_activate {s : State} {j : Job} (hj : j ∈ s.sched.jobs) :
    j.granted ∈ (activate j s).sched.jobs := by
  rw [activate_jobs]
  exact List.mem_map.mpr ⟨j, hj, if_pos rfl⟩

namespace Sound

variable {s : State}

theorem activate (hs : Sound s) (hfree : PathFree s) {j : Job} (hj : j ∈ s.sched.jobs)
    (hstate : j.state = .queued ∨ j.state = .suspended) : Sound (activate j s) ∧ PathIdle (activate j s) := by
  have hidle := hs.idle_of_free hfree
  have hidle' : PathIdle (Machine.activate j s) := hidle.of_eq (by simp) (by simp)
  exact ⟨(Shift.activate hs.jobs hj hstate).sound_of_idle hs (hs.jobs.activate hfree) hidle.phase hidle', hidle'⟩

/-- The first word of the ACTIVE job (R149). -/
theorem sendFirst (hs : Sound s) (hidle : PathIdle s) {j k : Job} (hk : k ∈ s.sched.jobs)
    (hact : k.state = .active) (hnumber : k.number = j.number) (hkp : k.pair = j.pair) (hkc : k.cmd = j.cmd)
    {p : PairNo} {c : CommandFields} (hpair : j.pair = some p) (hcmd : j.cmd = some c)
    (hdone : c.completed = false) (hruns : runsOn s.seq p = true) : Sound (sendFirst j s) := by
  unfold Machine.sendFirst
  split <;> exact hs.startWord hidle hk hact hnumber hkp hkc hpair hcmd hdone hruns ..

/-- The work of a job just granted (R123). -/
theorem startWork (hs : Sound s) (hidle : PathIdle s) {j : Job} (hj : j.granted ∈ s.sched.jobs) :
    Sound (startWork j s) := by
  obtain ⟨hcmd, -⟩ := hs.jobs.2.2.1 _ hj
  have hpass : j.kind ≠ .dark → (∀ c, j.cmd = some c → c.completed = true) → Sound (Machine.runPass j s) :=
    fun hkind hdone => hs.runPass hidle ⟨_, hj, rfl, rfl, hkind, rfl, hdone⟩
  have hplain : j.kind ≠ .command → ∀ c, j.cmd = some c → c.completed = true := fun hkind c hc =>
    absurd (hcmd.mp (by simp [Job.granted, hc])) hkind
  unfold Machine.startWork
  split
  · next hkind => exact hpass (by simp [hkind]) (hplain (by simp [hkind]))
  · next hkind => exact hpass (by simp [hkind]) (hplain (by simp [hkind]))
  · next hkind => exact hpass (by simp [hkind]) (hplain (by simp [hkind]))
  · next hkind => exact hpass (by simp [hkind]) (hplain (by simp [hkind]))
  · next hkind => exact hpass (by simp [hkind]) (hplain (by simp [hkind]))
  · next hkind =>
    unfold startCommand
    split
    · next p c hpair hc =>
      have hstand := hs.stand _ hj c hc
      split
      · next hnext =>
        refine hpass (by simp [hkind]) fun d hd => ?_
        obtain rfl := Option.some.inj (hc.symm.trans hd)
        exact hstand.1.mpr hnext
      · next w hnext =>
        have hdone : c.completed = false := Bool.eq_false_iff.mpr fun h =>
          absurd (hnext.symm.trans (hstand.1.mp h)) nofun
        split
        · exact hs.sendFirst hidle hj rfl rfl rfl rfl hpair hc hdone ‹_›
        · exact hs.giveOrder hidle.phase _
    · exact hs
  · unfold startDark
    refine Sound.giveOrder (hs.congr ?_) ?_ _
    · exact ⟨rfl, rfl, rfl, rfl, fun _ => rfl⟩
    · exact hidle.phase

theorem endHeld (hs : Sound s) (hidle : PathIdle s) {j : Job} (hj : j ∈ s.sched.jobs) (hstate : j.state = .active)
    {n : Nat} (hn : j.number = n) : Sound (endHeld n s) := by
  unfold Machine.endHeld
  refine Sound.endJob ?_ ?_ _ fun i hi hin => ?_
  · exact hs.setJob _ fun _ => ⟨rfl, rfl, rfl, rfl, rfl, rfl⟩
  · exact ⟨hidle.pass, hidle.slot, hidle.phase⟩
  · obtain ⟨i', hi', rfl⟩ := List.mem_map.mp hi
    split at hin
    · next h =>
      obtain rfl := hs.jobs.eq_of_number hi' hj (h.trans hn.symm)
      simp [h, hstate]
    · next h => exact absurd hin h

/-- The arbiter's decision (R122). -/
theorem arbitrate (hs : Sound s) : Sound (arbitrate s) := by
  unfold Machine.arbitrate
  split
  · exact hs
  · next hfree =>
    refine grantLoop_induction (P := fun s => Sound s ∧ PathFree s) (Q := Sound) (fun _ h => h.1) ?_ ?_ _ _
      ⟨hs, pathFree_iff.mpr hfree⟩
    · intro s j ⟨hs, hfree⟩ hchoose _
      obtain ⟨hj, heligible⟩ := chooseJob_mem hchoose
      obtain ⟨hact, hidle⟩ := hs.activate hfree hj (state_of_eligible heligible)
      exact ⟨hact.endHeld hidle (granted_mem_activate hj) rfl rfl, pathFree_endHeld_activate hfree⟩
    · intro s j ⟨hs, hfree⟩ hchoose
      obtain ⟨hj, heligible⟩ := chooseJob_mem hchoose
      obtain ⟨hact, hidle⟩ := hs.activate hfree hj (state_of_eligible heligible)
      exact hact.startWork hidle (granted_mem_activate hj)

/-! ### New jobs -/

/-- A new job joins, with the record of the answer it waits for. -/
theorem join {t : State} (hs : Sound s) {k : Job} {rs : List ConcurRec} (hjobs : JobsLaw t)
    (hlist : t.sched.jobs = s.sched.jobs ++ [k]) (hconcur : t.channel.concur = s.channel.concur ++ rs)
    (hx : t.channel.exchange = s.channel.exchange) (hcorr : t.corr = s.corr) (hseq : t.seq = s.seq)
    (howner : ∀ p, (t.pair p).owner = (s.pair p).owner) (hidle : k.state ≠ .active)
    (hroom : (s.channel.concur ++ rs).length ≤ 4) (hone : rs.length ≤ 1)
    (hrs : ∀ r ∈ rs, k.number = r.job ∧ k.state = .waitConcur ∧ k.requester = .port r.requester ∧
      k.pair = some r.pair ∧ (s.pair (partner r.pair)).owner = some r.asked)
    (hwait : k.state = .waitConcur → ∃ r ∈ rs, r.job = k.number) (hstand : ∀ c, k.cmd = some c → c.standLaw)
    (hconsent : ∀ c p, k.cmd = some c → k.pair = some p → sharedEffect c.opcode = true →
      c.basis ≠ .lapsed ∧ (k.state ≠ .waitConcur → consentCovers (s.pair (partner p)).owner k = true)) :
    Sound t := by
  have hfresh : ∀ i ∈ s.sched.jobs, i.number ≠ k.number := by
    obtain ⟨hnodup, -⟩ := hjobs
    rw [hlist, List.map_append, List.nodup_append] at hnodup
    exact fun i hi => hnodup.2.2 _ (List.mem_map_of_mem hi) _ (List.mem_singleton.mpr rfl)
  have hold : ∀ i ∈ s.sched.jobs, i ∈ t.sched.jobs := fun i hi => hlist ▸ List.mem_append_left _ hi
  have hcases : ∀ j ∈ t.sched.jobs, j ∈ s.sched.jobs ∨ j = k := fun j hj => by
    rw [hlist, List.mem_append, List.mem_singleton] at hj
    exact hj
  have hmem : k ∈ t.sched.jobs := hlist ▸ List.mem_append_right _ (List.mem_singleton.mpr rfl)
  refine ⟨hjobs, ⟨hconcur ▸ hroom, ?_, fun r hr => ?_, fun j hj hw => ?_⟩, fun r hr => ?_, ⟨fun h => ?_, fun h => ?_⟩,
    fun j hj c hc => ?_, ⟨fun r hr => ?_, fun j hj c p hc hp hshared hstate hdone => ?_⟩,
    fun j hj c p hc hp hshared hsend hjob hword o ho => ?_⟩
  · rw [hconcur, List.map_append, List.nodup_append]
    refine ⟨hs.concur.2.1, ?_, fun a ha b hb => ?_⟩
    · match rs, hone with
      | [], _ => exact List.nodup_nil
      | [r], _ => exact List.nodup_singleton _
    · obtain ⟨r, hr, rfl⟩ := List.mem_map.mp ha
      obtain ⟨r', hr', rfl⟩ := List.mem_map.mp hb
      obtain ⟨i, hi, hn, -⟩ := hs.concur.2.2.1 r hr
      exact fun h => hfresh i hi (hn.trans (h.trans (hrs r' hr').1.symm))
  · rw [hconcur, List.mem_append] at hr
    rcases hr with hr | hr
    · obtain ⟨i, hi, h⟩ := hs.concur.2.2.1 r hr
      exact ⟨i, hold i hi, h⟩
    · obtain ⟨hn, hw, hreq, hp, -⟩ := hrs r hr
      exact ⟨k, hmem, hn, hw, hreq, hp⟩
  · rw [hconcur]
    rcases hcases j hj with hj | rfl
    · obtain ⟨r, hr, hn⟩ := hs.concur.2.2.2 j hj hw
      exact ⟨r, List.mem_append_left _ hr, hn⟩
    · obtain ⟨r, hr, hn⟩ := hwait hw
      exact ⟨r, List.mem_append_right _ hr, hn⟩
  · obtain ⟨hphase, i, hi, h⟩ := hs.pass r (hcorr ▸ hr)
    exact ⟨hx ▸ hphase, i, hold i hi, h⟩
  · rw [hx] at h ⊢
    obtain ⟨⟨i, hi, hjob⟩, hrest⟩ := hs.exchange.1 h
    rw [hseq]
    exact ⟨⟨i, hold i hi, hjob⟩, hrest⟩
  · rw [hx]
    exact hs.exchange.2 (hcorr ▸ h)
  · rcases hcases j hj with hj | rfl
    · exact hs.stand j hj c hc
    · exact hstand c hc
  · rw [howner]
    rw [hconcur, List.mem_append] at hr
    rcases hr with hr | hr
    · exact hs.consent.1 r hr
    · exact (hrs r hr).2.2.2.2
  · rw [howner]
    have hin : inExchange t j.number = inExchange s j.number := by rw [inExchange, inExchange, hx]
    rcases hcases j hj with hj | rfl
    · rw [hin]
      exact hs.consent.2 j hj c p hc hp hshared hstate hdone
    · obtain ⟨hbasis, hcovers⟩ := hconsent c p hc hp hshared
      exact ⟨fun h => absurd h hbasis, fun _ => hcovers⟩
  · rw [howner] at ho
    rw [hx] at hsend hjob hword
    rcases hcases j hj with hj | rfl
    · exact hs.word j hj c p hc hp hshared hsend hjob hword o ho
    · obtain ⟨i, hi, hn, -⟩ := hs.exchange_job (by rw [hsend]; nofun)
      exact absurd (hn.trans hjob) (hfresh i hi)

/-- A job of no command joins the slots (R115). -/
theorem addJob (hs : Sound s) {j : Job} (hj : MayJoin j s) (hcmd : j.cmd = none) (hstate : j.state = .queued) :
    Sound (s.addJob j) := by
  refine hs.join (rs := []) ((JobsKeep.addJob hj).law hs.jobs) (State.addJob_jobs s j) (by simp) rfl rfl rfl
    (fun _ => rfl) (by simp [hstate]) (by simpa using hs.concur.1) (by simp) (by simp) (by simp [hstate]) ?_ ?_
  · intro c hc
    exact absurd (hcmd.symm.trans hc) nofun
  · intro c p hc
    exact absurd (hcmd.symm.trans hc) nofun

/-- A cut (R126): the pass is dropped and the job SUSPENDED. -/
theorem cutJob (hs : Sound s) {j : Job} (hj : j ∈ s.sched.jobs) (hact : j.state = .active)
    (hphase : s.channel.exchange.phase = .idle) : Sound (cutJob j s) := by
  have hdrop := hs.dropPass
  have hidle : PathIdle (Machine.dropPass s) := ⟨rfl, rfl, hphase⟩
  have hcut : Sound ((Machine.dropPass s).setJob j.number (fun i =>
      { i with state := .suspended, preempts := saturating 255 i.preempts })) := by
    refine hdrop.restate hidle (hdrop.jobs.setJob fun _ => ⟨rfl, rfl, rfl, rfl, rfl, nofun⟩) fun i hi hn => ?_
    obtain rfl := hdrop.jobs.eq_of_number hi hj hn
    exact ⟨.of_cmd rfl rfl rfl rfl rfl, .inr (.inr (by simp [hact]))⟩
  unfold Machine.cutJob
  dsimp only
  split
  · exact hcut.congr (.of_lineMap (by simp) (by simp) (by simp) (by simp) (by simp))
  · exact hcut

theorem phase_idle_of_cuttable (hs : Sound s) {j : Job} (hj : j ∈ s.sched.jobs) (hact : j.state = .active)
    (hcut : cuttable s j = true) : s.channel.exchange.phase = .idle := by
  refine hs.phase_idle_of_active hj hact fun c hc => ?_
  have hkind := ((hs.jobs.2.2.1 j hj).1.mp (by simp [hc]))
  simp only [cuttable, hkind, JobKind.measuring, hc, Bool.and_eq_true] at hcut
  simpa using hcut.2

/-- A job has become eligible (R122, R126). -/
theorem becameEligible (hs : Sound s) (u : Bool) : Sound (becameEligible u s) := by
  unfold Machine.becameEligible
  split
  · exact hs.arbitrate
  · next j hj =>
    obtain ⟨hmem, hact⟩ := active?_mem hj
    split
    · next h =>
      exact (hs.cutJob hmem hact (hs.phase_idle_of_cuttable hmem hact ((Bool.and_eq_true _ _ ▸ h : _ ∧ _).2))).arbitrate
    · exact hs

theorem acceptJob (hs : Sound s) {j : Job} (hj : MayJoin j s) (hcmd : j.cmd = none) (hstate : j.state = .queued) :
    Sound (acceptJob j s) := by
  unfold Machine.acceptJob
  dsimp only
  rw [if_pos hstate]
  exact (hs.addJob hj hcmd hstate).becameEligible _

end Sound

end Sys2Proof.Machine
end

section
/-! Every step keeps the joint law of work and consent (O57). -/

namespace Sys2Proof.Machine

namespace Sound

variable {s t : State}

/-- The records, jobs and owners stand, and the path is as it was. -/
theorem of_path (hs : Sound s) (hjobs : t.sched.jobs = s.sched.jobs) (hconcur : t.channel.concur = s.channel.concur)
    (howner : ∀ p, (t.pair p).owner = (s.pair p).owner)
    (hx : t.channel.exchange.phase = s.channel.exchange.phase ∧ t.channel.exchange.job = s.channel.exchange.job ∧
      t.channel.exchange.word = s.channel.exchange.word ∧ t.channel.exchange.outcome = s.channel.exchange.outcome)
    (hpass : ∀ r, t.corr.pass = some r → ∃ r', s.corr.pass = some r' ∧ r.job = r'.job ∧ r.pair = r'.pair)
    (hslot : t.corr.slot ≠ none → s.corr.slot ≠ none)
    (hseq : s.channel.exchange.phase ≠ .idle → t.seq.current = s.seq.current ∧ t.seq.held = s.seq.held ∧
      (t.seq.state = s.seq.state ∨ s.seq.state = .filling ∧ t.seq.state = .steady)) : Sound t :=
  (Shift.of_eq hjobs hconcur howner).sound_same
    ⟨hx.1, hx.2.1, hx.2.2.1, hx.2.2.2, hpass, hslot, hseq,
      fun i hi hact => ⟨i, hjobs ▸ hi, .refl i, .refl i, hact⟩⟩ hs ((JobsKeep.of_jobs hjobs).law hs.jobs)

/-- A change of the sequencer that leaves its state, current pair and held order. -/
theorem of_sameRun (hs : Sound s) (hjobs : t.sched.jobs = s.sched.jobs) (hchannel : t.channel = s.channel)
    (hcorr : t.corr = s.corr) (hmap : t.lineMap = s.lineMap)
    (hseq : t.seq.current = s.seq.current ∧ t.seq.held = s.seq.held ∧ t.seq.state = s.seq.state) : Sound t :=
  hs.of_path hjobs (by rw [hchannel]) (fun p => by rw [State.pair, State.pair, hmap]) (by simp [hchannel])
    (fun r hr => ⟨r, hcorr ▸ hr, rfl, rfl⟩) (fun h => hcorr ▸ h) fun _ => ⟨hseq.1, hseq.2.1, .inl hseq.2.2⟩

theorem tookBoundary (hs : Sound s) : Sound (tookBoundary s) := hs.of_sameRun rfl rfl rfl rfl ⟨rfl, rfl, rfl⟩

theorem takeFault (hs : Sound s) : Sound (takeFault s) :=
  hs.of_sameRun (by simp) (by simp) (by simp) (by simp) (by simp [takeFault_seq])

/-! ### Ends, faults and evaluations -/

theorem endActive (hs : Sound s) (hidle : PathIdle s) {j : Job} (hj : j ∈ s.sched.jobs) (hact : j.state = .active)
    (o : JobOutcome) : Sound (Machine.endJob j.number o s) :=
  hs.endJob hidle o fun i hi hn => by
    obtain rfl := hs.jobs.eq_of_number hi hj hn
    simp [hact]

/-- The job ends at the end of its pass (R124, R156). -/
theorem endAtPassEnd (hs : Sound s) (hidle : PathIdle s) {j k : Job} (hk : k ∈ s.sched.jobs)
    (hact : k.state = .active) (hn : k.number = j.number) (o : JobOutcome) : Sound (endAtPassEnd j o s) := by
  have hend : ∀ {u : State}, Sound u → PathIdle u → u.sched.jobs = s.sched.jobs →
      Sound (Machine.arbitrate (Machine.endJob j.number o u)) :=
    fun hu hidle hjobs => (hn ▸ hu.endActive hidle (hjobs ▸ hk) hact o).arbitrate
  unfold Machine.endAtPassEnd
  split
  · exact hend (hs.giveOrder hidle.phase _) (hidle.of_eq (by simp) (by simp)) (by simp)
  · exact hend hs hidle rfl

/-- A switch fault on a pair, while no exchange runs (R30, R135). -/
theorem faultOnPair (hs : Sound s) (hphase : s.channel.exchange.phase = .idle) : Sound (faultOnPair s) := by
  unfold Machine.faultOnPair
  dsimp only
  generalize hu : Machine.dropPass _ = u
  have hsound : Sound u := hu ▸ (hs.takeFault.of_seq
    (t := { Machine.takeFault s with seq := { (Machine.takeFault s).seq with
      state := .switchFault, current := none, goal := none, running := false } }) (by simpa using hphase)
      rfl rfl rfl rfl).dropPass
  have hidle : PathIdle u := hu ▸ ⟨rfl, rfl, by simpa using hphase⟩
  split
  · next j hj =>
    obtain ⟨hmem, hact⟩ := active?_mem hj
    unfold faultJob
    split
    · exact hsound.endActive hidle hmem hact _
    · exact hsound.suspendJob hidle hmem hact
  · exact hsound

theorem deliver (hs : Sound s) (n : Nat) (f : ResultList → ResultList) : Sound (deliver n f s) := by
  unfold Machine.deliver
  split
  · split
    · exact hs.congr ⟨rfl, rfl, rfl, rfl, fun _ => rfl⟩
    · exact hs.setJob n fun _ => ⟨rfl, rfl, rfl, rfl, rfl, rfl⟩
  · exact hs
  · exact hs

theorem takeConfirm (hs : Sound s) (r : ConfirmRequest) : Sound (takeConfirm r s) := by
  unfold Machine.takeConfirm
  split
  · refine hs.of_decorated (t := s.setJobs _) rfl (fun j => ?_) rfl rfl rfl fun _ => rfl
    split
    · exact ⟨.of_cmd rfl rfl rfl rfl rfl, .of_cmd rfl rfl rfl rfl rfl, rfl, ⟨rfl, rfl, rfl, rfl, rfl, id⟩⟩
    · exact ⟨.refl j, .refl j, rfl, .refl j⟩
  · split
    · exact hs.addJob (mayJoin_confirm ‹_› ..) rfl rfl
    · exact hs

theorem refreshCount (hs : Sound s) (d : Nat) : Sound (refreshCount d s) := by
  have hset : ∀ c, Sound (setRefresh c s) := fun c => hs.congr ⟨rfl, rfl, rfl, rfl, fun _ => rfl⟩
  unfold Machine.refreshCount
  dsimp only
  generalize (if s.intake.refresh < d then s.intake.refresh + 1 else s.intake.refresh) = c
  repeat' split
  · exact hset 0
  · exact hset _
  · exact hset 0
  · next hroom => exact (hset 0).addJob (mayJoin_dark (s := setRefresh 0 s) hroom .internal) rfl rfl
  · exact hset _

theorem stepFive (hs : Sound s) (rec : PassRecord) : Sound (stepFive rec s) := by
  have hadvance : Sound (advanceJob rec s) := by
    unfold advanceJob
    exact hs.setJob _ fun _ => ⟨rfl, rfl, rfl, rfl, rfl, rfl⟩
  have hcount : Sound (countPass rec (advanceJob rec s)) :=
    hadvance.congr (.of_lineMap (by simp) (by simp) (by simp) (by simp) (by simp))
  have hnotice : Sound (if isOverdrive rec then noticeOverdrive rec (countPass rec (advanceJob rec s))
      else countPass rec (advanceJob rec s)) := by
    split
    · exact hcount.congr (.of_lineMap (by simp) (by simp) (by simp) (by simp) (by simp))
    · exact hcount
  unfold Machine.stepFive
  dsimp only
  split
  · exact hnotice
  · exact hnotice.refreshCount _

theorem stepsTwoThree (hs : Sound s) (rec : PassRecord) (records : List EchoRecord) :
    Sound (stepsTwoThree rec records s).1 := by
  unfold Machine.stepsTwoThree
  dsimp only
  split
  · exact hs
  · have hpass : ∀ m par p l, Sound (sigPass m par p l s).1 := fun _ _ _ _ =>
      hs.congr (.of_lineMap (by simp) (by simp) (by simp) (by simp) (by simp))
    split
    · unfold locate
      refine List.foldlRecOn (motive := Sound) _ _ ?_ fun t ht k _ => ht.takeConfirm _
      exact hs.congr (.of_lineMap (by simp) (by simp) (by simp) (by simp) (by simp))
    · exact hpass ..
    · exact hpass ..

/-- The state of an evaluation before the cells are cleared keeps the laws and the Correlator. -/
theorem evaluatePass (hs : Sound s) (rec : PassRecord) : ∃ u, Sound u ∧ u.corr = s.corr ∧
    evaluatePass rec s = Machine.dropPass u := by
  unfold Machine.evaluatePass
  dsimp only
  refine ⟨_, ?_, ?_, rfl⟩
  · refine Sound.stepFive ?_ rec
    split
    · exact hs.deliver ..
    · exact (hs.stepsTwoThree ..).deliver ..
  · split <;> simp

/-- The job driver's decision on an idle path, for the ACTIVE job (R124, R156). -/
theorem afterPass (hs : Sound s) (hidle : PathIdle s) {rec : PassRecord} {k : Job} (hk : k ∈ s.sched.jobs)
    (hn : k.number = rec.job) (hact : k.state = .active) (hkind : k.kind ≠ .dark)
    (hdone : ∀ c, k.cmd = some c → c.completed = true) : Sound (afterPass rec s) := by
  have hjob : s.job? rec.job = some k := hn ▸ hs.jobs.job?_eq hk
  have hsuspend : Sound (Machine.arbitrate (Machine.suspendJob k.number s)) :=
    (hs.suspendJob hidle hk hact).arbitrate
  unfold Machine.afterPass
  rw [hjob]
  dsimp only
  split
  · exact hs.endAtPassEnd hidle hk hact rfl _
  · split
    · exact hs.endAtPassEnd hidle hk hact rfl _
    · split
      · exact hsuspend
      · split
        · exact hsuspend
        · split
          · have hmem : { k with passes := 0 } ∈ (s.setJob k.number fun j => { j with passes := 0 }).sched.jobs := by
              rw [State.setJob_jobs]
              exact List.mem_map.mpr ⟨k, hk, by rw [if_pos rfl]⟩
            refine Sound.runPass (Sound.setJob hs _ fun _ => ?_) ?_ ⟨_, hmem, rfl, hact, hkind, rfl, hdone⟩
            · exact ⟨rfl, rfl, rfl, rfl, rfl, rfl⟩
            · exact ⟨hidle.pass, hidle.slot, hidle.phase⟩
          · exact hs.runPass hidle ⟨k, hk, rfl, hact, hkind, rfl, hdone⟩

/-- The evaluation of the pass held, and the job driver's decision (R60, R67, R124). -/
theorem evaluateAndGoOn (hs : Sound s) {rec : PassRecord} (hrec : s.corr.pass = some rec) :
    Sound (evaluateAndGoOn rec s) := by
  obtain ⟨u, hu, hcorr, heq⟩ := hs.evaluatePass rec
  obtain ⟨hphase, k, hk, hn, hact, hkind, -, hdone⟩ := hu.pass rec (hcorr ▸ hrec)
  unfold Machine.evaluateAndGoOn
  rw [heq]
  exact hu.dropPass.afterPass ⟨rfl, rfl, hphase⟩ hk hn hact hkind hdone

/-! ### Submissions, cancels and answers -/

theorem commandConsent {s : State} {port : Port} {u : CommandUse} {p : PairNo} (hp : u.pair = p)
    (hnone : askedOwner s port u.pair u.opcode = none) (hshared : sharedEffect u.opcode = true) (k n : Nat) :
    consentCovers (s.pair (partner p)).owner (commandJob port k n u none) = true := by
  subst hp
  cases howner : (s.pair (partner u.pair)).owner with
  | none => rfl
  | some o =>
    have hself : o = port := by
      by_contra hne
      have hasked : askedOwner s port u.pair u.opcode = some o := by
        rw [askedOwner, if_pos hshared, howner]
        exact if_neg hne
      cases hnone.symm.trans hasked
    subst hself
    exact Bool.or_eq_true_iff.mpr (.inl (decide_eq_true rfl))

/-- An accepted command, with its record where it waits for an answer (R139, R161). -/
theorem submitCommandJob (hs : Sound s) {port : Port} {k n : Nat} {u : CommandUse}
    (hslot : quotaSpent port s = false)
    (hplace : (askedOwner s port u.pair u.opcode).isSome = true → s.channel.concur.length < Config.concurPlaces) :
    Sound (submitCommandJob port k n u s) := by
  have hstand : ∀ asked, ∀ c, (commandJob port k n u asked).cmd = some c → c.standLaw := by
    intro asked c hc
    obtain rfl := Option.some.inj hc
    exact ⟨iff_of_false nofun nofun, nofun⟩
  have hjoin := fun asked => (JobsKeep.addJob (mayJoin_commandJob hslot k n u asked)).law hs.jobs
  have hconcur := hs.concur.1
  unfold Machine.submitCommandJob
  dsimp only
  cases hasked : askedOwner s port u.pair u.opcode with
  | none =>
    dsimp only
    have hadd : Sound (s.addJob (commandJob port k n u none)) := by
      refine hs.join (rs := []) (hjoin none) (State.addJob_jobs ..) (by simp) rfl rfl rfl (fun _ => rfl) nofun
        (by simpa using hconcur) (by simp) (by simp) nofun (hstand none) fun c p hc hp hshared => ?_
      obtain rfl := Option.some.inj hc
      exact ⟨nofun, fun _ => commandConsent (Option.some.inj hp) hasked hshared k n⟩
    unfold Machine.acceptJob
    exact hadd.becameEligible _
  | some o =>
    dsimp only
    have howner : (s.pair (partner u.pair)).owner = some o := by
      unfold askedOwner at hasked
      split at hasked
      · split at hasked
        · exact absurd hasked nofun
        · next h =>
          split at hasked
          · exact absurd hasked nofun
          · rw [h, Option.some.inj hasked]
      · exact absurd hasked nofun
    have hroom : s.channel.concur.length < 4 := hplace (by rw [hasked]; rfl)
    generalize ht : openRecord (askRecord port o u s)
      (Machine.acceptJob (commandJob port k n u (some o)) s) = t
    have hjobs : t.sched = (s.addJob (commandJob port k n u (some o))).sched := by
      rw [← ht, openRecord_sched]
      rfl
    have hchannel : t.channel = { s.channel with concur := s.channel.concur ++ [askRecord port o u s] } := by
      rw [← ht, openRecord, raiseNotice_channel]
      rfl
    refine hs.join (rs := [askRecord port o u s]) (k := { commandJob port k n u (some o) with
      number := nextNumber s.sched.lastNumber s.sched.jobs }) ((JobsKeep.of_jobs (by rw [hjobs])).law (hjoin (some o)))
      (hjobs ▸ State.addJob_jobs ..) (by rw [hchannel]) (by rw [hchannel]) (by rw [← ht]; simp; rfl) ?_ ?_
      nofun ?_ (by simp) ?_ ?_ (hstand (some o)) ?_
    · rw [← ht, openRecord_seq]
      rfl
    · intro p
      rw [← ht, State.pair, openRecord_lineMap]
      rfl
    · rw [List.length_append]
      exact hroom
    · intro r hr
      obtain rfl := List.mem_singleton.mp hr
      exact ⟨rfl, rfl, rfl, rfl, howner⟩
    · exact fun _ => ⟨_, List.mem_singleton.mpr rfl, rfl⟩
    · intro c p hc _ _
      obtain rfl := Option.some.inj hc
      exact ⟨nofun, fun h => absurd rfl h⟩

/-- The answer yes: the job is QUEUED, and the port asked has consented (R162). -/
theorem consent_sound (hs : Sound s) {n : Nat} {r : ConcurRec} (hrec : s.concurOf n = some r) :
    Sound (Machine.consent r.asked n s) := by
  have hr : r ∈ s.channel.concur := List.mem_of_find?_eq_some hrec
  have hrn : r.job = n := by simpa using List.find?_some hrec
  obtain ⟨k, hk, hkn, hkw, -, hkp⟩ := hs.concur.2.2.1 r hr
  have howner := hs.consent.1 r hr
  have hjobs := (jobsKeep_consent r.asked n s).law hs.jobs
  have hmem : ∀ j ∈ (Machine.consent r.asked n s).sched.jobs, (j ∈ s.sched.jobs ∧ j.number ≠ n) ∨
      j.number = n ∧ j.state = .queued ∧ j.pair = k.pair ∧
        j.cmd = k.cmd.map (fun c => { c with basis := .given, askedPort := some r.asked }) := by
    intro j hj
    obtain ⟨i, hi, rfl⟩ := List.mem_map.mp hj
    split
    · next hn =>
      obtain rfl := hs.jobs.eq_of_number hi hk (hn.trans (hkn.trans hrn).symm)
      exact .inr ⟨hn, rfl, rfl, rfl⟩
    · next hn => exact .inl ⟨hi, hn⟩
  have hkeep : ∀ i ∈ s.sched.jobs, i.number ≠ n → i ∈ (Machine.consent r.asked n s).sched.jobs := fun i hi hn =>
    List.mem_map.mpr ⟨i, hi, if_neg hn⟩
  have hactive : ∀ i ∈ s.sched.jobs, i.state = .active → i.number ≠ n := by
    intro i hi hact hn
    obtain rfl := hs.jobs.eq_of_number hi hk (hn.trans (hkn.trans hrn).symm)
    exact absurd (hact.symm.trans hkw) nofun
  have hconcur : (Machine.consent r.asked n s).channel.concur = s.channel.concur.filter (fun r => r.job ≠ n) := rfl
  refine ⟨hjobs, ⟨?_, ?_, fun q hq => ?_, fun j hj hw => ?_⟩, fun q hq => ?_, ⟨fun hx => ?_, hs.exchange.2⟩,
    fun j hj c hc => ?_, ⟨fun q hq => ?_, fun j hj c p hc hp hshared hstate hdone => ?_⟩,
    fun j hj c p hc hp hshared hsend hjob hword o ho => ?_⟩
  · exact (List.length_filter_le _ _).trans hs.concur.1
  · exact hs.concur.2.1.sublist (List.filter_sublist.map _)
  · rw [hconcur, List.mem_filter] at hq
    obtain ⟨i, hi, hin, h⟩ := hs.concur.2.2.1 q hq.1
    exact ⟨i, hkeep i hi (hin ▸ by simpa using hq.2), hin, h⟩
  · rcases hmem j hj with ⟨hj, hn⟩ | ⟨-, hq, -⟩
    · obtain ⟨q, hq, hqn⟩ := hs.concur.2.2.2 j hj hw
      exact ⟨q, List.mem_filter.mpr ⟨hq, by simpa [hqn] using hn⟩, hqn⟩
    · exact absurd (hq.symm.trans hw) nofun
  · obtain ⟨hphase, i, hi, hin, hact, h⟩ := hs.pass q hq
    exact ⟨hphase, i, hkeep i hi (hactive i hi hact), hin, hact, h⟩
  · obtain ⟨⟨i, hi, hin, hact, h⟩, hrest⟩ := hs.exchange.1 hx
    exact ⟨⟨i, hkeep i hi (hactive i hi hact), hin, hact, h⟩, hrest⟩
  · rcases hmem j hj with ⟨hj, -⟩ | ⟨-, -, -, hcmd⟩
    · exact hs.stand j hj c hc
    · obtain ⟨d, hd, rfl⟩ := Option.map_eq_some_iff.mp (hcmd.symm.trans hc)
      exact hs.stand k hk d hd
  · rw [hconcur, List.mem_filter] at hq
    exact hs.consent.1 q hq.1
  · rcases hmem j hj with ⟨hj, -⟩ | ⟨-, -, hpair, hcmd⟩
    · exact hs.consent.2 j hj c p hc hp hshared hstate hdone
    · obtain ⟨d, hd, rfl⟩ := Option.map_eq_some_iff.mp (hcmd.symm.trans hc)
      refine ⟨nofun, fun _ _ => ?_⟩
      have hp' : r.pair = p := Option.some.inj (hkp.symm.trans (hpair.symm.trans hp))
      have ho : ((Machine.consent r.asked n s).pair (partner p)).owner = some r.asked := hp' ▸ howner
      rw [ho]
      simp [consentCovers, hc]
  · rcases hmem j hj with ⟨hj, -⟩ | ⟨hn, -⟩
    · exact hs.word j hj c p hc hp hshared hsend hjob hword o ho
    · have hsend' : s.channel.exchange.phase = .sending := hsend
      have hjob' : s.channel.exchange.job = j.number := hjob
      obtain ⟨i, hi, hin, hact, -⟩ := hs.exchange_job (by rw [hsend']; nofun)
      exact absurd (hin.trans (hjob'.trans hn)) (hactive i hi hact)

theorem consentState (hs : Sound s) {n : Nat} {r : ConcurRec} (hrec : s.concurOf n = some r) :
    Sound (consentState r.asked n s) := by
  have hgiven := hs.consent_sound hrec
  unfold Machine.consentState
  dsimp only
  split
  · exact hgiven.becameEligible _
  · exact hgiven

/-- An open record is closed and its job ends (R162, R163). -/
theorem endAsked (hs : Sound s) {n : Nat} {r : ConcurRec} (hrec : s.concurOf n = some r) (o : JobOutcome) :
    Sound (Machine.endJob n o (s.removeConcur n)) := by
  have hrn : r.job = n := by simpa using List.find?_some hrec
  obtain ⟨k, hk, hkn, hkw, -⟩ := hs.concur.2.2.1 r (List.mem_of_find?_eq_some hrec)
  refine hs.endWaiting o fun j hj hn => ?_
  obtain rfl := hs.jobs.eq_of_number hj hk (hn.trans (hkn.trans hrn).symm)
  simp [hkw]

/-- CANCEL_JOB by the state of the job (R130, R157). -/
theorem cancelState (hs : Sound s) {n : Nat} {j : Job} (hjob : s.job? n = some j) : Sound (cancelState j s) := by
  obtain ⟨hj, -⟩ := job?_mem hjob
  have hone : ∀ i ∈ s.sched.jobs, i.number = j.number → i = j := fun i hi hn => hs.jobs.eq_of_number hi hj hn
  have hhold : Sound (holdCancel j s) := by
    unfold holdCancel
    exact hs.setJob _ fun _ => ⟨rfl, rfl, rfl, rfl, rfl, rfl⟩
  have hremove : Sound (Machine.endJob j.number .cancelled (s.removeConcur j.number)) ∨ j.state = .active := by
    by_cases hact : j.state = .active
    · exact .inr hact
    · exact .inl (hs.endWaiting _ fun i hi hn => hone i hi hn ▸ hact)
  have hpass : j.state = .active → s.channel.exchange.phase = .idle → Sound (cancelPass j s) := by
    intro hact hphase
    unfold cancelPass
    split
    · exact hhold
    · exact hs.dropPass.endAtPassEnd ⟨rfl, rfl, hphase⟩ hj hact rfl _
  have hplain : j.state ≠ .waitConcur → s.removeConcur j.number = s := fun hw =>
    removeConcur_eq_self hs.concur fun i hi hn => hone i hi hn ▸ hw
  unfold Machine.cancelState
  split
  · next hst =>
    rw [← hplain (by simp [hst])]
    exact (hremove.resolve_right (by simp [hst]))
  · next hst =>
    rw [← hplain (by simp [hst])]
    exact (hremove.resolve_right (by simp [hst]))
  · next hst => exact hremove.resolve_right (by simp [hst])
  · next hst =>
    split
    · unfold cancelCommand
      split
      · exact hpass hst ‹_›
      · exact hhold
    · next hkind =>
      refine hpass hst (hs.phase_idle_of_active hj hst fun c hc => ?_)
      exact absurd ((hs.jobs.2.2.1 j hj).1.mp (by simp [hc])) hkind
  · exact hs

end Sound

end Sys2Proof.Machine
end

section
/-! The joint law of work and consent through the events of an exchange (R28, R73 to R75, R143 to R157; O57). -/

namespace Sys2Proof.Machine

theorem Shift.of_before {s s' t : State} (h : Shift s' t) (hjobs : s'.sched.jobs = s.sched.jobs)
    (hconcur : s'.channel.concur = s.channel.concur) (howner : ∀ p, (s'.pair p).owner = (s.pair p).owner) :
    Shift s t := by
  obtain ⟨hown, hsub, hback, hkept, hleft⟩ := h
  rw [hconcur] at hsub hleft
  rw [hjobs] at hback hkept
  exact ⟨fun p => (hown p).trans (howner p), hsub, hback, hkept, hleft⟩

namespace Sound

variable {s : State}

/-! ### The word end (R28, R73) -/

theorem wordEnd (hs : Sound s) (hdue : wordDue s = true) : Sound (afterWord (enterReply s)) := by
  have htone : s.seq.state = .tone := (by simpa [wordDue] using hdue : _ ∧ _).1
  by_cases hsend : s.channel.exchange.phase = .sending
  · obtain ⟨⟨i, hi, hn, hact, ⟨c, hc, hstarted, hdone⟩, p, prof, hp, hcur⟩, hheld, -, -⟩ :=
      hs.exchange.1 (by rw [hsend]; nofun)
    have hjob : s.job? s.channel.exchange.job = some i := hn ▸ hs.jobs.job?_eq hi
    have hreply : enterReply s = { (s.setExchange { s.channel.exchange with
          phase := .reply, wordEnd := s.lineTime, slots := []
          endChip := slotStartChip (slotSetup s p i c).lag (slotSetup s p i c).chipUs
            (slotSetup s p i c).slotUnits 10 }) with
        corr := { Correlator.idleReset with state := .slot, slot := some (slotSetup s p i c) } } := by
      unfold enterReply
      simp only [if_pos hsend, hjob, hp, hc]
    have hseq : afterWord (enterReply s) = enterFilling p prof (enterReply s) := by
      unfold afterWord
      simp only [enterReply_seq, hcur, hheld]
    rw [hseq, hreply]
    generalize hu : enterFilling p prof _ = u
    have hshift : Shift s u := .of_eq (hu ▸ rfl) (hu ▸ rfl) (fun p => hu ▸ rfl)
    have hx : u.channel.exchange.phase = .reply ∧ u.channel.exchange.job = s.channel.exchange.job := hu ▸ ⟨rfl, rfl⟩
    have hrun : u.seq.current = some (p, prof) ∧ u.seq.held = none ∧ u.seq.state = .filling := hu ▸ ⟨rfl, rfl, rfl⟩
    have hpass : u.corr.pass = none := hu ▸ rfl
    have hjobs : u.sched.jobs = s.sched.jobs := hu ▸ rfl
    refine ⟨(JobsKeep.of_jobs hjobs).law hs.jobs, hshift.concurLaw hs, fun r hr => absurd (hpass.symm.trans hr) nofun,
      ⟨fun _ => ⟨⟨i, hjobs ▸ hi, hn.trans hx.2.symm, hact, ⟨c, hc, hstarted, fun h => ?_⟩, p, prof, hp, hrun.1⟩,
        hrun.2.1, fun h => absurd (hx.1.symm.trans h) nofun, fun _ => .inl hrun.2.2⟩, fun _ => hx.1⟩,
      hshift.stand hs, hshift.consentLaw hs fun _ _ _ _ _ _ _ _ hin => ?_,
      fun _ _ _ _ _ _ _ h => absurd (hx.1.symm.trans h) nofun⟩
    · exact absurd (hsend.symm.trans (hdone h).1) nofun
    · simp only [inExchange, Bool.and_eq_true, decide_eq_true_eq] at hin ⊢
      exact ⟨by simp [hx.1], hx.2.trans hin.2⟩
  · have hidle : s.channel.exchange.phase = .idle := by
      by_contra hx
      obtain ⟨-, -, -, hrun⟩ := hs.exchange.1 hx
      rw [htone] at hrun
      exact absurd (hrun hsend) (by simp)
    have hsame : enterReply s = s := by
      unfold enterReply
      simp only [if_neg hsend]
    rw [hsame]
    exact hs.of_seq hidle (by simp) (by simp) (by simp) (by simp)

end Sound

/-! ### The word decided (R145 to R148) -/

/-- The command fields after a word is decided: the reply noted and, after a success, the progress moved. -/
def CommandFields.decided (o : WordOutcome) (w : CmdWord) (r : Option Reply) (c : CommandFields) : CommandFields :=
  match o with
  | .succeeded => advanceCommand w { c with reply := noteReply w r c.reply }
  | .retry | .exhausted | .refused => { c with reply := noteReply w r c.reply }

theorem CommandFields.decided_follows {c : CommandFields} (o : WordOutcome) (w : CmdWord) (r : Option Reply)
    (hdone : c.completed = false) (hstarted : c.wordStarted = true) : (c.decided o w r).Follows c := by
  cases o with
  | succeeded =>
    refine ⟨rfl, rfl, rfl, id, fun h => absurd h (by simp [hdone]), fun _ => ⟨?_, fun _ => hstarted⟩⟩
    exact decide_eq_true_iff
  | retry | exhausted | refused => exact ⟨rfl, rfl, rfl, id, id, id⟩

/-- A word that completes its command has succeeded (R147). -/
theorem CommandFields.succeeded_of_decided {c : CommandFields} {o : WordOutcome} {w : CmdWord} {r : Option Reply}
    (hdone : c.completed = false) (h : (c.decided o w r).completed = true) : o = .succeeded := by
  cases o with
  | succeeded => rfl
  | retry | exhausted | refused => exact absurd h (by simp [CommandFields.decided, hdone])

theorem decideWord_jobs {s : State} {j : Job} {p : PairNo} {c : CommandFields} (retryMax : Nat)
    (hjob : s.job? s.channel.exchange.job = some j) (hpair : j.pair = some p) (hcmd : j.cmd = some c) :
    (decideWord retryMax s).sched.jobs = s.sched.jobs.map (fun i => if i.number = j.number then
      { i with cmd := i.cmd.map (.decided (wordOutcome retryMax s) s.channel.exchange.word
        (readReply s.channel.exchange.slots)) } else i) := by
  rw [decideWord_of_job retryMax hjob hpair hcmd]
  generalize wordOutcome retryMax s = o
  cases o with
  | retry => rfl
  | exhausted =>
    unfold actOnWord wordExhausted
    rw [bumpStat_jobs, writeJobToggle_sched]
    rfl
  | refused =>
    unfold actOnWord
    rw [writeJobToggle_sched]
    rfl
  | succeeded =>
    have hjobs : (actOnWord .succeeded j p c s.channel.exchange (notedWord retryMax j s)).sched.jobs =
        ((notedWord retryMax j s).setCmd j.number (advanceCommand s.channel.exchange.word)).sched.jobs := by
      unfold actOnWord wordSucceeded
      dsimp only
      split
      · rw [completeCommand_sched, State.setCmd, State.setJob_jobs, writeJobToggle_sched]
        rfl
      · rw [State.setCmd, State.setJob_jobs, writeJobToggle_sched]
        rfl
    rw [hjobs, State.setCmd, State.setJob_jobs, notedWord, State.setCmd, State.setJob_jobs, List.map_map]
    refine List.map_congr_left fun i _ => ?_
    simp only [Function.comp_apply]
    by_cases hn : i.number = j.number
    · simp only [hn, if_true, Option.map_map]
      rfl
    · simp only [hn, if_false]

theorem decideWord_exchange {s : State} (retryMax : Nat) : (decideWord retryMax s).channel =
    { s.channel with exchange := { s.channel.exchange with
      phase := .decided, outcome := some (wordOutcome retryMax s) } } := by
  rcases decideWord_cases retryMax s with h | ⟨j, p, c, -, -, -, h⟩ <;> rw [h]
  · rfl
  · have hnoted : (notedWord retryMax j s).channel = (decidedWord retryMax s).channel := rfl
    unfold actOnWord
    split <;> simp only [wordExhausted_channel, writeJobToggle_channel, wordSucceeded_channel, hnoted] <;> rfl

namespace Sound

variable {s : State}

/-- The last slot's result decides the word (R145 to R148). -/
theorem decideWord (hs : Sound s) (retryMax : Nat) (hreply : s.channel.exchange.phase = .reply)
    (hslot : s.corr.slot = none) : Sound (decideWord retryMax s) := by
  obtain ⟨⟨i, hi, hn, hact, ⟨c, hc, hstarted, hdone⟩, p, prof, hp, hcur⟩, hheld, -, hrun⟩ :=
    hs.exchange.1 (by rw [hreply]; nofun)
  have hundone : c.completed = false := Bool.eq_false_iff.mpr fun h => absurd (hreply.symm.trans (hdone h).1) nofun
  have hjobs := decideWord_jobs retryMax (hn ▸ hs.jobs.job?_eq hi) hp hc
  have hlaw := (jobsKeep_decideWord retryMax s).law hs.jobs
  have hchannel := decideWord_exchange (s := s) retryMax
  have hcorr := decideWord_corr s retryMax
  have hseq := decideWord_seq s retryMax
  have hpair := (SameMap.decideWord retryMax s).pair
  generalize Machine.decideWord retryMax s = u at *
  have hx : u.channel.exchange.phase = .decided ∧ u.channel.exchange.job = s.channel.exchange.job ∧
      u.channel.exchange.outcome = some (wordOutcome retryMax s) := hchannel ▸ ⟨rfl, rfl, rfl⟩
  have hshift : Shift s u := by
    refine .of_map hjobs (fun k hk => ?_) (by rw [hchannel]) fun q => by rw [hpair]
    split
    · next hkn =>
      obtain rfl := hs.jobs.eq_of_number hk hi hkn
      refine ⟨⟨rfl, rfl, rfl, rfl, ?_⟩, .inl rfl⟩
      rw [hc]
      exact .some (CommandFields.decided_follows _ _ _ hundone hstarted)
    · exact .refl k
  have hmem : { i with cmd := some (c.decided (wordOutcome retryMax s) s.channel.exchange.word
      (readReply s.channel.exchange.slots)) } ∈ u.sched.jobs := by
    rw [hjobs]
    exact List.mem_map.mpr ⟨i, hi, by rw [if_pos rfl, hc]; rfl⟩
  have hpass : s.corr.pass = none := by
    by_contra h
    obtain ⟨r, hr⟩ := Option.ne_none_iff_exists'.mp h
    exact absurd (hreply.symm.trans (hs.phase_idle_of_pass hr)) nofun
  refine ⟨hlaw, hshift.concurLaw hs, fun r hr => absurd ((hcorr ▸ hpass).symm.trans hr) nofun,
    ⟨fun _ => ⟨⟨_, hmem, hn.trans hx.2.1.symm, hact, ⟨_, rfl, ?_, fun h => ⟨hx.1, ?_⟩⟩, p, prof, hp, hseq ▸ hcur⟩,
      hseq ▸ hheld, fun h => absurd (hx.1.symm.trans h) nofun, fun _ => hseq ▸ hrun (by rw [hreply]; nofun)⟩,
      fun h => absurd (hcorr ▸ hslot) h⟩,
    hshift.stand hs, hshift.consentLaw hs fun _ _ _ _ _ _ _ _ hin => ?_,
    fun _ _ _ _ _ _ _ h => absurd (hx.1.symm.trans h) nofun⟩
  · exact (CommandFields.decided_follows _ _ _ hundone hstarted).started hstarted
  · rw [hx.2.2, CommandFields.succeeded_of_decided hundone h]
  · simp only [inExchange, Bool.and_eq_true, decide_eq_true_eq] at hin ⊢
    exact ⟨by simp [hx.1], hx.2.1.trans hin.2⟩

/-! ### The exchange end (R155, R157, R165) -/

theorem runsOn_of_exchange {p : PairNo} {prof : Profile} (hcur : s.seq.current = some (p, prof))
    (hrun : s.seq.state = .filling ∨ s.seq.state = .steady) : runsOn s.seq p = true := by
  rcases hrun with h | h <;> simp [runsOn, h, hcur]

/-- The exchange's job ends with the exchange. -/
theorem endAtExchange (hs : Sound s) {j : Job} (hj : j ∈ s.sched.jobs) (hact : j.state = .active)
    (hnumber : j.number = s.channel.exchange.job) (hpass : s.corr.pass = none) (hslot : s.corr.slot = none)
    {u : State} (hjobs : u.sched.jobs = s.sched.jobs) (hconcur : u.channel.concur = s.channel.concur)
    (howner : ∀ p, (u.pair p).owner = (s.pair p).owner) (hcorr : u.corr = s.corr)
    (hx : u.channel.exchange = Exchange.none) (o : JobOutcome) : Sound (Machine.endJob j.number o u) := by
  have hremove : u.removeConcur j.number = u := by
    refine removeConcur_eq_self ?_ fun i hi hn => ?_
    · have h := hs.concur
      unfold ConcurLaw at h ⊢
      rwa [hjobs, hconcur]
    · obtain rfl := hs.jobs.eq_of_number (hjobs ▸ hi) hj hn
      simp [hact]
  have hshift := shift_endJob u j.number o
  rw [hremove] at hshift
  refine (hshift.of_before hjobs hconcur howner).sound_idle hs ?_ ?_ fun i hi _ _ _ hended _ _ => ?_
  · exact (JobsKeep.trans (.of_jobs hjobs) (.endJob ..)).law hs.jobs
  · exact ⟨by rw [endJob_corr, hcorr, hpass], by rw [endJob_corr, hcorr, hslot], by rw [endJob_channel, hx]; rfl⟩
  · rcases mem_endJob hi with ⟨-, hn⟩ | ⟨h, -⟩
    · rw [hnumber] at hn
      simp [inExchange, Ne.symm hn]
    · exact absurd h hended

/-- The cases of the exchange end (R155). -/
theorem afterExchange (hs : Sound s) {j : Job} {c : CommandFields} (hdecided : s.channel.exchange.phase = .decided)
    (hjob : s.job? s.channel.exchange.job = some j) (hcmd : j.cmd = some c) :
    Sound (afterExchange j c s.channel.exchange (s.setExchange Exchange.none)) := by
  obtain ⟨⟨i, hi, hn, hact, ⟨d, hd, hstarted, hdone⟩, p, prof, hp, hcur⟩, -, -, hrun⟩ :=
    hs.exchange.1 (by rw [hdecided]; nofun)
  obtain ⟨hj, hjn⟩ := job?_mem hjob
  obtain rfl := hs.jobs.eq_of_number hi hj (hn.trans hjn.symm)
  obtain rfl : d = c := Option.some.inj (hd.symm.trans hcmd)
  have hpass : s.corr.pass = none := by
    by_contra h
    obtain ⟨r, hr⟩ := Option.ne_none_iff_exists'.mp h
    exact absurd (hdecided.symm.trans (hs.phase_idle_of_pass hr)) nofun
  have hslot : s.corr.slot = none := by
    by_contra h
    exact absurd (hdecided.symm.trans (hs.exchange.2 h)) nofun
  have hidle : PathIdle (s.setExchange Exchange.none) := ⟨hpass, hslot, rfl⟩
  have hruns : runsOn (s.setExchange Exchange.none).seq p = true :=
    runsOn_of_exchange hcur (hrun (by rw [hdecided]; nofun))
  have hend : ∀ o, Sound (Machine.arbitrate (Machine.endJob i.number o (s.setExchange Exchange.none))) := fun o =>
    (hs.endAtExchange (u := s.setExchange Exchange.none) hi hact hn hpass hslot rfl rfl (fun _ => rfl) rfl rfl o).arbitrate
  have hunresolved : ∀ o out, Sound (endUnresolved i o out (s.setExchange Exchange.none)) := by
    intro o out
    unfold endUnresolved
    refine (hs.endAtExchange hi hact hn hpass hslot ?_ ?_ (fun q => ?_) ?_ ?_ out).arbitrate
    · split
      · rw [writeJobToggle_sched]
        rfl
      · rfl
    · split
      · rw [writeJobToggle_channel]
        rfl
      · rfl
    · split
      · rw [(SameMap.writeJobToggle ..).pair]
        rfl
      · rfl
    · split
      · rw [writeJobToggle_corr]
        rfl
      · rfl
    · split
      · rw [writeJobToggle_channel]
        rfl
      · rfl
  unfold Machine.afterExchange
  split
  · exact hunresolved ..
  · split
    · exact hunresolved ..
    · next hlapsed =>
      have hfree : Sound (s.setExchange Exchange.none) := by
        refine Shift.sound_idle (s := s) (.of_eq rfl rfl fun _ => rfl) hs ((JobsKeep.of_jobs rfl).law hs.jobs) hidle
          fun k hk e he _ _ hedone hebasis => ?_
        rw [inExchange, Bool.and_eq_false_iff]
        refine .inr (decide_eq_false fun hkn => ?_)
        obtain rfl := hs.jobs.eq_of_number hk hi (hkn.symm.trans hn.symm)
        obtain rfl : e = d := Option.some.inj (he.symm.trans hd)
        exact hlapsed ⟨hebasis, hedone⟩
      have hundone : s.channel.exchange.outcome ≠ some .succeeded → d.completed = false := fun ho =>
        Bool.eq_false_iff.mpr fun h => ho (hdone h).2
      split
      · next ho => exact hfree.startWord hidle hi hact rfl rfl rfl hp hd (hundone (by rw [ho]; nofun)) hruns ..
      · exact hend _
      · exact hend _
      · have hstand := hs.stand i hi d hd
        split
        · next w hw =>
          refine hfree.startWord hidle hi hact rfl rfl rfl hp hd (Bool.eq_false_iff.mpr fun h => ?_) hruns ..
          exact absurd (hw.symm.trans (hstand.1.mp h)) nofun
        · next hw =>
          split
          · have hkind : i.kind = .command := (hs.jobs.2.2.1 i hi).1.mp (by simp [hd])
            refine hfree.runPass hidle ⟨i, hi, rfl, hact, by simp [hkind], rfl, fun e he => ?_⟩
            obtain rfl : e = d := Option.some.inj (he.symm.trans hd)
            exact hstand.1.mpr hw
          · exact hend _
      · exact hfree

end Sound

end Sys2Proof.Machine
end

section
/-! The joint law of work and consent through ASSIGN and the resets, and every step (O57). -/

namespace Sys2Proof.Machine

theorem partner_partner : ∀ p : PairNo, partner (partner p) = p := by decide

/-! ### ASSIGN (R14, R165) -/

/-- A job whose consent has lapsed (R165): in an exchange it runs on, else it has ended. -/
def Job.lapsed (running : Bool) (j : Job) : Job :=
  let lapse := { j with cmd := j.cmd.map (fun c => { c with basis := .lapsed }) }
  if running then lapse else lapse.endedWith .declined

@[simp] theorem Job.lapsed_number (b : Bool) (j : Job) : (j.lapsed b).number = j.number := by
  cases b <;> rfl

@[simp] theorem Job.lapsed_requester (b : Bool) (j : Job) : (j.lapsed b).requester = j.requester := by
  cases b <;> rfl

@[simp] theorem Job.lapsed_pair (b : Bool) (j : Job) : (j.lapsed b).pair = j.pair := by
  cases b <;> rfl

@[simp] theorem Job.lapsed_cmd (b : Bool) (j : Job) :
    (j.lapsed b).cmd = j.cmd.map (fun c => { c with basis := .lapsed }) := by
  cases b <;> rfl

theorem Job.lapsed_lapsed (b : Bool) (j : Job) : (j.lapsed b).lapsed b = j.lapsed b := by
  cases b <;> simp [Job.lapsed, Job.endedWith, Function.comp_def]

theorem endJob_jobs_of_port {n : Nat} (o : JobOutcome) {s : State}
    (h : ∀ j ∈ s.sched.jobs, j.number = n → j.requester ≠ .internal) :
    (endJob n o s).sched.jobs = s.sched.jobs.map (fun j => if j.number = n then j.endedWith o else j) := by
  cases hjob : s.job? n with
  | none =>
    rw [endJob_of_none o hjob]
    refine ((List.map_congr_left fun j hj => ?_).trans (List.map_id _)).symm
    exact if_neg (by simpa using List.find?_eq_none.mp hjob j hj)
  | some j =>
    obtain ⟨hj, hn⟩ := job?_mem hjob
    cases hr : j.requester with
    | internal => exact absurd hr (h j hj hn)
    | port p => rw [endJob_of_port o hjob hr, raiseNotice_sched, State.setResults_jobs, State.setJob_jobs]

theorem lapseJob_jobs {s : State} {k : Job} (h : ∀ j ∈ s.sched.jobs, j.number = k.number → j.requester ≠ .internal) :
    (lapseJob k s).sched.jobs = s.sched.jobs.map (fun i =>
      if i.number = k.number then i.lapsed (inExchange s k.number) else i) := by
  generalize hu : s.setCmd k.number (fun c => { c with basis := .lapsed }) = u
  have hlapse : lapseJob k s = if inExchange s k.number then u else endJob k.number .declined u := by
    rw [← hu]
    rfl
  have hjobs : u.sched.jobs = s.sched.jobs.map (fun i => if i.number = k.number then i.lapsed true else i) :=
    hu ▸ rfl
  rw [hlapse]
  cases inExchange s k.number with
  | true => exact hjobs
  | false =>
    rw [if_neg (by simp), endJob_jobs_of_port, hjobs, List.map_map]
    · refine List.map_congr_left fun i _ => ?_
      simp only [Function.comp_apply]
      by_cases hn : i.number = k.number
      · simp [hn, Job.lapsed]
      · simp [hn]
    · intro j hj hn
      obtain ⟨i, hi, rfl⟩ := List.mem_map.mp (hjobs ▸ hj)
      split
      · rw [Job.lapsed_requester]
        exact h i hi ‹_›
      · exact h i hi (by rwa [if_neg ‹_›] at hn)

/-- The jobs after the consents of some jobs have lapsed, one after the other. -/
theorem foldl_lapseJob_jobs (l : List Job) : ∀ {s : State},
    (∀ k ∈ l, ∀ j ∈ s.sched.jobs, j.number = k.number → j.requester ≠ .internal) →
    (l.foldl (fun s j => lapseJob j s) s).sched.jobs = s.sched.jobs.map (fun i =>
      if i.number ∈ l.map Job.number then i.lapsed (inExchange s i.number) else i) := by
  induction l with
  | nil =>
    intro s _
    simp
  | cons k l ih =>
    intro s h
    have hjobs := lapseJob_jobs (h k List.mem_cons_self)
    have hin : ∀ n, inExchange (lapseJob k s) n = inExchange s n := fun n => by
      rw [inExchange, inExchange, lapseJob_channel]
    rw [List.foldl_cons, ih, hjobs, List.map_map]
    · refine List.map_congr_left fun i _ => ?_
      simp only [Function.comp_apply, hin, List.map_cons, List.mem_cons]
      by_cases hn : i.number = k.number
      · simp [hn, Job.lapsed_lapsed]
      · simp [hn]
    · intro k' hk' j hj hn
      obtain ⟨i, hi, rfl⟩ := List.mem_map.mp (hjobs ▸ hj)
      split
      · next hnk =>
        rw [Job.lapsed_requester]
        exact h k' (List.mem_cons_of_mem _ hk') i hi (by rwa [if_pos hnk, Job.lapsed_number] at hn)
      · next hnk => exact h k' (List.mem_cons_of_mem _ hk') i hi (by rwa [if_neg hnk] at hn)

theorem consentBearing_iff {p : PairNo} {j : Job} : consentBearing p j = true ↔
    j.kind = .command ∧ j.pair = some (partner p) ∧ j.state ≠ .ended ∧
      ∃ c, j.cmd = some c ∧ sharedEffect c.opcode = true ∧ c.completed = false := by
  unfold consentBearing
  cases j.cmd <;> simp [and_assoc]

/-- The jobs whose consent an ASSIGN withdraws (R165). -/
def lapsing (p : PairNo) (o : Option Port) (s : State) : List Job :=
  s.sched.jobs.filter (fun j => consentBearing p j && !consentCovers o j)

theorem mem_lapsing {p : PairNo} {o : Option Port} {s : State} {j : Job} :
    j ∈ lapsing p o s ↔ j ∈ s.sched.jobs ∧ consentBearing p j = true ∧ consentCovers o j = false := by
  simp [lapsing]

/-- The state of an ASSIGN before the arbiter decides. -/
def lapsedState (p : PairNo) (o : Option Port) (s : State) : State :=
  (lapsing p o s).foldl (fun s j => lapseJob j s) (setOwner p o s)

theorem assignState_eq (p : PairNo) (o : Option Port) (s : State) :
    assignState p o s = arbitrate (lapsedState p o s) := rfl

theorem lapsedState_jobs {s : State} (hlaw : JobsLaw s) (p : PairNo) (o : Option Port) :
    (lapsedState p o s).sched.jobs = s.sched.jobs.map (fun i =>
      if i ∈ lapsing p o s then i.lapsed (inExchange s i.number) else i) := by
  unfold lapsedState
  rw [foldl_lapseJob_jobs]
  · refine List.map_congr_left fun i hi => ?_
    have hiff : i.number ∈ (lapsing p o s).map Job.number ↔ i ∈ lapsing p o s := by
      refine ⟨fun h => ?_, List.mem_map_of_mem⟩
      obtain ⟨k, hk, hn⟩ := List.mem_map.mp h
      exact hlaw.eq_of_number (mem_lapsing.mp hk).1 hi hn ▸ hk
    have hin : inExchange (setOwner p o s) i.number = inExchange s i.number := rfl
    simp only [hiff, hin]
  · intro k hk j hj hn
    obtain ⟨hks, hbearing, -⟩ := mem_lapsing.mp hk
    obtain ⟨hkind, -⟩ := consentBearing_iff.mp hbearing
    obtain rfl : j = k := hlaw.eq_of_number hj hks hn
    have hlawj := (hlaw.2.2.1 j hks).2
    rw [hkind] at hlawj
    exact hlawj

theorem lapsedState_owner (p q : PairNo) (o : Option Port) (s : State) :
    ((lapsedState p o s).pair q).owner = if q = p then o else (s.pair q).owner := by
  have hmap : (lapsedState p o s).lineMap = (setOwner p o s).lineMap :=
    foldl_keep State.lineMap _ (fun _ _ => lapseJob_lineMap ..) _ _
  have hpair : (lapsedState p o s).pair q = (setOwner p o s).pair q := by rw [State.pair, State.pair, hmap]
  rw [hpair, setOwner, State.pair_setPair]
  by_cases hq : q = p
  · simp [hq]
  · simp [hq, Ne.symm hq]

theorem lapsedState_channel (p : PairNo) (o : Option Port) (s : State) :
    (lapsedState p o s).channel = s.channel := foldl_keep State.channel _ (fun _ _ => lapseJob_channel ..) _ _

theorem lapsedState_corr (p : PairNo) (o : Option Port) (s : State) :
    (lapsedState p o s).corr = s.corr := foldl_keep State.corr _ (fun _ _ => lapseJob_corr ..) _ _

theorem lapsedState_seq (p : PairNo) (o : Option Port) (s : State) :
    (lapsedState p o s).seq = s.seq := foldl_keep State.seq _ (fun _ _ => lapseJob_seq ..) _ _

theorem sharedWordSending_of_job {s : State} {p : PairNo} {j : Job} {c : CommandFields} (hj : j ∈ s.sched.jobs)
    (hp : j.pair = some (partner p)) (hc : j.cmd = some c) (hshared : sharedEffect c.opcode = true)
    (hsend : s.channel.exchange.phase = .sending) (hjob : s.channel.exchange.job = j.number)
    (hword : s.channel.exchange.word ≠ .nopPrefix) : sharedWordSending s p = true := by
  simp only [sharedWordSending, Bool.and_eq_true, decide_eq_true_eq, List.any_eq_true]
  exact ⟨⟨hsend, hword⟩, j, hj, ⟨hjob.symm, hp⟩, by simp [hc, hshared]⟩

/-- An ASSIGN that is not BUSY keeps the laws: the consents it withdraws lapse (R14, R165). -/
theorem Sound.lapsedState {s : State} (hs : Sound s) {p : PairNo} (o : Option Port)
    (hconcerned : s.concerned p = false) (hword : sharedWordSending s p = false) : Sound (lapsedState p o s) := by
  have hjobs := lapsedState_jobs hs.jobs p o
  have hlaw : JobsLaw (Machine.lapsedState p o s) :=
    List.foldlRecOn (motive := JobsLaw) _ _ ((JobsKeep.of_jobs rfl).law hs.jobs) fun t ht j _ =>
      (jobsKeep_lapseJob j t).law ht
  have howner := fun q => lapsedState_owner p q o s
  have hchannel := lapsedState_channel p o s
  have hcorr := lapsedState_corr p o s
  have hseq := lapsedState_seq p o s
  have hin : ∀ n, inExchange (Machine.lapsedState p o s) n = inExchange s n := fun n => by
    rw [inExchange, inExchange, hchannel]
  have hpartner : ∀ q, partner q = p ↔ q = partner p := fun q =>
    ⟨fun h => by rw [← h, partner_partner], fun h => by rw [h, partner_partner]⟩
  have hfar : ∀ r ∈ s.channel.concur, r.pair ≠ partner p := fun r hr h => by
    have := List.any_eq_false.mp hconcerned r hr
    simp [h] at this
  generalize Machine.lapsedState p o s = u at *
  generalize hG : (fun i : Job => if i ∈ lapsing p o s then i.lapsed (inExchange s i.number) else i) = G at hjobs
  have hstay : ∀ i, i ∉ lapsing p o s → G i = i := fun i hi => by rw [← hG]; exact if_neg hi
  have hlapse : ∀ i, i ∈ lapsing p o s → G i = i.lapsed (inExchange s i.number) := fun i hi => by
    rw [← hG]
    exact if_pos hi
  have hnumber : ∀ i, (G i).number = i.number ∧ (G i).requester = i.requester ∧ (G i).pair = i.pair := fun i => by
    by_cases hi : i ∈ lapsing p o s
    · rw [hlapse i hi]
      exact ⟨by simp, by simp, by simp⟩
    · rw [hstay i hi]
      exact ⟨rfl, rfl, rfl⟩
  have hmem : ∀ i ∈ s.sched.jobs, G i ∈ u.sched.jobs := fun i hi => hjobs ▸ List.mem_map_of_mem hi
  have hold : ∀ i ∈ s.sched.jobs, i ∉ lapsing p o s → i ∈ u.sched.jobs := fun i hi hl => by
    have h := hmem i hi
    rwa [hstay i hl] at h
  have hback : ∀ j ∈ u.sched.jobs, ∃ i ∈ s.sched.jobs, G i = j := fun j hj => List.mem_map.mp (hjobs ▸ hj)
  have hcmd : ∀ i c, (G i).cmd = some c → ∃ d, i.cmd = some d ∧
      (c = d ∨ i ∈ lapsing p o s ∧ c = { d with basis := .lapsed }) := fun i c hc => by
    by_cases hi : i ∈ lapsing p o s
    · rw [hlapse i hi, Job.lapsed_cmd] at hc
      obtain ⟨d, hd, rfl⟩ := Option.map_eq_some_iff.mp hc
      exact ⟨d, hd, .inr ⟨hi, rfl⟩⟩
    · rw [hstay i hi] at hc
      exact ⟨c, hc, .inl rfl⟩
  have hwaits : ∀ i, (G i).state = .waitConcur → i.state = .waitConcur := fun i hi => by
    by_cases hl : i ∈ lapsing p o s
    · rw [hlapse i hl] at hi
      cases hin' : inExchange s i.number <;> rw [hin'] at hi
      · exact absurd hi nofun
      · exact hi
    · rwa [hstay i hl] at hi
  have hrecord : ∀ i ∈ s.sched.jobs, i.state = .waitConcur → i ∉ lapsing p o s := fun i hi hw hl => by
    obtain ⟨r, hr, hn⟩ := hs.concur.2.2.2 i hi hw
    obtain ⟨k, hk, hkn, -, -, hkp⟩ := hs.concur.2.2.1 r hr
    obtain rfl := hs.jobs.eq_of_number hk hi (hkn.trans hn)
    obtain ⟨-, hp, -⟩ := consentBearing_iff.mp (mem_lapsing.mp hl).2.1
    exact hfar r hr (Option.some.inj (hkp.symm.trans hp))
  refine ⟨hlaw, ⟨hchannel ▸ hs.concur.1, hchannel ▸ hs.concur.2.1, fun r hr => ?_, fun j hj hw => ?_⟩, fun r hr => ?_,
    ⟨fun hx => ?_, fun hslot => hchannel ▸ hs.exchange.2 (hcorr ▸ hslot)⟩, fun j hj c hc => ?_,
    ⟨fun r hr => ?_, fun j hj c q hc hq hshared hstate hdone => ?_⟩,
    fun j hj c q hc hq hshared hsend hjob hnop ow how => ?_⟩
  · obtain ⟨i, hi, hn, hw, hreq, hp⟩ := hs.concur.2.2.1 r (hchannel ▸ hr)
    exact ⟨i, hold i hi (hrecord i hi hw), hn, hw, hreq, hp⟩
  · obtain ⟨i, hi, rfl⟩ := hback j hj
    rw [hchannel, (hnumber i).1]
    exact hs.concur.2.2.2 i hi (hwaits i hw)
  · obtain ⟨hphase, i, hi, hn, hact, hkind, hp, hdone⟩ := hs.pass r (hcorr ▸ hr)
    have hnot : i ∉ lapsing p o s := fun hl => by
      obtain ⟨-, -, -, c, hc, -, hundone⟩ := consentBearing_iff.mp (mem_lapsing.mp hl).2.1
      exact absurd (hdone c hc) (by simp [hundone])
    exact ⟨hchannel ▸ hphase, i, hold i hi hnot, hn, hact, hkind, hp, hdone⟩
  · rw [hchannel, hseq] at *
    obtain ⟨⟨i, hi, hn, hact, ⟨c, hc, hstarted, hdone⟩, q, prof, hq, hcur⟩, hrest⟩ := hs.exchange.1 hx
    refine ⟨⟨G i, hmem i hi, (hnumber i).1.trans hn, ?_, ?_, q, prof, (hnumber i).2.2.trans hq, hcur⟩, hrest⟩
    · by_cases hl : i ∈ lapsing p o s
      · have hrunning : inExchange s i.number = true := by simp [inExchange, hx, hn]
        rw [hlapse i hl, hrunning]
        exact hact
      · rwa [hstay i hl]
    · by_cases hl : i ∈ lapsing p o s
      · rw [hlapse i hl, Job.lapsed_cmd, hc]
        exact ⟨_, rfl, hstarted, hdone⟩
      · rw [hstay i hl]
        exact ⟨c, hc, hstarted, hdone⟩
  · obtain ⟨i, hi, rfl⟩ := hback j hj
    obtain ⟨d, hd, rfl | ⟨-, rfl⟩⟩ := hcmd i c hc
    · exact hs.stand i hi _ hd
    · exact hs.stand i hi d hd
  · have hr' : r ∈ s.channel.concur := hchannel ▸ hr
    rw [howner, if_neg ((hpartner r.pair).not.mpr (hfar r hr'))]
    exact hs.consent.1 r hr'
  · obtain ⟨i, hi, rfl⟩ := hback j hj
    rw [hin, howner]
    by_cases hl : i ∈ lapsing p o s
    · rw [hlapse i hl] at hc hstate ⊢
      rw [Job.lapsed_cmd] at hc
      obtain ⟨d, hd, rfl⟩ := Option.map_eq_some_iff.mp hc
      refine ⟨fun _ => ?_, fun h => absurd rfl h⟩
      rw [Job.lapsed_number]
      by_contra hout
      rw [Bool.not_eq_true] at hout
      rw [hout] at hstate
      exact hstate rfl
    · rw [hstay i hl] at hc hq hstate ⊢
      obtain ⟨hlapsed, hcovers⟩ := hs.consent.2 i hi c q hc hq hshared hstate hdone
      refine ⟨hlapsed, fun hb hw => ?_⟩
      by_cases hqp : partner q = p
      · rw [if_pos hqp]
        have hkind : i.kind = .command := (hs.jobs.2.2.1 i hi).1.mp (by simp [hc])
        have hbears : consentBearing p i = true :=
          consentBearing_iff.mpr ⟨hkind, (hpartner q).mp hqp ▸ hq, hstate, c, hc, hshared, hdone⟩
        by_contra hno
        exact hl (mem_lapsing.mpr ⟨hi, hbears, Bool.eq_false_iff.mpr hno⟩)
      · rw [if_neg hqp]
        exact hcovers hb hw
  · obtain ⟨i, hi, rfl⟩ := hback j hj
    obtain ⟨d, hd, hcd⟩ := hcmd i c hc
    rw [hchannel] at hsend hjob hnop
    rw [(hnumber i).1] at hjob
    rw [(hnumber i).2.2] at hq
    have hshared' : sharedEffect d.opcode = true := by
      rcases hcd with rfl | ⟨-, rfl⟩ <;> exact hshared
    have hqp : partner q ≠ p := fun hqp => by
      rw [sharedWordSending_of_job hi ((hpartner q).mp hqp ▸ hq) hd hshared' hsend hjob hnop] at hword
      exact absurd hword nofun
    rw [howner, if_neg hqp] at how
    obtain rfl : c = d := by
      refine hcd.resolve_right fun hl => ?_
      obtain ⟨-, hp, -⟩ := consentBearing_iff.mp (mem_lapsing.mp hl.1).2.1
      exact hqp ((hpartner q).mpr (Option.some.inj (hq.symm.trans hp)))
    rw [(hnumber i).2.1]
    exact hs.word i hi c q hd hq hshared' hsend hjob hnop ow how

/-! ### Resets (R136, R178 to R180) -/

theorem Sound.of_empty {s : State} (hjobs : s.sched.jobs = []) (hconcur : s.channel.concur = [])
    (hidle : PathIdle s) : Sound s := by
  refine ⟨jobsLaw_of_no_jobs hjobs, ?_, fun r hr => absurd (hidle.pass.symm.trans hr) nofun,
    ⟨fun h => absurd hidle.phase h, fun h => absurd hidle.slot h⟩, ?_, ⟨?_, ?_⟩, ?_⟩
  · simp [ConcurLaw, hjobs, hconcur]
  all_goals simp [SharedWordLaw, hjobs, hconcur]

theorem Sound.engineResetState (s : State) : Sound (engineResetState s) := by
  have hempty : Sound (raiseAll .engineReset [0, 1, 2, 3] (clearWork s)) :=
    .of_empty (by rw [raiseAll_sched]; rfl) (by rw [raiseAll_channel]; rfl)
      ⟨by rw [raiseAll_corr]; rfl, by rw [raiseAll_corr]; rfl, by rw [raiseAll_channel]; rfl⟩
  unfold Machine.engineResetState
  dsimp only
  split
  · refine (hempty.addJob (mayJoin_dark ?_ .internal) rfl rfl).arbitrate
    exact (serviceSlotsUsed_of_no_jobs (by rw [raiseAll_sched]; rfl)).trans_lt (by decide)
  · exact hempty

theorem Sound.powerOnState (straps : BitVec 4) (s : State) : Sound (powerOnState straps s) := by
  have hempty : Sound (clearedFrom straps s) := .of_empty rfl rfl ⟨rfl, rfl, rfl⟩
  refine (hempty.addJob (mayJoin_dark ?_ .internal) rfl rfl).arbitrate
  exact (serviceSlotsUsed_of_no_jobs rfl).trans_lt (by decide)

/-- A port reset takes away the port's jobs that are not ACTIVE, with their records (R136, R164). -/
theorem Sound.portResetState {s : State} (hs : Sound s) (p : Port) : Sound (portResetState p s) := by
  unfold Machine.portResetState
  split
  · exact hs
  · generalize hu : dropPortJobs p (s.setPort p resetPort) = u
    have hjobs : u.sched.jobs = s.sched.jobs.filter (fun j => !removedByReset p j) := hu ▸ rfl
    have hconcur : u.channel.concur = s.channel.concur.filter (fun r =>
        !((s.sched.jobs.filter (removedByReset p)).map Job.number).contains r.job) := hu ▸ rfl
    have hx : u.channel.exchange = s.channel.exchange := hu ▸ rfl
    have hgone : ∀ i ∈ s.sched.jobs, removedByReset p i = true ↔
        ((s.sched.jobs.filter (removedByReset p)).map Job.number).contains i.number = true := by
      intro i hi
      rw [List.contains_iff_mem]
      refine ⟨fun h => List.mem_map_of_mem (List.mem_filter.mpr ⟨hi, h⟩), fun h => ?_⟩
      obtain ⟨k, hk, hn⟩ := List.mem_map.mp h
      obtain ⟨hks, hkr⟩ := List.mem_filter.mp hk
      exact hs.jobs.eq_of_number hks hi hn ▸ hkr
    refine ((Shift.sound_same (s := s) (t := u) ⟨fun q => hu ▸ rfl, hconcur ▸ List.filter_sublist, fun j hj => ?_,
        fun r hr i hi hn hw => ?_, fun r hr => ?_⟩ ⟨by rw [hx], by rw [hx], by rw [hx], by rw [hx],
          fun r hr => ⟨r, by rw [← hu] at hr; exact hr, rfl, rfl⟩, fun h => by rw [← hu] at h; exact h,
          fun _ => hu ▸ ⟨rfl, rfl, .inl rfl⟩, fun i hi hact => ?_⟩ hs ?_)).arbitrate
    · rw [hjobs, List.mem_filter] at hj
      refine ⟨j, hj.1, .refl j, ?_⟩
      by_cases h : j.state = .ended
      · exact .inl h
      · exact .inr ⟨h, .rfl⟩
    · rw [hconcur, List.mem_filter, ← hn] at hr
      refine ⟨i, ?_, .refl i, hw⟩
      rw [hjobs, List.mem_filter]
      refine ⟨hi, ?_⟩
      have := (hgone i hi).not
      simp only [Bool.not_eq_true] at this
      simpa [this] using hr.2
    · rw [hconcur]
      by_cases h : ((s.sched.jobs.filter (removedByReset p)).map Job.number).contains r.job = true
      · refine .inr fun j hj hn => absurd h ?_
        rw [hjobs, List.mem_filter] at hj
        rw [← hn, ← hgone j hj.1]
        simpa using hj.2
      · exact .inl (List.mem_filter.mpr ⟨hr, by simpa using h⟩)
    · refine ⟨i, ?_, .refl i, .refl i, hact⟩
      rw [hjobs, List.mem_filter]
      exact ⟨hi, by simp [removedByReset, hact]⟩
    · exact (JobsKeep.of_milder (hjobs ▸ .filter _ _)).law hs.jobs

end Sys2Proof.Machine
end

section
/-! The moves of the machine under the joint law of work and consent; O57. -/

namespace Sys2Proof.Machine

/-! ### Settle ends, calibrations and strobes -/

/-- A command's first word is sent as the sequencer enters FILLING (R142). -/
theorem Sound.afterSettle {s : State} (hs : Sound s) : Sound (afterSettle s) := by
  unfold Machine.afterSettle
  split
  · next j hj =>
    obtain ⟨hmem, hact⟩ := active?_mem hj
    split
    · next p c hp hc =>
      split
      · next h =>
        simp only [Bool.and_eq_true, Bool.not_eq_true'] at h
        obtain ⟨⟨-, hruns⟩, hstarted⟩ := h
        have hdone : c.completed = false := Bool.eq_false_iff.mpr fun h =>
          absurd ((hs.stand j hmem c hc).2 h) (by simp [hstarted])
        have hphase := hs.phase_idle_of_active hmem hact fun d hd =>
          Option.some.inj (hc.symm.trans hd) ▸ hstarted
        have hpass := hs.pass_none_of_active hmem hact (.inr ⟨c, hc, hdone⟩)
        exact hs.sendFirst ⟨hpass, hs.slot_none hphase, hphase⟩ hmem hact rfl rfl rfl hp hc hdone hruns
      · exact hs
    · exact hs
  · exact hs

theorem Sound.phase_idle_of_settleDue {s : State} (hs : Sound s) {goal : Order} (hdue : settleDue s = some goal) :
    s.channel.exchange.phase = .idle := by
  have hstate : s.seq.state = .settling := by
    unfold settleDue at hdue
    split at hdue
    · exact (‹_› : _ ∧ _).1
    · exact absurd hdue nofun
  exact hs.phase_idle_of_seq (by simp [hstate])

theorem Sound.settleInto {s : State} (hs : Sound s) {goal : Order} (hdue : settleDue s = some goal) :
    Sound (settleInto goal s) := by
  exact hs.of_seq (hs.phase_idle_of_settleDue hdue) (by simp) (by simp) (by simp) (by simp)

theorem Sound.decideCalibration {s : State} (hs : Sound s) {a : DarkAcc} {j : Job} (hdue : samplingDone s = some a)
    (hactive : s.active? = some j) (hdark : j.kind = .dark) : Sound (decideCalibration j a s) := by
  obtain ⟨hmem, hact⟩ := active?_mem hactive
  have hstate : s.seq.state = .dark := by
    unfold samplingDone at hdue
    split at hdue
    · exact (‹_› : _ ∧ _).1
    · exact absurd hdue nofun
  have hphase := hs.phase_idle_of_seq (by simp [hstate])
  have hidle : PathIdle s := ⟨hs.pass_none_of_active hmem hact (.inl hdark), hs.slot_none hphase, hphase⟩
  unfold Machine.decideCalibration
  dsimp only
  generalize hv : (if decideDark s.intake a = .rejected then _ else _ : State) = v
  have hsame : SameWork s v := by
    rw [← hv]
    split
    · exact ⟨by simp [rejectDark], by simp [rejectDark], by simp [rejectDark], by simp [rejectDark],
        fun p => by simp [rejectDark, State.pair]⟩
    · exact ⟨rfl, rfl, rfl, rfl, fun _ => rfl⟩
  generalize hw : (v.setJob j.number _) = w
  obtain ⟨k, hk, hkn, hka⟩ : ∃ k ∈ w.sched.jobs, k.number = j.number ∧ k.state = .active := by
    rw [← hw, State.setJob_jobs, hsame.jobs]
    exact ⟨_, List.mem_map.mpr ⟨j, hmem, if_pos rfl⟩, rfl, hact⟩
  have hwv : Sound w := by
    rw [← hw]
    exact (hs.congr hsame).setJob _ fun _ => ⟨rfl, rfl, rfl, rfl, rfl, rfl⟩
  have hwidle : PathIdle w := hidle.of_eq (by rw [← hw, State.setJob_channel, hsame.channel])
    (by rw [← hw, State.setJob_corr, hsame.corr])
  rw [← hkn]
  refine ((hwv.giveOrder hwidle.phase .endDark).endActive (hwidle.of_eq (by simp) (by simp)) ?_ hka _).arbitrate
  rw [giveOrder_sched]
  exact hk

theorem Sound.chipStrobe {s : State} (hs : Sound s) (adc : BitVec 14) : Sound (chipStrobe adc s) := by
  refine hs.of_path rfl rfl (fun _ => rfl) ⟨rfl, rfl, rfl, rfl⟩ (fun r hr => ?_) (fun h => ?_)
    fun _ => ⟨rfl, rfl, .inl rfl⟩
  · unfold Machine.chipStrobe takeSample at hr
    dsimp only at hr
    split at hr
    · next r' _ hr' =>
      obtain rfl := Option.some.inj hr
      refine ⟨r', hr', ?_⟩
      unfold countClip
      split <;> exact ⟨rfl, rfl⟩
    · split at hr <;> exact ⟨r, hr, rfl, rfl⟩
    · exact ⟨r, hr, rfl, rfl⟩
  · unfold Machine.chipStrobe takeSample at h
    dsimp only at h
    split at h
    · exact h
    · split at h <;> exact h
    · exact h

theorem Sound.startPass {s : State} (hs : Sound s) : Sound (startPass s) := by
  unfold Machine.startPass
  split
  · exact hs.of_path rfl rfl (fun _ => rfl) ⟨rfl, rfl, rfl, rfl⟩ (fun r hr => ⟨r, hr, rfl, rfl⟩) id
      fun _ => ⟨rfl, rfl, .inl rfl⟩
  · exact hs

theorem Sound.endFill {s : State} (hs : Sound s) : Sound (endFill s) := by
  unfold Machine.endFill
  split
  · exact hs.of_path rfl rfl (fun _ => rfl) ⟨rfl, rfl, rfl, rfl⟩ (fun r hr => ⟨r, hr, rfl, rfl⟩) id
      fun _ => ⟨rfl, rfl, .inr ⟨‹_›, rfl⟩⟩
  · exact hs.of_sameRun rfl rfl rfl rfl ⟨rfl, rfl, rfl⟩

theorem endingPass_pass {s : State} {rec : PassRecord} (h : endingPass s = some rec) : s.corr.pass = some rec := by
  unfold endingPass at h
  split at h
  · exact h
  · exact absurd h nofun

theorem slotAtBoundary_slot {b : Boundary} {s : State} {su : SlotSetup} (h : slotAtBoundary b s = some su) :
    s.corr.slot = some su := by
  unfold slotAtBoundary at h
  split at h
  · exact h
  · exact absurd h nofun

theorem Sound.countPeriod {s : State} (hs : Sound s) : Sound (setCorr (Machine.countPeriod s.corr) (Machine.tookBoundary s)) := by
  refine hs.of_path rfl rfl (fun _ => rfl) ⟨rfl, rfl, rfl, rfl⟩ (fun r hr => ?_) (fun h => ?_)
    fun _ => ⟨rfl, rfl, .inl rfl⟩
  · rw [setCorr_corr] at hr
    unfold Machine.countPeriod at hr
    split at hr
    · obtain ⟨r', hr', rfl⟩ := Option.map_eq_some_iff.mp hr
      exact ⟨r', hr', rfl, rfl⟩
    all_goals exact ⟨r, hr, rfl, rfl⟩
  · rw [setCorr_corr] at h
    unfold Machine.countPeriod at h
    split at h
    · exact h
    · exact fun hnone => h (by rw [hnone]; rfl)
    all_goals exact h

theorem exchangeDue_phase {s : State} (h : exchangeDue s = true) : s.channel.exchange.phase = .decided := by
  simp only [exchangeDue, Bool.and_eq_true, decide_eq_true_eq] at h
  exact h.1.1

/-! ### Registers that the laws read in part -/

theorem Sound.freeJob {s : State} (hs : Sound s) {j : Job} (hj : j ∈ s.sched.jobs) (hstate : j.state = .ended) :
    Sound (s.freeJob j.number) := by
  have hstays : ∀ i ∈ s.sched.jobs, i.state ≠ .ended → i ∈ (s.freeJob j.number).sched.jobs := fun i hi hne => by
    rw [State.freeJob_jobs, List.mem_filter]
    refine ⟨hi, decide_eq_true fun hn => hne ?_⟩
    rwa [hs.jobs.eq_of_number hi hj hn]
  refine Shift.sound_same (s := s) (t := s.freeJob j.number) ⟨fun _ => rfl, .refl _, fun i hi => ?_, fun _ _ i hi _ hw => ?_,
    fun r hr => .inl hr⟩ ⟨rfl, rfl, rfl, rfl, fun r hr => ⟨r, hr, rfl, rfl⟩, id, fun _ => ⟨rfl, rfl, .inl rfl⟩,
      fun i hi hact => ⟨i, hstays i hi (by simp [hact]), .refl i, .refl i, hact⟩⟩ hs ((JobsKeep.freeJob ..).law hs.jobs)
  · rw [State.freeJob_jobs, List.mem_filter] at hi
    refine ⟨i, hi.1, .refl i, ?_⟩
    by_cases h : i.state = .ended
    · exact .inl h
    · exact .inr ⟨h, .rfl⟩
  · exact ⟨i, hstays i hi (by simp [hw]), .refl i, hw⟩

/-- A write of a pair record that leaves its owner. -/
theorem Sound.of_pair {s t : State} (hs : Sound s) {p : PairNo} {f : Pair → Pair}
    (hjobs : t.sched.jobs = s.sched.jobs) (hchannel : t.channel = s.channel) (hcorr : t.corr = s.corr)
    (hseq : t.seq = s.seq) (hmap : t.lineMap = (s.setPair p f).lineMap) (hf : ∀ r, (f r).owner = r.owner) :
    Sound t := by
  refine hs.congr ⟨hjobs, hchannel, hcorr, hseq, fun q => ?_⟩
  have hpair : t.pair q = (s.setPair p f).pair q := by rw [State.pair, State.pair, hmap]
  rw [hpair, State.pair_setPair]
  split
  · exact hf _
  · rfl

theorem Sound.clearFaultState {s : State} (hs : Sound s) : Sound (clearFaultState s) := by
  have hclear : Sound { s with seq := clearHold s.seq } := by
    by_cases hstate : s.seq.state = .switchFault
    · exact hs.of_seq (hs.phase_idle_of_seq (by simp [hstate])) rfl rfl rfl rfl
    · refine hs.of_sameRun rfl rfl rfl rfl ?_
      simp [clearHold, hstate]
  unfold Machine.clearFaultState
  exact hclear.becameEligible _

/-- A slot's start or result changes its set-up, the cells and the slot results alone (R74, R75). -/
theorem Sound.of_slot {s t : State} (hs : Sound s) {b : Boundary} {su : SlotSetup}
    (hdue : slotAtBoundary b s = some su) (hjobs : t.sched.jobs = s.sched.jobs)
    (hconcur : t.channel.concur = s.channel.concur) (hmap : t.lineMap = s.lineMap)
    (hx : ∃ l, t.channel.exchange = { s.channel.exchange with slots := l }) (hpass : t.corr.pass = s.corr.pass)
    (hseq : t.seq = takeBoundary s.seq) : Sound t := by
  obtain ⟨l, hx⟩ := hx
  exact hs.of_path hjobs hconcur (fun p => by rw [State.pair, State.pair, hmap]) (by simp [hx])
    (fun r hr => ⟨r, hpass ▸ hr, rfl, rfl⟩) (fun _ => by simp [slotAtBoundary_slot hdue])
    fun _ => hseq ▸ ⟨rfl, rfl, .inl rfl⟩

/-! ### Every move -/

theorem Does.keeps_sound {c : Instr} {s t : State} (hdoes : Does c s t) (hs : Sound s) : Sound t := by
  cases hdoes with
  | nothing => exact hs
  | powerOn straps => exact .powerOnState straps s
  | engineReset => exact .engineResetState s
  | portReset _ p => exact hs.portResetState p
  | portRelease p b =>
    unfold portReleaseState
    split
    · exact hs.congr ⟨rfl, rfl, rfl, rfl, fun _ => rfl⟩
    · exact hs
  | ports _ hmove =>
    exact hs.congr (.of_lineMap (by rw [hmove.sched]) hmove.channel hmove.corr hmove.seq hmove.lineMap)
  | submit _ _ hj hslot => exact hs.acceptJob (hj.mayJoin hslot) hj.cmd hj.state
  | submitDark _ _ port hslot =>
    exact hs.acceptJob (mayJoin_dark (Nat.lt_of_not_le (of_decide_eq_false hslot)) _) rfl rfl
  | submitCommand _ _ port k n u hslot hplace => exact hs.submitCommandJob hslot hplace
  | cancel _ _ hjob => exact hs.cancelState hjob
  | free _ _ hjob hstate =>
    exact hs.freeJob (job?_mem hjob).1 hstate
  | consent _ _ hrec => exact hs.consentState hrec
  | decline _ _ hrec => exact hs.endAsked hrec _
  | deadline _ _ hrec => exact hs.endAsked hrec _
  | routeOpen => exact hs.of_pair rfl rfl rfl rfl rfl fun _ => rfl
  | routeEntries => exact hs.of_pair rfl rfl rfl rfl rfl fun _ => rfl
  | routeClose => exact hs.of_pair rfl rfl rfl rfl rfl fun _ => rfl
  | assign _ _ _ _ _ o _ hconcerned hword => exact (hs.lapsedState o hconcerned hword).arbitrate
  | clearFault => exact hs.clearFaultState
  | settle _ _ hdue => exact (hs.settleInto hdue).afterSettle
  | settleFault _ _ hdue => exact (hs.faultOnPair (hs.phase_idle_of_settleDue hdue)).arbitrate
  | settleDark _ _ hdue hpos =>
    refine hs.takeFault.settleInto ?_
    simpa [settleDue, takeFault_seq] using hdue
  | fillEnd => exact hs.tookBoundary.endFill.startPass
  | startPass => exact hs.tookBoundary.startPass
  | period => exact hs.countPeriod
  | passEnd _ _ hdue => exact hs.tookBoundary.evaluateAndGoOn (by rw [tookBoundary_corr, endingPass_pass hdue])
  | passFault _ _ hdue =>
    exact (hs.tookBoundary.faultOnPair (hs.phase_idle_of_pass (endingPass_pass hdue))).arbitrate
  | passDark _ _ hdue =>
    exact hs.tookBoundary.takeFault.evaluateAndGoOn (by rw [takeFault_corr, tookBoundary_corr, endingPass_pass hdue])
  | calibrated _ hdue hactive hdark => exact hs.decideCalibration hdue hactive hdark
  | wordEnd _ _ hdue => exact hs.wordEnd hdue
  | slotStart _ _ hdue => exact hs.of_slot hdue rfl rfl rfl ⟨_, rfl⟩ rfl rfl
  | slotResult _ _ hdue => exact hs.of_slot hdue rfl rfl rfl ⟨_, rfl⟩ rfl rfl
  | @lastSlot _ _ su hdue =>
    have hadded : Sound (addSlot (slotOutcome su s.corr.cells) (tookBoundary s)) :=
      hs.of_slot hdue rfl rfl rfl ⟨_, rfl⟩ rfl rfl
    exact hadded.dropPass.decideWord _ (hs.exchange.2 (by simp [slotAtBoundary_slot hdue])) rfl
  | exchangeEnd _ _ hdue hjob hcmd =>
    exact hs.afterExchange (exchangeDue_phase hdue) hjob hcmd
  | exchangeLost _ _ hdue hlost =>
    obtain ⟨j, hj, hn, -, ⟨c, hc, -⟩, -⟩ := hs.exchange_job (by rw [exchangeDue_phase hdue]; nofun)
    exact absurd ((hlost j (hn ▸ hs.jobs.job?_eq hj)).symm.trans hc) nofun
  | patrol _ _ p hslot =>
    refine Sound.acceptJob (hs.congr ?_) (mayJoin_patrol hslot) rfl rfl
    exact ⟨rfl, rfl, rfl, rfl, fun _ => rfl⟩
  | chip _ _ adc => exact hs.chipStrobe adc
  | emptyLog | holdOffset | releaseOffset | expiry | darkStrobe | tick | writeHousing =>
    exact hs.congr ⟨rfl, rfl, rfl, rfl, fun _ => rfl⟩
  | _ => exact hs.congr (.of_lineMap (by simp) (by simp) (by simp) (by simp) (by simp))

/-- Settles O57: the joint law is kept by every move. -/
theorem consentLawIsKept : Obligations.ConsentLawIsKept := fun _ _ hstep hwork hconsent hword _ =>
  sound_iff.mp (step_keeps (P := Sound)
    (fun _ _ h => h.congr ⟨rfl, rfl, rfl, rfl, fun _ => rfl⟩) (fun _ _ h => h.congr ⟨rfl, rfl, rfl, rfl, fun _ => rfl⟩)
    (fun _ _ _ => Does.keeps_sound) hstep (sound_iff.mpr ⟨hwork, hconsent, hword⟩))

end Sys2Proof.Machine
end

section
/-! Request frames (R168, R170, R181; O15): the bodies that spell a request, what a request spelled is, and that
the frame of a request is read back as it. -/

namespace Sys2Proof.Machine

/-! ### Bodies of fixed length -/

theorem body0_eq_some {i j : Instr} {l : List Byte} : body0 i l = some j ↔ l = [] ∧ i = j := by
  unfold body0
  split <;> simp_all

theorem body1_eq_some {f : Byte → Instr} {j : Instr} {l : List Byte} :
    body1 f l = some j ↔ ∃ a, l = [a] ∧ f a = j := by
  unfold body1
  split <;> simp_all

theorem body2_eq_some {f : Byte → Byte → Instr} {j : Instr} {l : List Byte} :
    body2 f l = some j ↔ ∃ a b, l = [a, b] ∧ f a b = j := by
  unfold body2
  split
  · simp
  · next h => exact iff_of_false nofun fun ⟨a, b, hl, _⟩ => h a b hl

theorem body3_eq_some {f : Byte → Byte → Byte → Instr} {j : Instr} {l : List Byte} :
    body3 f l = some j ↔ ∃ a b c, l = [a, b, c] ∧ f a b c = j := by
  unfold body3
  split
  · simp
  · next h => exact iff_of_false nofun fun ⟨a, b, c, hl, _⟩ => h a b c hl

/-! ### Lists in a body -/

theorem counted_eq_some {α : Type} {n : Byte} {o : Option (List α)} {l : List α} :
    counted n o = some l ↔ o = some l ∧ l.length = n.toNat := by
  simp [counted, Option.filter_eq_some_iff]

theorem length_of_readHalves : ∀ {l : List Byte} {v : List Half}, readHalves l = some v → l.length = 2 * v.length
  | [], v, h => by
    obtain rfl := Option.some.inj h
    rfl
  | hi :: lo :: rest, v, h => by
    obtain ⟨w, hw, rfl⟩ := Option.map_eq_some_iff.mp h
    have := length_of_readHalves hw
    simp only [List.length_cons]
    omega
  | [_], v, h => absurd h nofun

theorem length_of_readEntries :
    ∀ {l : List Byte} {v : List (Byte × Half)}, readEntries l = some v → l.length = 3 * v.length
  | [], v, h => by
    obtain rfl := Option.some.inj h
    rfl
  | n :: hi :: lo :: rest, v, h => by
    obtain ⟨w, hw, rfl⟩ := Option.map_eq_some_iff.mp h
    have := length_of_readEntries hw
    simp only [List.length_cons]
    omega
  | [_], v, h => absurd h nofun
  | [_, _], v, h => absurd h nofun

theorem length_of_readEchoes :
    ∀ {l : List Byte} {v : List (Half × Half)}, readEchoes l = some v → l.length = 4 * v.length
  | [], v, h => by
    obtain rfl := Option.some.inj h
    rfl
  | a :: b :: c :: d :: rest, v, h => by
    obtain ⟨w, hw, rfl⟩ := Option.map_eq_some_iff.mp h
    have := length_of_readEchoes hw
    simp only [List.length_cons]
    omega
  | [_], v, h => absurd h nofun
  | [_, _], v, h => absurd h nofun
  | [_, _, _], v, h => absurd h nofun

/-! ### What a body spells -/

/-- A well-formed request of a port, as a frame spells it. -/
structure Spelled (port : Port) (i : Instr) : Prop where
  port : i.requestPort = some port
  wellFormed : i.wellFormed = true
  request : ∀ fr, i ≠ .frameMalformed fr

theorem wellFormed_of_list {i : Instr} {n : Nat} (hbody : i.listBody = some n) (hn : n ≤ 512)
    (hcount : i.listCount ≤ 255) (htail : i.tailFits = true) (hclock : i.clocksSomething = true) :
    i.wellFormed = true := by
  simp [Instr.wellFormed, Instr.bodyFits, Instr.countFits, hbody, hn, hcount, htail, hclock, Config.maxBody]

theorem spelled_command {port : Port} {l : List Byte} {i : Instr} (h : readCommand port l = some i)
    (hlen : l.length ≤ 512) : Spelled port i := by
  unfold readCommand at h
  split at h
  · split at h
    · next hrest =>
      obtain rfl := Option.some.inj h
      refine ⟨rfl, wellFormed_of_list rfl ?_ (Nat.zero_le _) (decide_eq_true hrest) rfl, nofun⟩
      omega
    · exact absurd h nofun
  · exact absurd h nofun

theorem spelled_bases {port : Port} {l : List Byte} {i : Instr} (h : readBases port l = some i)
    (hlen : l.length ≤ 512) : Spelled port i := by
  unfold readBases at h
  split at h
  · obtain ⟨v, hv, rfl⟩ := Option.map_eq_some_iff.mp h
    obtain ⟨hread, hcount⟩ := counted_eq_some.mp hv
    have hlength := length_of_readHalves hread
    simp only [List.length_cons] at hlen
    refine ⟨rfl, wellFormed_of_list rfl (by omega) ?_ rfl rfl, nofun⟩
    exact hcount.trans_le (Nat.le_of_lt_succ (BitVec.isLt _))
  · exact absurd h nofun

theorem spelled_entries {port : Port} {l : List Byte} {i : Instr} (h : readRouteEntries port l = some i)
    (hlen : l.length ≤ 512) : Spelled port i := by
  unfold readRouteEntries at h
  split at h
  · obtain ⟨v, hv, rfl⟩ := Option.map_eq_some_iff.mp h
    obtain ⟨hread, hcount⟩ := counted_eq_some.mp hv
    have hlength := length_of_readEntries hread
    simp only [List.length_cons] at hlen
    refine ⟨rfl, wellFormed_of_list rfl (by omega) ?_ rfl rfl, nofun⟩
    exact hcount.trans_le (Nat.le_of_lt_succ (BitVec.isLt _))
  · exact absurd h nofun

theorem spelled_params {port : Port} {l : List Byte} {i : Instr} (h : readParams port l = some i)
    (hlen : l.length ≤ 512) : Spelled port i := by
  unfold readParams at h
  split at h
  · obtain ⟨v, hv, rfl⟩ := Option.map_eq_some_iff.mp h
    obtain ⟨hread, hcount⟩ := counted_eq_some.mp hv
    have hlength := length_of_readEntries hread
    simp only [List.length_cons] at hlen
    refine ⟨rfl, wellFormed_of_list rfl (by omega) ?_ rfl rfl, nofun⟩
    exact hcount.trans_le (Nat.le_of_lt_succ (BitVec.isLt _))
  · exact absurd h nofun

theorem spelled_synth {port : Port} {l : List Byte} {i : Instr} (h : readSynth port l = some i)
    (hlen : l.length ≤ 512) : Spelled port i := by
  unfold readSynth at h
  split at h
  · obtain ⟨v, hv, rfl⟩ := Option.map_eq_some_iff.mp h
    obtain ⟨hread, hcount⟩ := counted_eq_some.mp hv
    have hlength := length_of_readEchoes hread
    simp only [List.length_cons] at hlen
    refine ⟨rfl, wellFormed_of_list rfl (by omega) ?_ rfl rfl, nofun⟩
    exact hcount.trans_le (Nat.le_of_lt_succ (BitVec.isLt _))
  · exact absurd h nofun

theorem decodeBody_spelled {port : Port} {k : RequestKind} {l : List Byte} {i : Instr}
    (h : decodeBody port k l = some i) (hlen : l.length ≤ 512) : Spelled port i := by
  cases k with
  | identify | readStatus | readNotices | clearNotices | submitDark | readConcur | readFaultLog | clearSwitchFault
  | engineReset =>
    obtain ⟨-, rfl⟩ := body0_eq_some.mp h
    exact ⟨rfl, rfl, nofun⟩
  | cancelJob | jobStatus | readPairStats | readHousing | routeClose =>
    obtain ⟨a, -, rfl⟩ := body1_eq_some.mp h
    exact ⟨rfl, rfl, nofun⟩
  | readResults | freeze | writeHousing =>
    obtain ⟨a, b, -, rfl⟩ := body2_eq_some.mp h
    exact ⟨rfl, rfl, nofun⟩
  | submitSynth | readSignature | relearn | dismiss | readRoute =>
    obtain ⟨a, b, c, -, rfl⟩ := body3_eq_some.mp h
    exact ⟨rfl, rfl, nofun⟩
  | submitCommand => exact spelled_command h hlen
  | writeSignature => exact spelled_bases h hlen
  | routeEntries => exact spelled_entries h hlen
  | setParams => exact spelled_params h hlen
  | synthDefine => exact spelled_synth h hlen
  | setNoticeMask | submitMeasure | submitSurvey | setPatrol | routeOpen =>
    simp only [decodeBody, readMask, readMeasure, readSurvey, readPatrol, readRouteOpen] at h
    split at h
    · obtain rfl := Option.some.inj h
      exact ⟨rfl, rfl, nofun⟩
    · exact absurd h nofun
  | concur =>
    simp only [decodeBody, readConcurAnswer] at h
    split at h
    · obtain ⟨yes, -, rfl⟩ := Option.map_eq_some_iff.mp h
      cases yes <;> exact ⟨rfl, rfl, nofun⟩
    · exact absurd h nofun
  | readFindings | assign =>
    simp only [decodeBody, readSelector, readOwner] at h
    split at h
    · obtain ⟨o, -, rfl⟩ := Option.map_eq_some_iff.mp h
      exact ⟨rfl, rfl, nofun⟩
    · exact absurd h nofun
  | setDarkMode =>
    simp only [decodeBody, readDarkMode] at h
    split at h
    · split at h
      · obtain rfl := Option.some.inj h
        exact ⟨rfl, rfl, nofun⟩
      · exact absurd h nofun
    · split at h
      · obtain rfl := Option.some.inj h
        exact ⟨rfl, rfl, nofun⟩
      · exact absurd h nofun
    · exact absurd h nofun

theorem frameParts_eq_some {bytes : List Byte} {kind : Byte} {body : List Byte}
    (h : frameParts bytes = some (kind, body)) : body.length ≤ 512 := by
  unfold frameParts at h
  split at h
  · dsimp only at h
    split at h
    · next hlen =>
      obtain ⟨-, rfl⟩ := Prod.mk.inj (Option.some.inj h)
      exact (List.length_take_le _ _).trans hlen.1
    · exact absurd h nofun
  · exact absurd h nofun

/-- What a frame spells is a well-formed request of its port (R168, R170). -/
theorem decodeFrame_spelled {frame : PortFrame} {i : Instr} (h : decodeFrame frame = some i) :
    Spelled frame.port i := by
  obtain ⟨⟨kind, body⟩, hparts, hrest⟩ := Option.bind_eq_some_iff.mp h
  obtain ⟨k, -, hbody⟩ := Option.bind_eq_some_iff.mp hrest
  exact decodeBody_spelled hbody (frameParts_eq_some hparts)

/-- The request carried by a command of no port is the command itself, or none of its kind. -/
theorem carried_requestPort {c : Instr} {s : State} (h : (carried c s).requestPort = none) : carried c s = c := by
  unfold carried at *
  split
  · split
    · next p clocked hends =>
      simp only [if_pos hends] at h
      unfold frameCommand at h
      cases hdecode : decodeFrame ⟨p, (clockPort clocked (s.port p)).received⟩ with
      | none =>
        rw [hdecode] at h
        exact absurd h nofun
      | some i =>
        rw [hdecode] at h
        exact absurd (h.symm.trans (decodeFrame_spelled hdecode).port) nofun
    · rfl
  · rfl

/-! ### The frame of a request -/

theorem readHalves_sendHalf (l : List Half) : readHalves (l.flatMap sendHalf) = some l := by
  induction l with
  | nil => rfl
  | cons h l ih => simp only [List.flatMap_cons, sendHalf, u16, List.cons_append, List.nil_append, readHalves, ih,
      half_of_bytes, Option.map_some]

theorem readEntries_sendEntry (l : List (Byte × Half)) : readEntries (l.flatMap sendEntry) = some l := by
  induction l with
  | nil => rfl
  | cons e l ih => simp only [List.flatMap_cons, sendEntry, sendHalf, u16, List.cons_append, List.nil_append,
      readEntries, ih, half_of_bytes, Option.map_some]

theorem readEchoes_sendEcho (l : List (Half × Half)) : readEchoes (l.flatMap sendEcho) = some l := by
  induction l with
  | nil => rfl
  | cons e l ih => simp only [List.flatMap_cons, sendEcho, sendHalf, u16, List.cons_append, List.nil_append,
      readEchoes, ih, half_of_bytes, Option.map_some]

theorem counted_of_length {α : Type} {l : List α} (h : l.length ≤ 255) :
    counted (BitVec.ofNat 8 l.length) (some l) = some l := by
  refine counted_eq_some.mpr ⟨rfl, ?_⟩
  rw [BitVec.toNat_ofNat]
  omega

theorem optByte_sendOptByte : ∀ o : Option Byte, ∃ a b, sendOptByte o = [a, b] ∧ optByte a b = some o
  | none => ⟨_, _, rfl, rfl⟩
  | some _ => ⟨_, _, rfl, rfl⟩

theorem countFits_of_wellFormed {i : Instr} (h : i.wellFormed = true) : i.listCount ≤ 255 := by
  simp only [Instr.wellFormed, Bool.and_eq_true, Instr.countFits, decide_eq_true_eq] at h
  exact h.1.1.2

theorem tailFits_of_wellFormed {i : Instr} (h : i.wellFormed = true) : i.tailFits = true := by
  simp only [Instr.wellFormed, Bool.and_eq_true] at h
  exact h.1.2

/-- A body is read back as the request it was sent for (R181). -/
theorem decodeBody_requestBody {i : Instr} {p : Port} {k : RequestKind} {body : List Byte}
    (hwell : i.wellFormed = true) (hport : i.requestPort = some p) (hbody : requestBody i = some (k, body)) :
    decodeBody p k body = some i := by
  have hcount := countFits_of_wellFormed hwell
  have htail := tailFits_of_wellFormed hwell
  cases i with
  | frameMalformed | powerOn | engineResetPin | portReset | portResetRelease | settleEnd | fillEnd | periodBoundary
  | accumulationEnd | darkSamplingEnd | wordEnd | slotStart | slotResult | exchangeEnd | patrolTimerExpiry
  | suspectExpiryCheck | concurDeadline | sampleStrobe | lineTimeTick | responseReadOut => exact absurd hbody nofun
  | identify | readStatus | readNotices | clearNotices | submitMeasure | submitDark | submitSynth | cancelJob
  | jobStatus | readResults | concurYes | concurNo | readConcur | readSignature | relearn | freeze | dismiss
  | readPairStats | writeHousing | readHousing | routeClose | readRoute | setDarkModeAuto | readFaultLog
  | clearSwitchFault | engineReset =>
    obtain rfl := Option.some.inj hport
    obtain ⟨rfl, rfl⟩ := Prod.mk.inj (Option.some.inj hbody)
    rfl
  | setNoticeMask | submitSurvey | setPatrol | routeOpen =>
    obtain rfl := Option.some.inj hport
    obtain ⟨rfl, rfl⟩ := Prod.mk.inj (Option.some.inj hbody)
    simp only [decodeBody, readMask, readSurvey, readPatrol, readRouteOpen, sendHalf, u16, List.cons_append,
      List.nil_append, half_of_bytes]
  | setDarkModeManual =>
    obtain rfl := Option.some.inj hport
    obtain ⟨rfl, rfl⟩ := Prod.mk.inj (Option.some.inj hbody)
    simp only [decodeBody, readDarkMode, sendHalf, u16, half_of_bytes]
    rfl
  | submitCommand =>
    obtain rfl := Option.some.inj hport
    obtain ⟨rfl, rfl⟩ := Prod.mk.inj (Option.some.inj hbody)
    simp only [decodeBody, readCommand, sendHalf, u16, List.cons_append, List.nil_append, half_of_bytes]
    exact if_pos (of_decide_eq_true htail)
  | writeSignature =>
    obtain rfl := Option.some.inj hport
    obtain ⟨rfl, rfl⟩ := Prod.mk.inj (Option.some.inj hbody)
    simp only [decodeBody, readBases, listOf, u8, List.cons_append, List.nil_append, readHalves_sendHalf]
    rw [counted_of_length hcount]
    rfl
  | routeEntries =>
    obtain rfl := Option.some.inj hport
    obtain ⟨rfl, rfl⟩ := Prod.mk.inj (Option.some.inj hbody)
    simp only [decodeBody, readRouteEntries, listOf, u8, List.cons_append, List.nil_append, readEntries_sendEntry]
    rw [counted_of_length hcount]
    rfl
  | setParams =>
    obtain rfl := Option.some.inj hport
    obtain ⟨rfl, rfl⟩ := Prod.mk.inj (Option.some.inj hbody)
    simp only [decodeBody, readParams, listOf, u8, List.cons_append, List.nil_append, readEntries_sendEntry]
    rw [counted_of_length hcount]
    rfl
  | synthDefine =>
    obtain rfl := Option.some.inj hport
    obtain ⟨rfl, rfl⟩ := Prod.mk.inj (Option.some.inj hbody)
    simp only [decodeBody, readSynth, listOf, u8, sendHalf, u16, List.cons_append, List.nil_append,
      readEchoes_sendEcho, half_of_bytes]
    rw [counted_of_length hcount]
    rfl
  | readFindings port selector skip =>
    obtain rfl := Option.some.inj hport
    cases selector with
    | all =>
      obtain ⟨rfl, rfl⟩ := Prod.mk.inj (Option.some.inj hbody)
      rfl
    | pair n =>
      obtain ⟨rfl, rfl⟩ := Prod.mk.inj (Option.some.inj hbody)
      rfl
  | assign port pair owner =>
    obtain rfl := Option.some.inj hport
    obtain ⟨rfl, rfl⟩ := Prod.mk.inj (Option.some.inj hbody)
    obtain ⟨a, b, hsend, hread⟩ := optByte_sendOptByte owner
    rw [hsend]
    simp only [decodeBody, readOwner, hread]
    rfl

theorem length_flatMap_const {α : Type} (enc : α → List Byte) {n : Nat} (h : ∀ a, (enc a).length = n) (l : List α) :
    (l.flatMap enc).length = n * l.length := by
  induction l with
  | nil => rfl
  | cons a l ih => rw [List.flatMap_cons, List.length_append, ih, h, List.length_cons, Nat.mul_succ, Nat.add_comm]

/-- The body of a well-formed request is at most 512 bytes long (R168). -/
theorem length_of_requestBody {i : Instr} {k : RequestKind} {body : List Byte} (hwell : i.wellFormed = true)
    (hbody : requestBody i = some (k, body)) : body.length ≤ 512 := by
  have hfits : i.bodyFits = true := by
    simp only [Instr.wellFormed, Bool.and_eq_true] at hwell
    exact hwell.1.1.1
  cases i with
  | frameMalformed | powerOn | engineResetPin | portReset | portResetRelease | settleEnd | fillEnd | periodBoundary
  | accumulationEnd | darkSamplingEnd | wordEnd | slotStart | slotResult | exchangeEnd | patrolTimerExpiry
  | suspectExpiryCheck | concurDeadline | sampleStrobe | lineTimeTick | responseReadOut => exact absurd hbody nofun
  | submitCommand =>
    obtain ⟨rfl, rfl⟩ := Prod.mk.inj (Option.some.inj hbody)
    have hle := of_decide_eq_true hfits
    simp only [List.length_append, List.length_cons, List.length_nil, sendHalf, u16, Config.maxBody] at hle ⊢
    omega
  | writeSignature | routeEntries | setParams | synthDefine =>
    obtain ⟨rfl, rfl⟩ := Prod.mk.inj (Option.some.inj hbody)
    have hle := of_decide_eq_true hfits
    simp only [listOf, u8, sendHalf, u16, List.length_append, List.length_cons, List.length_nil, Config.maxBody,
      length_flatMap_const (n := 2) sendHalf (fun _ => rfl), length_flatMap_const (n := 3) sendEntry (fun _ => rfl),
      length_flatMap_const (n := 4) sendEcho (fun _ => rfl)] at hle ⊢
    omega
  | readFindings port selector skip =>
    cases selector <;> obtain ⟨rfl, rfl⟩ := Prod.mk.inj (Option.some.inj hbody) <;>
      exact Nat.le_of_ble_eq_true rfl
  | assign port pair owner =>
    obtain ⟨rfl, rfl⟩ := Prod.mk.inj (Option.some.inj hbody)
    obtain ⟨a, b, hsend, -⟩ := optByte_sendOptByte owner
    rw [hsend]
    exact Nat.le_of_ble_eq_true rfl
  | _ =>
    obtain ⟨rfl, rfl⟩ := Prod.mk.inj (Option.some.inj hbody)
    exact Nat.le_of_ble_eq_true rfl

theorem declaredLength_of_le {n : Nat} (h : n ≤ 512) :
    declaredLength (BitVec.ofNat 8 (n / 256)) (BitVec.ofNat 8 n) = n := by
  rw [declaredLength, half_toNat, BitVec.toNat_ofNat, BitVec.toNat_ofNat]
  omega

/-- Kind byte, length and body of a frame, and whatever follows (R168). -/
def frameOf (kind : Byte) (body extra : List Byte) : List Byte :=
  kind :: BitVec.ofNat 8 (body.length / 256) :: BitVec.ofNat 8 body.length :: (body ++ extra)

theorem frameParts_frameOf (kind : Byte) {body : List Byte} (extra : List Byte) (h : body.length ≤ 512) :
    frameParts (frameOf kind body extra) = some (kind, body) := by
  simp [frameParts, frameOf, declaredLength_of_le h, Config.maxBody, h]

theorem frameEnded_frameOf (kind : Byte) (body extra : List Byte) (h : body.length ≤ 512) :
    frameEnded (frameOf kind body extra) = true := by
  simp [frameEnded, frameOf, declaredLength_of_le h]

theorem frameEnded_take_frameOf (kind : Byte) (body : List Byte) (h : body.length ≤ 512) {m : Nat}
    (hm : m < (frameOf kind body []).length) : frameEnded ((frameOf kind body []).take m) = false := by
  match m with
  | 0 | 1 | 2 => rfl
  | m + 3 =>
    simp only [frameOf, List.append_nil, List.length_cons] at hm
    simp only [frameOf, List.take_succ_cons, List.append_nil, frameEnded, declaredLength_of_le h,
      List.length_take, Config.maxBody, Bool.or_eq_false_iff, decide_eq_false_iff_not]
    omega

theorem requestFrame_eq_some {i : Instr} {f : List Byte} (h : requestFrame i = some f) :
    ∃ k body, requestBody i = some (k, body) ∧ f = frameOf (BitVec.ofNat 8 (kindCode k)) body [] := by
  obtain ⟨⟨k, body⟩, hbody, rfl⟩ := Option.map_eq_some_iff.mp h
  exact ⟨k, body, hbody, by simp [frameOf, u8, u16]⟩

theorem exists_requestBody {i : Instr} {p : Port} (hport : i.requestPort = some p)
    (hreq : ∀ fr, i ≠ .frameMalformed fr) : ∃ b, requestBody i = some b := by
  cases i with
  | frameMalformed fr => exact absurd rfl (hreq fr)
  | powerOn | engineResetPin | portReset | portResetRelease | settleEnd | fillEnd | periodBoundary
  | accumulationEnd | darkSamplingEnd | wordEnd | slotStart | slotResult | exchangeEnd | patrolTimerExpiry
  | suspectExpiryCheck | concurDeadline | sampleStrobe | lineTimeTick | responseReadOut => exact absurd hport nofun
  | readFindings _ selector => cases selector <;> exact ⟨_, rfl⟩
  | _ => exact ⟨_, rfl⟩

theorem kindOf_eq_none {kind : Byte} (h : kind = 0#8 ∨ 36 < kind.toNat) : kindOf kind = none := by
  unfold kindOf
  split
  · rfl
  · next hne =>
    rcases h with rfl | h
    · exact absurd rfl hne
    · exact List.getElem?_eq_none (show catalogue.length ≤ kind.toNat - 1 from by
        have : catalogue.length = 36 := rfl
        omega)

theorem decodeFrame_of_kind {port : Port} {kind : Byte} {bytes : List Byte} (hhead : bytes.head? = some kind)
    (hkind : kindOf kind = none) : decodeFrame ⟨port, bytes⟩ = none := by
  unfold decodeFrame
  cases hparts : frameParts bytes with
  | none => rfl
  | some f =>
    have hfirst : f.1 = kind := by
      unfold frameParts at hparts
      split at hparts
      · dsimp only at hparts
        split at hparts
        · obtain rfl := Option.some.inj hparts
          exact Option.some.inj hhead
        · exact absurd hparts nofun
      · exact absurd hparts nofun
    simp [hfirst, hkind]

/-- Settles O15. -/
theorem requestFramesRoundTrip : Obligations.RequestFramesRoundTrip := by
  refine ⟨fun i p f extra hwell hport hframe => ?_, fun i p hport hreq => ?_, by decide, fun frame i h => ?_,
    fun frame kind hhead hkind => decodeFrame_of_kind hhead (kindOf_eq_none hkind)⟩
  · obtain ⟨k, body, hbody, rfl⟩ := requestFrame_eq_some hframe
    have hlen := length_of_requestBody hwell hbody
    refine ⟨fun m hm => frameEnded_take_frameOf _ _ hlen hm, frameEnded_frameOf _ _ _ hlen, ?_⟩
    have happend : frameOf (BitVec.ofNat 8 (kindCode k)) body [] ++ extra =
        frameOf (BitVec.ofNat 8 (kindCode k)) body extra := by simp [frameOf]
    rw [happend]
    simp [decodeFrame, frameParts_frameOf _ _ hlen, decodeBody_requestBody hwell hport hbody]
  · obtain ⟨⟨k, body⟩, hbody⟩ := exists_requestBody hport hreq
    exact ⟨k, body, hbody, by rw [requestFrame, hbody]; rfl⟩
  · have hspelled := decodeFrame_spelled h
    exact ⟨hspelled.port, hspelled.wellFormed, hspelled.request⟩

end Sys2Proof.Machine
end

section
/-! The front command and the writers of the registers (O1, O2, O3), read off the moves. -/

namespace Sys2Proof.Machine

/-! ### O1 -/

theorem Does.pending {c : Instr} {s t : State} (h : Does c s t) : t.pending = s.pending := by
  cases h.base with
  | same _ hsame => exact hsame.pending
  | powerOn _ _ hpending => exact hpending
  | setParams => rfl
  | tick => rfl

/-- Settles O1. -/
theorem stepTakesFrontCommand : Obligations.StepTakesFrontCommand := by
  refine ⟨fun c rest s h => ?_, fun s h => ?_, fun c s => ?_⟩
  · unfold step
    rw [h]
  · refine ⟨_, by unfold step; rw [h]; rfl, rfl, fun p => ?_⟩
    exact (Vector.getElem_map endHandling p.isLt : (s.ports.map endHandling)[p.val] = _)
  · obtain ⟨t, ht, u, v, hsu, hdoes, hvt⟩ := exec_does c s
    exact ⟨t, ht, hvt.pending.trans (hdoes.pending.trans hsu.pending)⟩

/-! ### O2 -/

/-- A command of no port is carried only by itself. -/
theorem eq_of_carried {c d : Instr} {s : State} (h : carried c s = d) (hport : d.requestPort = none) : c = d :=
  h ▸ (carried_requestPort (h ▸ hport)).symm

/-- Settles O2: every write of a pair record is one of the map's writes. -/
theorem pairRecordWriters : Obligations.PairRecordWriters := by
  intro c s t p h hpower
  obtain ⟨u, v, hsu, hdoes, hvt⟩ := does_of_exec h
  rw [hvt.pair, ← hsu.pair]
  generalize hc : carried c s = d at hdoes
  have hpair : ∀ (q : PairNo) (f : Pair → Pair), (v.lineMap = (u.setPair q f).lineMap) →
      v.pair p = if q = p then f (u.pair p) else u.pair p := fun q f hmap => by
    rw [← State.pair_setPair, State.pair, State.pair, hmap]
  rcases hdoes.map with hsame | ⟨w, hwrite, hmap⟩
  · rw [hsame.pair]
    exact ⟨fun _ => rfl, fun _ => ⟨rfl, rfl, fun _ => rfl, fun _ => rfl⟩⟩
  · cases hwrite with
    | powerOn straps => exact absurd (eq_of_carried hc rfl) (hpower straps)
    | housing =>
      have hsame : v.pair p = u.pair p := by rw [State.pair, State.pair, hmap]; rfl
      rw [hsame]
      exact ⟨fun _ => rfl, fun _ => ⟨rfl, rfl, fun _ => rfl, fun _ => rfl⟩⟩
    | routeOpen =>
      rw [hpair _ _ hmap]
      exact ⟨fun _ => by split <;> rfl, fun hno => absurd rfl (hno _ _ _ _ _ _)⟩
    | routeEntries =>
      rw [hpair _ _ hmap]
      exact ⟨fun _ => by split <;> rfl, fun _ => ⟨by split <;> rfl, by split <;> rfl,
        fun hno => absurd rfl (hno _ _ _ _), fun _ => by split <;> rfl⟩⟩
    | routeClose =>
      rw [hpair _ _ hmap]
      exact ⟨fun _ => by split <;> rfl, fun _ => ⟨by split <;> rfl, by split <;> rfl,
        fun _ => by split <;> rfl, fun hno => absurd rfl (hno _ _)⟩⟩
    | assign =>
      rw [hpair _ _ hmap]
      exact ⟨fun hno => absurd rfl (hno _ _ _), fun _ => ⟨by split <;> rfl, by split <;> rfl,
        fun _ => by split <;> rfl, fun _ => by split <;> rfl⟩⟩

/-! ### O3 -/

theorem enterDark_defn (o : Order) (s : State) : (enterDark o s).synth.defn = s.synth.defn := by
  cases o with
  | darkChips n =>
    unfold enterDark
    dsimp only
    split
    · split <;> rfl
    · rfl
  | _ => rfl

theorem giveOrder_defn (o : Order) (s : State) : (giveOrder o s).synth.defn = s.synth.defn := by
  unfold giveOrder
  repeat' split
  all_goals first
    | rfl
    | exact enterDark_defn _ _

theorem settleInto_defn (o : Order) (s : State) : (settleInto o s).synth.defn = s.synth.defn := by
  unfold settleInto
  split
  · rfl
  · rfl
  · exact enterDark_defn ..
  · exact enterDark_defn ..
  · rfl

/-- The dark offset that stands stands through every move but a calibration and a manual write. -/
theorem closed_offset (k : Nat) : Closed (fun s => s.intake.offset = k) where
  quiet hs hquiet := hquiet.offset.trans hs
  order o hs := (giveOrder_intake o _).1.trans hs
  settle _ hs := (settleInto_intake _ _).1.trans hs
  word hs := (afterWord_intake _).1.trans hs
  seq _ hs := hs
  stopAcc hs := hs
  sample _ hs := hs
  release {s} hs := by
    refine Eq.trans ?_ hs
    change (releaseOffset s.intake).offset = _
    unfold releaseOffset
    split <;> rfl
  noise _ hs := hs

theorem closed_role (p : Port) (r : Role) : Closed (fun s => (s.port p).role = r) where
  quiet hs hquiet := (hquiet.role p).trans hs
  order o hs := by rwa [State.port, giveOrder_ports]
  settle _ hs := by rwa [State.port, settleInto_ports]
  word hs := by rwa [State.port, afterWord_ports]
  seq _ hs := hs
  stopAcc hs := hs
  sample _ hs := hs
  release hs := hs
  noise _ hs := hs

theorem closed_defn (d : Option SynthDef) : Closed (fun s => s.synth.defn = d) where
  quiet hs hquiet := by rwa [hquiet.synth]
  order o hs := (giveOrder_defn o _).trans hs
  settle _ hs := (settleInto_defn _ _).trans hs
  word hs := by rwa [afterWord_synth]
  seq _ hs := hs
  stopAcc hs := hs
  sample _ hs := hs
  release hs := hs
  noise _ hs := hs

/-- Settles O3. -/
theorem settingsWriters : Obligations.SettingsWriters := by
  intro c s t h hpower
  obtain ⟨u, v, hsu, hdoes, hvt⟩ := does_of_exec h
  have hcarried : ∀ {d : Instr}, carried c s = d → d.requestPort = none → c = d := eq_of_carried
  have hpower' : ∀ b, carried c s ≠ .powerOn b := fun b hb => hpower b (hcarried hb rfl)
  have hclosed : ∀ {P : State → Prop}, Closed P → P u →
      (∀ p b, c = .portResetRelease p b → P (portReleaseState p b u)) →
      (∀ port v, carried c s = .setDarkModeManual port v →
        P (setIntake (holdOffset (clamp 0 16383 v.toNat) u.intake) u)) →
      (∀ port o q d n e m l f, carried c s = .synthDefine port o q d n e m l → P (holdDefinition f u)) →
      (∀ a, c = .darkSamplingEnd → P (setIntake (intakeAfter (decideDark u.intake a) a u.intake) u)) → P v :=
    fun hP hu hrel hman hdef hcal => hP.does hdoes hu (fun b hb => absurd hb (hpower' b))
      (fun p b hb => hrel p b (hcarried hb rfl)) hman hdef fun a ha _ => hcal a (hcarried ha rfl)
  refine ⟨?_, fun hno => ?_, fun hno => ?_, fun hno hcal => ?_, fun p hno => ?_, fun hno => ?_⟩
  · split
    · next htick =>
      subst htick
      cases h
      rfl
    · next htick =>
      rw [hvt.lineTime, ← hsu.lineTime]
      generalize hd : carried c s = d at hdoes hpower'
      cases hdoes.base with
      | same _ hsame => exact hsame.lineTime
      | powerOn b => exact absurd rfl (hpower' b)
      | setParams => rfl
      | tick => exact absurd (hcarried hd rfl) htick
  · rw [hvt.params, ← hsu.params]
    generalize carried c s = d at hdoes hno hpower'
    cases hdoes.base with
    | same _ hsame => exact hsame.params
    | powerOn b => exact absurd rfl (hpower' b)
    | setParams a l => exact absurd rfl (hno a l)
    | tick => rfl
  · rw [hvt.sig, ← hsu.sig]
    generalize carried c s = d at hdoes hno hpower'
    cases hdoes.sig with
    | keep _ hkeep => exact hkeep.freeze
    | powerOn b => exact absurd rfl (hpower' b)
    | freeze a x y => exact absurd rfl (hno a x y)
  · rw [hvt.intake, ← hsu.intake]
    refine hclosed (closed_offset _) rfl (fun p b _ => ?_) (fun port v hm => absurd hm (hno port v))
      (fun _ _ _ _ _ _ _ _ _ _ => rfl) fun a ha => absurd ha hcal
    unfold portReleaseState
    split <;> rfl
  · rw [hvt.role, ← hsu.role]
    refine hclosed (closed_role p _) rfl (fun q b hq => ?_) (fun _ _ _ => rfl)
      (fun _ _ _ _ _ _ _ _ _ _ => rfl) fun a ha => rfl
    have hne : q ≠ p := fun hqp => hno b (hqp ▸ hq)
    unfold portReleaseState
    split
    · rw [raiseNotice_role, State.port_setPort, if_neg hne]
    · rfl
  · rw [hvt.synth, ← hsu.synth]
    refine hclosed (closed_defn _) rfl (fun p b _ => ?_) (fun _ _ _ => rfl)
      (fun a b d e f g h i _ hd => absurd hd (hno a b d e f g h i)) fun a ha => rfl
    unfold portReleaseState
    split <;> rfl

end Sys2Proof.Machine
end

section
/-! The part at power-on and its outputs. Settles O4, O43 and O58. -/

namespace Sys2Proof.Machine

/-- The four ports as POWER_ON leaves them (R170, R180). -/
def portsAtPowerOn (straps : BitVec 4) (s : State) : Vector PortState 4 :=
  ⟨#[portAtPowerOn straps s 0, portAtPowerOn straps s 1, portAtPowerOn straps s 2,
     portAtPowerOn straps s 3], rfl⟩

/-- POWER_ON gives the reset state, but for the ports, the queue and the count of the strobes: the start-up
DARK job is the only job and is granted at once (R49, R122). -/
theorem powerOnState_eq (straps : BitVec 4) (s : State) :
    powerOnState straps s =
      { State.reset with
        ports := portsAtPowerOn straps s, pending := s.pending
        seq := { State.reset.seq with strobes := (parkSwitch s.seq).strobes } } := rfl

theorem portsAtPowerOn_get (straps : BitVec 4) (s : State) (p : Port) :
    (portsAtPowerOn straps s)[p] = portAtPowerOn straps s p := by
  fin_cases p <;> rfl

theorem powerOnState_port (straps : BitVec 4) (s : State) (p : Port) :
    (powerOnState straps s).port p =
      { role := if p = 0 ∧ straps.getLsbD 0 = true then .station else .tenant
        pendingSet := 0x800#12, mask := 0#12, frame := .idle, csLow := false, received := []
        response := [], prstLow := (s.port p).prstLow, miso := [] } := by
  have hrole : Role.ofStrap p (straps.getLsbD p.val)
      = if p = 0 ∧ straps.getLsbD 0 = true then .station else .tenant := by
    by_cases hp : p = 0
    · subst hp; rfl
    · simp [Role.ofStrap, hp]
  rw [powerOnState_eq]
  show (portsAtPowerOn straps s)[p] = _
  rw [portsAtPowerOn_get, portAtPowerOn, PortState.powerOn, hrole]

/-! ### What reset leaves in the tables -/

theorem tableGet_replicate {α : Type} {n : Nat} (i : Nat) (d : α) :
    tableGet (Vector.replicate n d) i d = d := by
  by_cases h : i < n
  · simp [tableGet_eq, h]
  · exact tableGet_of_le _ _ _ (Nat.le_of_not_lt h)

@[simp] theorem reset_housing (h : Nat) : State.reset.housing h = Housing.powerOn :=
  tableGet_replicate _ _

@[simp] theorem reset_pair (p : PairNo) : State.reset.pair p = Pair.powerOn := by
  simp [State.pair, State.reset, State.cleared]

@[simp] theorem reset_sigAt (p : PairNo) (k : Nat) : State.reset.sigAt p k = SigEntry.powerOn := by
  have hrow : State.reset.sig.entries[p] = Vector.replicate 192 SigEntry.powerOn := by
    simp [State.reset, State.cleared]
  rw [State.sigAt, hrow, tableGet_replicate]

theorem reset_cells (c : Cell) (hc : c ∈ State.reset.corr.cells.toList) : c = Cell.cleared := by
  have hcells : State.reset.corr.cells = Vector.replicate 64 Cell.cleared := rfl
  rw [hcells, Vector.toList_replicate] at hc
  exact List.eq_of_mem_replicate hc

/-- Settles O4: POWER_ON evaluates to the reset state whatever it starts from. -/
theorem powerOnGivesResetState : Obligations.PowerOnGivesResetState := by
  refine ⟨fun straps s => ⟨powerOnState straps s, rfl, ?_, ?_, powerOnState_port straps s, ?_⟩, ?_⟩
  · rw [powerOnState_eq]
  · rw [powerOnState_eq]; rfl
  · rw [powerOnState_eq]; rfl
  · refine ⟨rfl, rfl, reset_housing, reset_pair, rfl, rfl, rfl, rfl, rfl, rfl, rfl, rfl, rfl, rfl, rfl, rfl,
      rfl, rfl, rfl, reset_cells, reset_sigAt, ?_, rfl, ⟨Job.startUp, rfl, rfl, rfl, rfl, rfl, rfl⟩, rfl, rfl,
      ?_, ?_, ?_, rfl, rfl, rfl, rfl, ?_⟩
    · intro p; simp [State.frozen, State.reset, State.cleared]
    · intro p; simp [State.reset, State.cleared]
    · intro p; simp [State.reset, State.cleared]
    · intro p; simp [State.reset, State.cleared, ResultList.powerOn]
    · intro p; fin_cases p <;> exact ⟨rfl, rfl, rfl, rfl, rfl, rfl⟩

/-- Settles O58: right after reset the tables are at their power-on values, and the start-up DARK job is the
only job. -/
theorem lawsHoldAtReset : Obligations.LawsHoldAtReset := by
  have hjobs : ∀ j ∈ State.reset.sched.jobs, j = Job.startUp := fun j hj => List.mem_singleton.mp hj
  have hlaw : JobsLaw State.reset := by
    refine ⟨List.nodup_singleton _, ?_, ?_, fun p => ?_, ?_, fun p => ?_, ?_⟩
    · intro j hj; rw [hjobs j hj]; decide
    · intro j hj; rw [hjobs j hj]; exact ⟨by decide, trivial⟩
    all_goals exact (List.countP_le_length (l := [Job.startUp])).trans (by decide)
  refine ⟨⟨by decide, List.Pairwise.nil⟩, ?_, ?_, ⟨by decide, ?_⟩, paramsLaw_default, ⟨by decide, by decide, rfl, rfl⟩, ?_,
    hlaw, ⟨hlaw, ⟨?_, ?_, ?_, ?_⟩, ?_, ⟨?_, ?_⟩, ?_⟩, ⟨?_, ?_⟩, ?_⟩
  · intro p hp; simp [Pair.powerOn] at hp
  · intro p hp; simp [Pair.powerOn] at hp
  · intro a ha; cases ha; decide
  · intro p k; rw [reset_sigAt]; exact ⟨by decide, rfl, rfl, rfl⟩
  · decide
  · exact List.nodup_nil
  · exact fun r hr => absurd hr List.not_mem_nil
  · intro j hj hw; rw [hjobs j hj] at hw; cases hw
  · exact fun r hr => absurd hr nofun
  · exact fun h => absurd rfl h
  · exact fun h => absurd rfl h
  · intro j hj c hc; rw [hjobs j hj] at hc; cases hc
  · exact fun r hr => absurd hr List.not_mem_nil
  · intro j hj c p hc; rw [hjobs j hj] at hc; cases hc
  · intro j hj c p hc; rw [hjobs j hj] at hc; cases hc

/-! ### Outputs -/

theorem chipUs_of_listed {code period : Nat} (h : [5, 10, 20, 40, 80][code]? = some period) :
    chipUs code = period := by
  obtain ⟨hlt, rfl⟩ := List.getElem?_eq_some_iff.mp h
  replace hlt : code < 5 := hlt
  interval_cases code <;> rfl

/-- Within a word's symbols the tone follows the symbol that stands (R28). -/
theorem toneWave_iff {symbols : List Bool} {us : Nat} {symbol : Bool}
    (h : symbols[us / 4000]? = some symbol) :
    toneWave symbols us = true ↔ us % 4000 / (if symbol then 200 else 400) % 2 = 0 := by
  obtain ⟨hlt, hget⟩ := List.getElem?_eq_some_iff.mp h
  have hin : us < symbols.length * 4000 := by omega
  simp [toneWave, List.getD, h, hin]

/-- Settles O43, state by state of the sequencer. -/
theorem outputsFollowSequencer : Obligations.OutputsFollowSequencer := by
  intro q us
  refine ⟨?_, ?_, ?_, ?_⟩
  · intro hstate p prof hcur
    have hwave : modOut q us = chipOut q.genOrder q.gen := by
      obtain h | h := hstate <;> simp [modOut, h]
    have hdrv : drvOut q = prof.drive := by
      obtain h | h := hstate <;> simp [drvOut, h, hcur]
    have hstrobe : strobeUs q = some (chipUs prof.chipCode) := by
      obtain h | h := hstate <;> simp [strobeUs, h, hcur]
    refine ⟨hwave, hdrv, fun period hperiod => ?_⟩
    rw [hstrobe, chipUs_of_listed hperiod]
  · intro hstate p prof hcur
    refine ⟨by simp [drvOut, hstate, hcur], by simp [strobeUs, hstate], fun symbol i hsymbol hi => ?_⟩
    subst hi
    simpa [modOut, hstate] using toneWave_iff hsymbol
  · rintro (h | h | h) <;> exact ⟨by simp [modOut, h], by simp [drvOut, h], by simp [strobeUs, h]⟩
  · intro h
    exact ⟨by simp [modOut, h], by simp [drvOut, h], by simp [strobeUs, h]⟩

end Sys2Proof.Machine
end

section
/-! The arithmetic of a pass and of a word. Settles O60. The period of the chip generator rests on two facts:
a register step is linear over the bits, so that a long run is computed by repeated squaring, and a run that
meets every nonzero value of the n stages has its ones counted by the values alone. -/

namespace Sys2Proof.Machine

/-! ### A step of the register is linear (R19) -/

theorem feedback_foldl_xor {w : Nat} (taps : List Nat) (x y : BitVec w) (a b : Bool) :
    taps.foldl (fun c i => c ^^ stage (x ^^^ y) i) (a ^^ b)
      = (taps.foldl (fun c i => c ^^ stage x i) a ^^ taps.foldl (fun c i => c ^^ stage y i) b) := by
  induction taps generalizing a b with
  | nil => rfl
  | cons i taps ih =>
    have hstage : ((a ^^ b) ^^ stage (x ^^^ y) i) = ((a ^^ stage x i) ^^ (b ^^ stage y i)) := by
      simp only [stage, BitVec.getLsbD_xor]
      cases a <;> cases b <;> simp
    simp only [List.foldl_cons, hstage, ih]

theorem feedback_xor {w : Nat} (taps : List Nat) (x y : BitVec w) :
    feedback taps (x ^^^ y) = (feedback taps x ^^ feedback taps y) :=
  feedback_foldl_xor taps x y false false

theorem getLsbD_chipStep {n i : Nat} (hi : i < 15) (r : BitVec 15) :
    (chipStep n r).getLsbD i =
      if i = 0 then feedback (chipTaps n) r else r.getLsbD (i - 1) && decide (i < n) := by
  have hbit : ∀ b : Bool, (BitVec.ofNat 15 b.toNat).getLsbD i = (b && decide (i = 0)) := by
    intro b
    cases b <;> simp [hi]
  simp only [chipStep, shiftStep, BitVec.getLsbD_or, BitVec.getLsbD_and, BitVec.getLsbD_shiftLeft, hbit,
    BitVec.getLsbD_ofNat, Nat.testBit_two_pow_sub_one, hi]
  by_cases h0 : i = 0
  · simp [h0]
  · simp [h0]

theorem chipStep_xor (n : Nat) (x y : BitVec 15) :
    chipStep n (x ^^^ y) = chipStep n x ^^^ chipStep n y := by
  refine BitVec.eq_of_getLsbD_eq fun i hi => ?_
  rw [BitVec.getLsbD_xor, getLsbD_chipStep hi, getLsbD_chipStep hi, getLsbD_chipStep hi]
  split
  · rw [feedback_xor]
  · rw [BitVec.getLsbD_xor, Bool.and_xor_distrib_right]

/-! ### Linear maps given by the images of the single bits -/

/-- The exclusive-or of the images of the bits of `v` set from place `i` on. -/
def linMap : List (BitVec 15) → Nat → BitVec 15 → BitVec 15
  | [], _, _ => 0#15
  | b :: bs, i, v => (if v.getLsbD i then b else 0#15) ^^^ linMap bs (i + 1) v

def bitBasis : List (BitVec 15) := (List.range 15).map (BitVec.twoPow 15)

theorem getLsbD_ite_zero (c : Bool) (b : BitVec 15) (j : Nat) :
    (if c = true then b else 0#15).getLsbD j = (c && b.getLsbD j) := by
  cases c <;> simp

theorem linMap_bitBasis (v : BitVec 15) : linMap bitBasis 0 v = v := by
  refine BitVec.eq_of_getLsbD_eq fun i hi => ?_
  simp only [bitBasis, List.range, List.range.loop, List.map, linMap, BitVec.getLsbD_xor,
    getLsbD_ite_zero, BitVec.getLsbD_twoPow]
  interval_cases i <;> simp

theorem linMap_xor (bs : List (BitVec 15)) (i : Nat) (x y : BitVec 15) :
    linMap bs i (x ^^^ y) = linMap bs i x ^^^ linMap bs i y := by
  induction bs generalizing i with
  | nil => simp [linMap]
  | cons b bs ih =>
    have hhead : (if (x ^^^ y).getLsbD i then b else 0#15)
        = (if x.getLsbD i then b else 0#15) ^^^ (if y.getLsbD i then b else 0#15) := by
      rw [BitVec.getLsbD_xor]
      cases x.getLsbD i <;> cases y.getLsbD i <;> simp
    rw [linMap, linMap, linMap, ih, hhead]
    ac_rfl

/-- A linear map of a linear map's value: its images are those of the images. -/
theorem linMap_map {f : BitVec 15 → BitVec 15} (hf : ∀ x y, f (x ^^^ y) = f x ^^^ f y)
    (bs : List (BitVec 15)) (i : Nat) (v : BitVec 15) : linMap (bs.map f) i v = f (linMap bs i v) := by
  have hzero : f 0#15 = 0#15 := by simpa using hf 0#15 0#15
  induction bs generalizing i with
  | nil => exact hzero.symm
  | cons b bs ih =>
    rw [List.map_cons, linMap, linMap, hf, ih]
    split <;> simp [hzero]

theorem linMap_chipStep (n : Nat) : linMap (bitBasis.map (chipStep n)) 0 = chipStep n := by
  funext v
  rw [linMap_map (chipStep_xor n), linMap_bitBasis]

/-- `m` steps of a linear map by repeated squaring, for `m` below `2 ^ k`. -/
def jump : Nat → Nat → List (BitVec 15) → BitVec 15 → BitVec 15
  | 0, _, _, v => v
  | k + 1, m, bs, v =>
    jump k (m / 2) (bs.map (linMap bs 0)) (if m % 2 = 1 then linMap bs 0 v else v)

theorem jump_eq (k m : Nat) (hm : m < 2 ^ k) (bs : List (BitVec 15)) (v : BitVec 15) :
    jump k m bs v = (linMap bs 0)^[m] v := by
  induction k generalizing m bs v with
  | zero =>
    obtain rfl : m = 0 := by simpa using hm
    rfl
  | succ k ih =>
    have hsq : linMap (bs.map (linMap bs 0)) 0 = (linMap bs 0)^[2] := by
      funext v; exact linMap_map (linMap_xor bs 0) bs 0 v
    have hsteps : (linMap bs 0)^[m] v = (linMap bs 0)^[2 * (m / 2)] ((linMap bs 0)^[m % 2] v) := by
      rw [← Function.iterate_add_apply, Nat.div_add_mod]
    rw [jump, ih _ (by omega), hsq, ← Function.iterate_mul, hsteps]
    obtain h | h := Nat.mod_two_eq_zero_or_one m <;> simp [h]

theorem chipStep_iterate (n m : Nat) (hm : m < 2 ^ 15) (v : BitVec 15) :
    (chipStep n)^[m] v = jump 15 m (bitBasis.map (chipStep n)) v := by
  rw [jump_eq 15 m hm, linMap_chipStep]

/-! ### The period (R19) -/

/-- The prime factors of the period of an order. -/
def periodFactors : Nat → List Nat
  | 11 => [23, 89]
  | 12 => [3, 3, 5, 7, 13]
  | 13 => [8191]
  | 14 => [3, 43, 127]
  | _ => [7, 31, 151]

/-- The steps from the seed that decide the period: the whole one, and each of its maximal parts. -/
theorem jump_from_seed : ∀ n ∈ List.range' 11 5,
    jump 15 (2 ^ n - 1) (bitBasis.map (chipStep n)) (chipSeed n) = chipSeed n ∧
    ∀ p ∈ periodFactors n,
      jump 15 ((2 ^ n - 1) / p) (bitBasis.map (chipStep n)) (chipSeed n) ≠ chipSeed n := by
  decide +kernel

theorem periodFactors_prod : ∀ n ∈ List.range' 11 5, (periodFactors n).prod = 2 ^ n - 1 := by decide

theorem prime_of_mem_periodFactors {n q : Nat} (h1 : 11 ≤ n) (h2 : n ≤ 15) (hq : q ∈ periodFactors n) :
    q.Prime := by
  interval_cases n <;> simp only [periodFactors, List.mem_cons, List.not_mem_nil, or_false] at hq <;>
    rcases hq with rfl | rfl | rfl | rfl | rfl <;> norm_num

/-- The number held in the stages after `i` steps from the seed. -/
def stageValue (n i : Nat) : Nat := ((chipStep n)^[i] (chipSeed n)).toNat

theorem two_pow_order_le {n : Nat} (h2 : n ≤ 15) : 2 ^ n ≤ 2 ^ 15 := Nat.pow_le_pow_right (by norm_num) h2

theorem two_pow_eq_double {n : Nat} (h1 : 11 ≤ n) : 2 ^ n = 2 * 2 ^ (n - 1) := by
  rw [← pow_succ', Nat.sub_add_cancel (by omega)]

/-- The numbers of `n` bits with the highest bit set are the upper half. -/
theorem filter_testBit_eq_Icc {n : Nat} (h1 : 11 ≤ n) :
    (Finset.Icc 1 (2 ^ n - 1)).filter (fun v => v.testBit (n - 1)) = Finset.Icc (2 ^ (n - 1)) (2 ^ n - 1) := by
  have hpow := two_pow_eq_double h1
  have hpos : 0 < 2 ^ (n - 1) := by positivity
  ext v
  have hbit : v < 2 ^ n → (v.testBit (n - 1) = true ↔ 2 ^ (n - 1) ≤ v) := by
    intro hv
    have hdiv : v / 2 ^ (n - 1) < 2 := Nat.div_lt_of_lt_mul (by omega)
    rw [Nat.testBit_eq_decide_div_mod_eq, decide_eq_true_iff, Nat.mod_eq_of_lt hdiv,
      ← Nat.one_le_div_iff hpos]
    omega
  rw [Finset.mem_filter, Finset.mem_Icc, Finset.mem_Icc]
  constructor
  · rintro ⟨⟨_, hv⟩, hb⟩
    exact ⟨(hbit (by omega)).mp hb, hv⟩
  · rintro ⟨hb, hv⟩
    exact ⟨⟨by omega, hv⟩, (hbit (by omega)).mpr hb⟩

section
variable {n : Nat} (h1 : 11 ≤ n) (h2 : n ≤ 15)
include h1 h2

theorem chipStep_period : (chipStep n)^[2 ^ n - 1] (chipSeed n) = chipSeed n := by
  have hle := two_pow_order_le h2
  rw [chipStep_iterate n _ (by omega)]
  exact (jump_from_seed n (by simp; omega)).1

theorem minimalPeriod_chipStep : Function.minimalPeriod (chipStep n) (chipSeed n) = 2 ^ n - 1 := by
  have hmem : n ∈ List.range' 11 5 := by simp; omega
  have hle := two_pow_order_le h2
  obtain ⟨c, hc⟩ : Function.minimalPeriod (chipStep n) (chipSeed n) ∣ 2 ^ n - 1 :=
    Function.IsPeriodicPt.minimalPeriod_dvd (chipStep_period h1 h2)
  by_contra hne
  obtain ⟨p, hp, e, rfl⟩ : ∃ p, p.Prime ∧ p ∣ c := Nat.exists_prime_and_dvd (by rintro rfl; omega)
  have hfactor : p ∈ periodFactors n := by
    refine mem_list_primes_of_dvd_prod hp.prime
      (fun q hq => (prime_of_mem_periodFactors h1 h2 hq).prime) ?_
    rw [periodFactors_prod n hmem, hc]
    exact dvd_mul_of_dvd_right (dvd_mul_right p e) _
  have hpart : (2 ^ n - 1) / p = Function.minimalPeriod (chipStep n) (chipSeed n) * e := by
    rw [hc, show Function.minimalPeriod (chipStep n) (chipSeed n) * (p * e)
      = p * (Function.minimalPeriod (chipStep n) (chipSeed n) * e) by ring, Nat.mul_div_cancel_left _ hp.pos]
  refine (jump_from_seed n hmem).2 p hfactor ?_
  rw [← chipStep_iterate n _ (lt_of_le_of_lt (Nat.div_le_self _ _) (by omega)), hpart]
  exact (Function.isPeriodicPt_minimalPeriod _ _).mul_const e

/-- The values that the register runs through: no value of more than `n` bits, and not 0. -/
theorem chipStep_iterate_range {i : Nat} (hi : i < 2 ^ n - 1) :
    stageValue n i ∈ Finset.Icc 1 (2 ^ n - 1) := by
  have hle := two_pow_order_le h2
  have hlt : ((chipStep n)^[i] (chipSeed n)).toNat < 2 ^ n := by
    cases i with
    | zero => rw [Function.iterate_zero, id, chipSeed, BitVec.toNat_ofNat]; omega
    | succ i =>
      rw [Function.iterate_succ_apply']
      refine Nat.lt_pow_two_of_testBit _ fun k hk => ?_
      rw [BitVec.testBit_toNat]
      by_cases hk15 : k < 15
      · rw [getLsbD_chipStep hk15]
        simp [show k ≠ 0 by omega, Nat.not_lt.mpr hk]
      · exact BitVec.getLsbD_of_ge _ _ (by omega)
  have hne : (chipStep n)^[i] (chipSeed n) ≠ 0#15 := by
    intro h0
    have hfixed : chipStep n 0#15 = 0#15 := by simpa using chipStep_xor n 0#15 0#15
    have hseed : chipSeed n = 0#15 := by
      calc chipSeed n = (chipStep n)^[(2 ^ n - 1 - i) + i] (chipSeed n) := by
            rw [Nat.sub_add_cancel hi.le, chipStep_period h1 h2]
        _ = 0#15 := by rw [Function.iterate_add_apply, h0, Function.iterate_fixed hfixed]
    interval_cases n <;> exact absurd hseed (by decide)
  have hpos : ((chipStep n)^[i] (chipSeed n)).toNat ≠ 0 := fun h => hne (BitVec.eq_of_toNat_eq h)
  rw [Finset.mem_Icc, stageValue]
  omega

/-- A run meets each value of the `n` stages but 0 once, and half of all values have a 1 in stage `n`. -/
theorem countP_chipOut :
    (List.range (2 ^ n - 1)).countP (fun i => chipOut n ((chipStep n)^[i] (chipSeed n))) = 2 ^ (n - 1) := by
  have hinj : Set.InjOn (stageValue n) (Finset.range (2 ^ n - 1)) := by
    rw [Finset.coe_range, ← minimalPeriod_chipStep h1 h2]
    exact fun a ha b hb hab => Function.iterate_injOn_Iio_minimalPeriod ha hb (BitVec.eq_of_toNat_eq hab)
  have himage : (Finset.range (2 ^ n - 1)).image (stageValue n) = Finset.Icc 1 (2 ^ n - 1) := by
    refine Finset.eq_of_subset_of_card_le (Finset.image_subset_iff.mpr fun i hi => ?_) ?_
    · exact chipStep_iterate_range h1 h2 (Finset.mem_range.mp hi)
    · rw [Finset.card_image_of_injOn hinj]; simp
  have hpow := two_pow_eq_double h1
  have hpos : 0 < 2 ^ (n - 1) := by positivity
  calc (List.range (2 ^ n - 1)).countP (fun i => chipOut n ((chipStep n)^[i] (chipSeed n)))
      = Nat.count (fun i => (stageValue n i).testBit (n - 1) = true) (2 ^ n - 1) := by
        rw [Nat.count]
        congr 1
        funext i
        rw [stageValue, BitVec.testBit_toNat]
        exact (Bool.decide_coe _).symm
    _ = ((Finset.range (2 ^ n - 1)).filter (fun i => (stageValue n i).testBit (n - 1) = true)).card :=
        Nat.count_eq_card_filter_range _ _
    _ = (((Finset.range (2 ^ n - 1)).image (stageValue n)).filter (fun v => v.testBit (n - 1))).card := by
        rw [Finset.filter_image]
        exact (Finset.card_image_of_injOn (hinj.mono (Finset.coe_subset.mpr (Finset.filter_subset _ _)))).symm
    _ = 2 ^ (n - 1) := by
        rw [himage, filter_testBit_eq_Icc h1, Nat.card_Icc]
        omega

end

/-! ### Amplitudes, peaks and thresholds (R61, R63, R64) -/

theorem amplitude_eq_floor {n : Nat} (hn : 2 ≤ n) (q : Nat) (a : Int) :
    amplitude n q a = ⌊((a : ℚ) + 2 ^ (n - 2 + q)) / 2 ^ (n - 1 + q)⌋ := by
  have hexp : n - 1 + q - 1 = n - 2 + q := by omega
  have hcast : ((a : ℚ) + 2 ^ (n - 2 + q)) / 2 ^ (n - 1 + q)
      = ((a + 2 ^ (n - 2 + q) : Int) : ℚ) / ((2 ^ (n - 1 + q) : Nat) : ℚ) := by push_cast; rfl
  rw [amplitude, hexp, hcast, Rat.floor_intCast_div_natCast]
  push_cast
  rfl

/-- The better of two cells of a window: the larger amplitude, the first of them among equals. -/
def betterPeak (best d : Int × Int) : Int × Int := if best.2 < d.2 then d else best

/-- A cell is the peak of a list: one of them, of the largest amplitude, and of the lowest offset among
these (R63). -/
def IsPeak (m : Int × Int) (l : List (Int × Int)) : Prop :=
  m ∈ l ∧ ∀ d ∈ l, d.2 ≤ m.2 ∧ (d.2 = m.2 → m.1 ≤ d.1)

theorem isPeak_append {m d : Int × Int} {l : List (Int × Int)} (h : IsPeak m l)
    (hasc : ∀ x ∈ l, x.1 < d.1) : IsPeak (betterPeak m d) (l ++ [d]) := by
  obtain ⟨hmem, hbest⟩ := h
  have hm := hasc m hmem
  rw [betterPeak]
  split
  · next hlt =>
    refine ⟨by simp, fun x hx => ?_⟩
    obtain hx | hx := List.mem_append.mp hx
    · have := (hbest x hx).1
      exact ⟨by omega, by omega⟩
    · rw [List.mem_singleton.mp hx]; exact ⟨le_rfl, fun _ => le_rfl⟩
  · next hle =>
    refine ⟨by simp [hmem], fun x hx => ?_⟩
    obtain hx | hx := List.mem_append.mp hx
    · exact hbest x hx
    · rw [List.mem_singleton.mp hx]; exact ⟨by omega, fun _ => hm.le⟩

theorem isPeak_foldl (rest : List (Int × Int)) {m : Int × Int} {l : List (Int × Int)} (h : IsPeak m l)
    (hasc : ((l ++ rest).map Prod.fst).Pairwise (· < ·)) :
    IsPeak (rest.foldl betterPeak m) (l ++ rest) := by
  induction rest generalizing m l with
  | nil => simpa using h
  | cons d rest ih =>
    have hbelow : ∀ x ∈ l, x.1 < d.1 := by
      intro x hx
      rw [List.map_append, List.pairwise_append] at hasc
      exact hasc.2.2 _ (List.mem_map_of_mem hx) _ (by simp)
    have hassoc : l ++ d :: rest = (l ++ [d]) ++ rest := by simp
    rw [hassoc] at hasc ⊢
    exact ih (isPeak_append h hbelow) hasc

theorem isPeak_peakOf (c : Int × Int) (rest : List (Int × Int))
    (hasc : ((c :: rest).map Prod.fst).Pairwise (· < ·)) : IsPeak (peakOf (c :: rest)) (c :: rest) :=
  isPeak_foldl rest (l := [c]) ⟨by simp, by simp⟩ hasc

theorem toList_drop_sixty (cells : Vector Cell 64) :
    cells.toList.drop 60 = [cells[60], cells[61], cells[62], cells[63]] := by
  apply List.ext_getElem
  · simp
  · intro i hi hi'
    have : i < 4 := hi'
    interval_cases i <;> simp

theorem noiseFloor_eq (n q : Nat) (cells : Vector Cell 64) :
    noiseFloor n q cells = ((amplitude n q cells[60].acc).natAbs + (amplitude n q cells[61].acc).natAbs +
      (amplitude n q cells[62].acc).natAbs + (amplitude n q cells[63].acc).natAbs) / 4 := by
  rw [noiseFloor, toList_drop_sixty]
  simp [add_assoc]

/-! ### Command words (R138, R141) -/

theorem length_bitsMsb (width v : Nat) : (bitsMsb width v).length = width := by simp [bitsMsb]

theorem length_contentBits (p : PairNo) (c : CommandFields) (w : CmdWord) (toggle : Bool) :
    (contentBits p c w toggle).length = 34 := by
  simp [contentBits, length_bitsMsb]

theorem bitsMsb_one (v : Nat) : bitsMsb 1 (v % 2) = [decide (v % 2 = 1)] := by
  obtain h | h := Nat.mod_two_eq_zero_or_one v <;> simp [bitsMsb, h]

theorem wordOpcode_eq (w : CmdWord) (op : Opcode) :
    wordOpcode w op = if w = .nopPrefix then 0 else opcodeCode op := by
  cases w <;> rfl

theorem wordMore_eq (w : CmdWord) (op : Opcode) :
    wordMore w op = decide (op = .trimGain ∧ w = .word1) := by
  simp [wordMore, Bool.and_comm]

theorem wordArgument_eq (w : CmdWord) (op : Opcode) (arg : BitVec 16) :
    wordArgument w op arg = if w = .nopPrefix then 0
      else if op = .trimGain ∧ w = .word1 then arg.toNat / 256 else arg.toNat % 256 := by
  cases w <;> simp [wordArgument]

/-- The content bits with each field written out (R141). -/
theorem contentBits_eq (p : PairNo) (c : CommandFields) (w : CmdWord) (toggle : Bool) :
    contentBits p c w toggle =
      bitsMsb 8 c.housing ++ bitsMsb 3 (p.val / 2) ++ [decide (p.val % 2 = 1)] ++
      bitsMsb 4 (if w = .nopPrefix then 0 else opcodeCode c.opcode) ++
      [decide (c.opcode = .trimGain ∧ w = .word1)] ++ [toggle] ++
      bitsMsb 8 (if w = .nopPrefix then 0 else if c.opcode = .trimGain ∧ w = .word1 then
        c.argument.toNat / 256 else c.argument.toNat % 256) ++ bitsMsb 8 c.slotUnits := by
  rw [contentBits, bitsMsb_one, wordOpcode_eq, wordMore_eq, wordArgument_eq, pairGroup]

/-- The check run over its own six bits leaves 0. -/
theorem crcStep_own_bits : ∀ r : BitVec 6, (bitsMsb 6 r.toNat).foldl crcStep r = 0#6 := by decide

theorem crc6_wordBits (p : PairNo) (c : CommandFields) (w : CmdWord) (toggle : Bool) :
    crc6 (wordBits p c w toggle) = 0#6 := by
  rw [wordBits, crc6, List.foldl_append]
  exact crcStep_own_bits _

theorem opcodeCode_eq_idxOf (op : Opcode) :
    opcodeCode op = [Opcode.nop, .queryPumps, .selectPump, .mute, .unmute, .setLoopback, .trimGain,
      .queryTemp].idxOf op := by
  cases op <;> rfl

/-! ### The check as a remainder (R141) -/

section
open Polynomial

/-- The polynomial of the check, x^6 + x + 1. -/
noncomputable def checkPoly : (ZMod 2)[X] := X ^ 6 + X + 1

/-- A bit as a coefficient. -/
noncomputable def bitPoly (b : Bool) : (ZMod 2)[X] := if b = true then 1 else 0

/-- The check register as a polynomial: place i has weight x^i. -/
noncomputable def regPoly (r : BitVec 6) : (ZMod 2)[X] :=
  bitPoly (r.getLsbD 0) + bitPoly (r.getLsbD 1) * X + bitPoly (r.getLsbD 2) * X ^ 2 +
    bitPoly (r.getLsbD 3) * X ^ 3 + bitPoly (r.getLsbD 4) * X ^ 4 + bitPoly (r.getLsbD 5) * X ^ 5

/-- Bits as a polynomial, the first one the highest power. -/
noncomputable def bitsPoly : List Bool → (ZMod 2)[X]
  | [] => 0
  | b :: bits => bitPoly b * X ^ bits.length + bitsPoly bits

theorem bitPoly_xor (a b : Bool) : bitPoly (a ^^ b) = bitPoly a + bitPoly b := by
  cases a <;> cases b <;> simp [bitPoly, CharTwo.add_self_eq_zero]

/-- The bits of the register after a step: each moves up, and the feedback enters at places 0 and 1. -/
theorem crcStep_getLsbD : ∀ (r : BitVec 6) (b : Bool), ∀ i < 6,
    (crcStep r b).getLsbD i =
      (((decide (0 < i)) && r.getLsbD (i - 1)) ^^ ((decide (i < 2)) && (r.getLsbD 5 ^^ b))) := by
  decide

/-- A step multiplies by x, takes the bit in at x^6 and reduces by the check polynomial. -/
theorem checkPoly_dvd_step (r : BitVec 6) (b : Bool) :
    checkPoly ∣ regPoly (crcStep r b) + (X * regPoly r + bitPoly b * X ^ 6) := by
  have h2 : (2 : (ZMod 2)[X]) = 0 := CharTwo.two_eq_zero
  refine ⟨bitPoly (r.getLsbD 5) + bitPoly b, ?_⟩
  have hreg : regPoly (crcStep r b) = (bitPoly (r.getLsbD 5) + bitPoly b) +
      (bitPoly (r.getLsbD 0) + (bitPoly (r.getLsbD 5) + bitPoly b)) * X + bitPoly (r.getLsbD 1) * X ^ 2 +
      bitPoly (r.getLsbD 2) * X ^ 3 + bitPoly (r.getLsbD 3) * X ^ 4 + bitPoly (r.getLsbD 4) * X ^ 5 := by
    simp only [regPoly, crcStep_getLsbD r b _ (by omega : 0 < 6), crcStep_getLsbD r b _ (by omega : 1 < 6),
      crcStep_getLsbD r b _ (by omega : 2 < 6), crcStep_getLsbD r b _ (by omega : 3 < 6),
      crcStep_getLsbD r b _ (by omega : 4 < 6), crcStep_getLsbD r b _ (by omega : 5 < 6), bitPoly_xor]
    simp [bitPoly_xor, show bitPoly false = 0 from rfl]
  rw [hreg, checkPoly, regPoly]
  linear_combination (bitPoly (r.getLsbD 0) * X + bitPoly (r.getLsbD 1) * X ^ 2 +
    bitPoly (r.getLsbD 2) * X ^ 3 + bitPoly (r.getLsbD 3) * X ^ 4 + bitPoly (r.getLsbD 4) * X ^ 5) * h2

/-- The register after a run of bits is, modulo the check polynomial, what it held before and the bits, both
moved up. -/
theorem checkPoly_dvd_foldl (bits : List Bool) (r : BitVec 6) :
    checkPoly ∣ regPoly (bits.foldl crcStep r) + (X ^ bits.length * regPoly r + X ^ 6 * bitsPoly bits) := by
  have h2 : (2 : (ZMod 2)[X]) = 0 := CharTwo.two_eq_zero
  induction bits generalizing r with
  | nil => exact ⟨0, by simp [bitsPoly, CharTwo.add_self_eq_zero]⟩
  | cons b bits ih =>
    have hsum := dvd_add (ih (crcStep r b)) (Dvd.dvd.mul_left (checkPoly_dvd_step r b) (X ^ bits.length))
    have heq : regPoly ((b :: bits).foldl crcStep r) +
        (X ^ (b :: bits).length * regPoly r + X ^ 6 * bitsPoly (b :: bits))
        = regPoly (bits.foldl crcStep (crcStep r b)) +
          (X ^ bits.length * regPoly (crcStep r b) + X ^ 6 * bitsPoly bits) +
          X ^ bits.length * (regPoly (crcStep r b) + (X * regPoly r + bitPoly b * X ^ 6)) := by
      rw [List.foldl_cons, List.length_cons, bitsPoly]
      linear_combination -(X ^ bits.length * regPoly (crcStep r b)) * h2
    rw [heq]
    exact hsum

theorem bitsPoly_eq_sum (bits : List Bool) :
    bitsPoly bits = ((List.range bits.length).map (fun i =>
      if (bits[i]?.getD false) = true then (X ^ (bits.length - 1 - i) : (ZMod 2)[X]) else 0)).sum := by
  induction bits with
  | nil => rfl
  | cons b bits ih =>
    rw [bitsPoly, ih, List.length_cons, List.range_succ_eq_map, List.map_cons, List.sum_cons, List.map_map]
    congr 1
    · cases b <;> simp [bitPoly]
    · congr 1
      refine List.map_congr_left fun i _ => ?_
      simp [Nat.sub_sub, Nat.add_comm]

/-- A word whose check leaves 0, its first six bits inverted, is a multiple of the check polynomial. -/
theorem checkPoly_dvd_of_crc6_eq_zero {bits : List Bool} (hlen : bits.length = 40)
    (hcrc : crc6 bits = 0#6) :
    checkPoly ∣ bitsPoly bits + ((List.range 6).map (fun i => (X ^ (39 - i) : (ZMod 2)[X]))).sum := by
  have hcoprime : IsCoprime checkPoly (X ^ 6) :=
    IsCoprime.pow_right ⟨1, -(X ^ 5 + 1), by rw [checkPoly]; ring⟩
  refine hcoprime.dvd_of_dvd_mul_left ?_
  have h := checkPoly_dvd_foldl bits 0b111111#6
  rw [show bits.foldl crcStep 0b111111#6 = 0#6 from hcrc, hlen] at h
  convert h using 1
  simp [regPoly, bitPoly, List.range_succ]
  ring

end

/-- Settles O60: the arithmetic of a pass, the generator's period, and the bits of a command word. -/
theorem passAndWordArithmetic : Obligations.PassAndWordArithmetic := by
  refine ⟨fun n q a hn => amplitude_eq_floor hn q a, isPeak_peakOf, ?_, ?_, ?_, ?_⟩
  · intro n q cells e he
    rw [noiseFloor_eq, he 0, he 1, he 2, he 3]
    rfl
  · intro amp noise snrQ
    simp [qualifies, threshold]
  · intro n h1 h2
    refine ⟨chipStep_period h1 h2, fun i hpos hi hfix => ?_, countP_chipOut h1 h2⟩
    have hdvd := Function.IsPeriodicPt.minimalPeriod_dvd (show Function.IsPeriodicPt _ i _ from hfix)
    rw [minimalPeriod_chipStep h1 h2] at hdvd
    exact absurd (Nat.le_of_dvd hpos hdvd) (by omega)
  · intro p c w toggle bits field code high
    have hlen : bits.length = 40 := by
      simp only [bits, wordBits, List.length_append, length_contentBits, length_bitsMsb]
    have htake : bits.take 34 = contentBits p c w toggle := by
      simp only [bits, wordBits]
      exact List.take_left' (length_contentBits p c w toggle)
    refine ⟨hlen, crc6_wordBits p c w toggle, ?_, ?_⟩
    · have hcode : code = opcodeCode c.opcode := (opcodeCode_eq_idxOf c.opcode).symm
      rw [htake, hcode]
      exact contentBits_eq p c w toggle
    · have h := checkPoly_dvd_of_crc6_eq_zero hlen (crc6_wordBits p c w toggle)
      rw [bitsPoly_eq_sum, hlen, show 40 - 1 = 39 from rfl] at h
      exact h

end Sys2Proof.Machine
end

section
/-! The arbiter's choice. Settles O7. -/

namespace Sys2Proof.Machine

/-- Place of a requester in the order port 0, 1, 2, 3, internal (R122). -/
def Requester.place : Requester → Nat
  | .port p => p.val
  | .internal => 4

/-- How far a requester's turn is, counted from the one after the last granted (R122). -/
def Requester.turn (last r : Requester) : Nat := (r.place + 4 - last.place) % 5

/-- The requester last granted in a class (R122). -/
def State.lastGranted (s : State) : JobClass → Requester
  | .urgent => s.sched.lastUrgent
  | .routine => s.sched.lastRoutine

theorem rotation_turn (last : Requester) : (rotation last).map (Requester.turn last) = [0, 1, 2, 3, 4] := by
  cases last with
  | internal => rfl
  | port p => fin_cases p <;> rfl

theorem mem_rotation (last r : Requester) : r ∈ rotation last := by
  have h : ∀ p q : Port, Requester.port q ∈ rotation (.port p) ∧ Requester.internal ∈ rotation (.port p) ∧
      Requester.port q ∈ rotation .internal ∧ Requester.internal ∈ rotation .internal := by decide
  cases last with
  | internal => cases r with
    | internal => exact (h 0 0).2.2.2
    | port q => exact (h 0 q).2.2.1
  | port p => cases r with
    | internal => exact (h p 0).2.1
    | port q => exact (h p q).1

theorem rotation_pairwise (last : Requester) :
    (rotation last).Pairwise (fun a b => Requester.turn last a < Requester.turn last b) := by
  rw [← List.pairwise_map, rotation_turn]
  decide

/-- The class the arbiter serves: URGENT while an URGENT job is eligible (R122). -/
def State.servedClass (s : State) : JobClass := if s.urgentEligible then .urgent else .routine

theorem cls_eq_routine {s : State} (h : s.urgentEligible = false) {k : Job} (hk : k ∈ s.sched.jobs)
    (hel : eligible s.seq.faultHold k = true) : k.cls = .routine := by
  have hnot : ¬ k.cls = .urgent := fun hc => by
    have : s.urgentEligible = true :=
      List.any_eq_true.mpr ⟨k, List.mem_filter.mpr ⟨hk, hel⟩, decide_eq_true hc⟩
    rw [h] at this
    cases this
  cases hc : k.cls with
  | urgent => exact absurd hc hnot
  | routine => rfl

/-- The jobs of one requester that the arbiter looks at, by age. -/
def State.candidate (s : State) (r : Requester) : Option Job :=
  s.sched.jobs.find? (fun j =>
    eligible s.seq.faultHold j && (decide (j.cls = s.servedClass) && decide (j.requester = r)))

/-- The pool of the arbiter: the eligible jobs of the class it serves. -/
theorem pool_eq (s : State) :
    (if s.urgentEligible then s.eligibleJobs.filter (fun j => j.cls = .urgent) else s.eligibleJobs)
      = s.eligibleJobs.filter (fun j => j.cls = s.servedClass) := by
  cases hu : s.urgentEligible with
  | true => simp [State.servedClass, hu]
  | false =>
    refine (List.filter_eq_self.mpr fun k hk => ?_).symm
    obtain ⟨hmem, hel⟩ := List.mem_filter.mp hk
    simp [State.servedClass, hu, cls_eq_routine hu hmem hel]

/-- The choice by class, rotation and age, with the class written out (R122). -/
theorem chooseJob_eq (s : State) :
    chooseJob s = (rotation (s.lastGranted s.servedClass)).findSome? s.candidate := by
  have hlast : (if s.urgentEligible then s.sched.lastUrgent else s.sched.lastRoutine)
      = s.lastGranted s.servedClass := by
    cases hu : s.urgentEligible <;> simp [State.servedClass, hu, State.lastGranted]
  have hpick : s.candidate = fun r =>
      (s.eligibleJobs.filter (fun j => j.cls = s.servedClass)).find? (fun j => j.requester = r) := by
    funext r
    rw [State.candidate, State.eligibleJobs, List.filter_filter, List.find?_filter]
    congr 1
    funext j
    simp [Bool.and_comm, Bool.and_left_comm]
  rw [hpick, ← hlast, ← pool_eq]
  rfl

theorem candidate_eq_none_iff {s : State} {r : Requester} :
    s.candidate r = none ↔ ∀ k ∈ s.sched.jobs, eligible s.seq.faultHold k = true →
      k.cls = s.servedClass → k.requester ≠ r := by
  simp [State.candidate]

theorem candidate_eq_some_iff {s : State} {r : Requester} {j : Job} :
    s.candidate r = some j ↔
      (eligible s.seq.faultHold j = true ∧ j.cls = s.servedClass ∧ j.requester = r) ∧
      ∃ older younger, s.sched.jobs = older ++ j :: younger ∧
        ∀ k ∈ older, eligible s.seq.faultHold k = true → k.cls = s.servedClass → k.requester ≠ r := by
  simp [State.candidate, List.find?_eq_some_iff_append, imp_iff_not_or]

theorem exists_served {s : State} (h : s.eligibleJobs ≠ []) :
    ∃ k ∈ s.sched.jobs, eligible s.seq.faultHold k = true ∧ k.cls = s.servedClass := by
  cases hu : s.urgentEligible with
  | true =>
    obtain ⟨k, hk, hc⟩ := List.any_eq_true.mp hu
    obtain ⟨hmem, hel⟩ := List.mem_filter.mp hk
    exact ⟨k, hmem, hel, by simpa [State.servedClass, hu] using hc⟩
  | false =>
    obtain ⟨k, hk⟩ := List.exists_mem_of_ne_nil _ h
    obtain ⟨hmem, hel⟩ := List.mem_filter.mp hk
    exact ⟨k, hmem, hel, by simpa [State.servedClass, hu] using cls_eq_routine hu hmem hel⟩

theorem chooseJob_eq_none_iff (s : State) : chooseJob s = none ↔ s.eligibleJobs = [] := by
  rw [chooseJob_eq, List.findSome?_eq_none_iff]
  constructor
  · intro hnone
    by_contra hne
    obtain ⟨k, hmem, hel, hcls⟩ := exists_served hne
    exact candidate_eq_none_iff.mp (hnone k.requester (mem_rotation _ _)) k hmem hel hcls rfl
  · intro hnil r _
    refine candidate_eq_none_iff.mpr fun k hmem hel => absurd (List.mem_filter.mpr ⟨hmem, hel⟩) ?_
    rw [show s.sched.jobs.filter (eligible s.seq.faultHold) = [] from hnil]
    exact List.not_mem_nil

/-- What is known of a chosen job: its class, the turn of its requester, and its age. -/
theorem chooseJob_eq_some {s : State} {j : Job} (h : chooseJob s = some j) :
    eligible s.seq.faultHold j = true ∧ j.cls = s.servedClass ∧
    (∀ k ∈ s.sched.jobs, eligible s.seq.faultHold k = true → k.cls = s.servedClass →
      Requester.turn (s.lastGranted s.servedClass) j.requester
        ≤ Requester.turn (s.lastGranted s.servedClass) k.requester) ∧
    ∃ older younger, s.sched.jobs = older ++ j :: younger ∧
      ∀ k ∈ older, eligible s.seq.faultHold k = true → k.cls = s.servedClass → k.requester ≠ j.requester := by
  rw [chooseJob_eq] at h
  obtain ⟨before, r, after, hrot, hr, hbefore⟩ := List.findSome?_eq_some_iff.mp h
  obtain ⟨⟨hel, hcls, rfl⟩, hage⟩ := candidate_eq_some_iff.mp hr
  refine ⟨hel, hcls, fun k hmem hkel hkcls => ?_, hage⟩
  have hsorted := rotation_pairwise (s.lastGranted s.servedClass)
  have hk := mem_rotation (s.lastGranted s.servedClass) k.requester
  rw [hrot] at hsorted hk
  rw [List.pairwise_append, List.pairwise_cons] at hsorted
  obtain hk | hk := List.mem_append.mp hk
  · exact absurd rfl (candidate_eq_none_iff.mp (hbefore _ hk) k hmem hkel hkcls)
  · obtain hk | hk := List.mem_cons.mp hk
    · rw [hk]
    · exact (hsorted.2.1.1 _ hk).le

/-- Settles O7: the rotation lists the requesters by their turn, and within one requester the oldest job is
found first. -/
theorem arbiterChoosesByClassRotationAge : Obligations.ArbiterChoosesByClassRotationAge := by
  refine ⟨chooseJob_eq_none_iff, fun s j h => ?_⟩
  obtain ⟨hel, hcls, hturn, hage⟩ := chooseJob_eq_some h
  refine ⟨hel, fun hroutine k hmem hkel => ?_, fun k hmem hkel hkcls => ?_, ?_⟩
  · cases hu : s.urgentEligible with
    | true =>
      rw [hroutine, State.servedClass, hu] at hcls
      cases hcls
    | false => exact cls_eq_routine hu hmem hkel
  · have hle := hturn k hmem hkel (hkcls.trans hcls)
    rw [← hcls] at hle
    exact hle
  · rw [hcls]
    exact hage

end Sys2Proof.Machine
end

section
/-! Decisions about the path and the end of a job. Settles O8 and O9, after the rules on requests, notices and
statistics that later parts use too. -/

namespace Sys2Proof.Machine

/-! ### Requests and notices -/

theorem takeRequest_eq {port : Port} {s t : State} {f : State → State × Resp} {r : Resp}
    (htake : s.canTake port = true) (hf : f s = (t, r)) :
    takeRequest port s f = .next (holdResponse port r t) := by
  rw [takeRequest_of_canTake htake, hf]

theorem stationOnly_of_station {port : Port} {s : State} (h : (s.port port).role = .station)
    (k : State × Resp) : stationOnly port s k = k := by
  simp [stationOnly, isStation, h]

theorem port_raiseNotice_self (k : Notice) (p : Port) (s : State) :
    (raiseNotice k p s).port p = { s.port p with pendingSet := (s.port p).pendingSet ||| noticeMask k } := by
  rw [raiseNotice, State.port_setPort, if_pos rfl]

theorem port_raiseNotice_ne (k : Notice) {p q : Port} (h : q ≠ p) (s : State) :
    (raiseNotice k p s).port q = s.port q := by
  rw [raiseNotice, State.port_setPort, if_neg (Ne.symm h)]

theorem pendingSet_raiseNotice (k : Notice) (p q : Port) (s : State) :
    ((raiseNotice k p s).port q).pendingSet =
      (s.port q).pendingSet ||| (if q = p then noticeMask k else 0#12) := by
  by_cases h : q = p
  · subst h; rw [port_raiseNotice_self, if_pos rfl]
  · rw [port_raiseNotice_ne k h, if_neg h, BitVec.or_zero]

/-! ### Statistics (R134) -/

theorem bumpStat_sched (k : SmallStat) (p : PairNo) (s : State) : (bumpStat k p s).sched =
    (s.setStats p (writeSmallStat k (saturating 255 (readSmallStat k s.sched.stats[p])))).sched := by
  unfold bumpStat
  dsimp only
  split
  · rw [raiseNotice_sched]
  · rfl

theorem bumpStat_stats (k : SmallStat) (p : PairNo) (s : State) : (bumpStat k p s).sched.stats[p] =
    writeSmallStat k (min (readSmallStat k s.sched.stats[p] + 1) 255) s.sched.stats[p] := by
  rw [bumpStat_sched, State.stats_setStats, if_pos rfl]
  rfl

/-- STATS_HALF comes with the step from 127 to 128, on the pair's owner or port 0. -/
theorem bumpStat_pendingSet (k : SmallStat) (p : PairNo) (s : State) (x : Port) :
    ((bumpStat k p s).port x).pendingSet = (s.port x).pendingSet |||
      (if readSmallStat k s.sched.stats[p] = 127 ∧ x = noticePort s p then noticeMask .statsHalf
      else 0#12) := by
  unfold bumpStat
  dsimp only
  split
  · next h =>
    rw [pendingSet_raiseNotice]
    simp only [h, true_and]
    rfl
  · next h =>
    rw [if_neg (fun hc => h hc.1), BitVec.or_zero]
    rfl

/-! ### Grants -/

theorem arbitrate_of_held {s : State} {j : Job} (h : s.active? = some j) : arbitrate s = s := by
  simp [arbitrate, h]

theorem arbitrate_of_none_eligible {s : State} (h : s.eligibleJobs = []) : arbitrate s = s := by
  unfold arbitrate
  split
  · rfl
  · cases s.sched.jobs.length with
    | zero => rfl
    | succ n => simp [grantLoop, (chooseJob_eq_none_iff s).mpr h]

/-- A free path goes to the chosen job. -/
theorem arbitrate_of_chosen {s : State} {j : Job} (hfree : s.active? = none) (hj : chooseJob s = some j)
    (hheld : ¬ (j.kind = .dark ∧ s.intake.darkState = .manual)) :
    arbitrate s = startWork j (activate j s) := by
  obtain ⟨n, hn⟩ : ∃ n, s.sched.jobs.length = n + 1 :=
    Nat.exists_eq_add_one.mpr (List.length_pos_of_mem (chooseJob_mem hj).1)
  simp [arbitrate, hfree, hn, grantLoop, hj, hheld]

/-! ### Cuts (R126, R127) -/

theorem cuttable_iff (s : State) (j : Job) : cuttable s j = true ↔
    j.cls = .routine ∧ j.preempts < s.params.preemptMax ∧ endingPass s = none ∧
      (j.kind.measuring = true ∨ ∃ c, j.cmd = some c ∧ c.wordStarted = false) := by
  cases hcmd : j.cmd <;> simp [cuttable, hcmd, and_assoc]

theorem becameEligible_of_cuttable {s : State} {j : Job} (h : s.active? = some j) (hcut : cuttable s j = true) :
    becameEligible true s = arbitrate (cutJob j s) := by
  simp [becameEligible, h, hcut]

theorem becameEligible_of_not_cuttable {s : State} {j : Job} (h : s.active? = some j)
    (hcut : cuttable s j = false) (urgent : Bool) : becameEligible urgent s = s := by
  simp [becameEligible, h, hcut]

/-- The job record as a cut leaves it (R126). -/
def Job.cut (j : Job) : Job := { j with state := .suspended, preempts := saturating 255 j.preempts }

theorem cutJob_of_pair {j : Job} {p : PairNo} (h : j.pair = some p) (s : State) :
    cutJob j s = bumpStat .preempts p ((dropPass s).setJob j.number Job.cut) := by
  rw [cutJob, h]; rfl

theorem cutJob_of_no_pair {j : Job} (h : j.pair = none) (s : State) :
    cutJob j s = (dropPass s).setJob j.number Job.cut := by
  rw [cutJob, h]; rfl

/-! ### Job numbers (R116) -/

/-- The next number is the first one, round from the last assigned, that no job holds. -/
theorem nextNumber_first (last : Nat) {jobs : List Job} (h : jobs.length < 255) :
    ∃ i < 255, nextNumber last jobs = (last + i) % 255 + 1 ∧
      ∀ i' < i, ∃ j ∈ jobs, j.number = (last + i') % 255 + 1 := by
  obtain ⟨hrange, hfresh⟩ := nextNumber_fresh last h
  have hdef : nextNumber last jobs = (((List.range 255).find? (fun i =>
      jobs.all (fun j => j.number ≠ (last + i) % 255 + 1))).map (fun i => (last + i) % 255 + 1)).getD 1 := by
    rw [nextNumber, List.find?_map]
    rfl
  cases hfind : (List.range 255).find? (fun i => jobs.all (fun j => j.number ≠ (last + i) % 255 + 1)) with
  | some i =>
    obtain ⟨-, hi, hbefore⟩ := List.find?_range_eq_some.mp hfind
    refine ⟨i, List.mem_range.mp hi, by rw [hdef, hfind]; rfl, fun i' hi' => ?_⟩
    simpa using hbefore i' hi'
  | none =>
    have htaken := List.find?_eq_none.mp hfind ((nextNumber last jobs + 254 - last % 255) % 255)
      (List.mem_range.mpr (by omega))
    have hself : (last + (nextNumber last jobs + 254 - last % 255) % 255) % 255 + 1 = nextNumber last jobs := by
      omega
    rw [hself] at htaken
    exact absurd (List.all_eq_true.mpr fun j hj => decide_eq_true (hfresh j hj)) htaken

/-! ### Accepted jobs (R116, R122, R126) -/

theorem acceptJob_of_queued {j : Job} (h : j.state = .queued) (s : State) : acceptJob j s =
    becameEligible (decide (j.cls = .urgent ∧ (j.kind = .dark ∨ s.seq.faultHold = false))) (s.addJob j) := by
  have hel : (decide (j.cls = .urgent) && eligible (s.addJob j).seq.faultHold j)
      = decide (j.cls = .urgent ∧ (j.kind = .dark ∨ s.seq.faultHold = false)) := by
    simp [eligible, h]
  simp only [acceptJob, h, if_true, hel]

theorem acceptJob_of_not_queued {j : Job} (h : j.state ≠ .queued) (s : State) : acceptJob j s = s.addJob j := by
  simp [acceptJob, h]

theorem active?_addJob {s : State} {k : Job} (h : s.active? = some k) (j : Job) :
    (s.addJob j).active? = some k := by
  rw [State.active?, State.addJob_jobs, List.find?_append, show s.sched.jobs.find? _ = some k from h]
  rfl

/-- A job that may not cut the held path only takes its slot. -/
theorem acceptJob_of_held {s : State} {j k : Job} (h : s.active? = some k)
    (hcls : j.cls = .routine ∨ k.cls = .urgent) : acceptJob j s = s.addJob j := by
  by_cases hq : j.state = .queued
  · rw [acceptJob_of_queued hq]
    have hact := active?_addJob h j
    obtain hj | hk := hcls
    · simp [becameEligible, hact, hj]
    · refine becameEligible_of_not_cuttable hact (Bool.eq_false_iff.mpr fun hcut => ?_) _
      rw [cuttable_iff] at hcut
      exact absurd (hk.symm.trans hcut.1) nofun
  · exact acceptJob_of_not_queued hq s

/-- Settles O8 from the rules on grants, cuts, numbers and accepted jobs. -/
theorem pathIsGrantedOrCut : Obligations.PathIsGrantedOrCut := by
  refine ⟨fun s j => arbitrate_of_held, fun s => arbitrate_of_none_eligible,
    fun s j => arbitrate_of_chosen, ?_, ?_, ?_, ?_⟩
  · intro s j hact hcls hpre hend hwork
    refine ⟨cutJob j s, becameEligible_of_cuttable hact ((cuttable_iff s j).mpr ⟨hcls, hpre, hend, hwork⟩), ?_⟩
    have hjobs : ((dropPass s).setJob j.number Job.cut).sched.jobs = s.sched.jobs.map (fun k =>
        if k.number = j.number then { k with state := .suspended, preempts := min (k.preempts + 1) 255 }
        else k) := rfl
    cases hp : j.pair with
    | some p =>
      rw [cutJob_of_pair hp]
      refine ⟨by rw [bumpStat_corr]; rfl, by rw [bumpStat_jobs, hjobs], ?_, nofun, by rw [bumpStat_seq]; rfl,
        by rw [bumpStat_sig]; rfl, by rw [bumpStat_findings]; rfl, by rw [bumpStat_sched]; rfl⟩
      rintro _ ⟨rfl⟩
      exact ⟨bumpStat_stats _ _ _, fun x => bumpStat_pendingSet _ _ _ x⟩
    | none =>
      rw [cutJob_of_no_pair hp]
      exact ⟨rfl, hjobs, nofun, fun _ => ⟨rfl, rfl⟩, rfl, rfl, rfl, rfl⟩
  · intro s j hact hwhy
    refine becameEligible_of_not_cuttable hact (Bool.eq_false_iff.mpr fun hcut => ?_) true
    obtain ⟨hcls, hpre, hend, hwork⟩ := (cuttable_iff s j).mp hcut
    obtain hw | hw | hw | ⟨hw, hstarted⟩ := hwhy
    · exact absurd (hw.symm.trans hcls) nofun
    · omega
    · exact hw hend
    · obtain hm | ⟨c, hc, hnot⟩ := hwork
      · exact absurd (hw.symm.trans hm) nofun
      · exact absurd ((hstarted c hc).symm.trans hnot) nofun
  · exact fun s j => ⟨State.addJob_jobs s j, rfl, fun hq => acceptJob_of_queued hq s,
      fun k hact hcls _ => acceptJob_of_held hact hcls⟩
  · intro last jobs hlen
    obtain ⟨i, hi, heq, hbefore⟩ := nextNumber_first last (jobs := jobs) (by omega)
    exact ⟨i, hi, heq, (nextNumber_fresh last (by omega)).2, hbefore⟩

/-! ### The end of a job (R120, R132) -/

theorem port_endJob_self {n : Nat} {s : State} {j : Job} {p : Port} (o : JobOutcome) (h : s.job? n = some j)
    (hr : j.requester = .port p) :
    (endJob n o s).port p = { s.port p with pendingSet := (s.port p).pendingSet ||| 0x001#12 } := by
  rw [endJob_of_port o h hr, port_raiseNotice_self]
  rfl

theorem port_endJob_ne {n : Nat} {s : State} {j : Job} {p q : Port} (o : JobOutcome) (h : s.job? n = some j)
    (hr : j.requester = .port p) (hq : q ≠ p) : (endJob n o s).port q = s.port q := by
  rw [endJob_of_port o h hr, port_raiseNotice_ne _ hq]
  rfl

theorem results_endJob {n : Nat} {s : State} {j : Job} {p : Port} (o : JobOutcome) (h : s.job? n = some j)
    (hr : j.requester = .port p) (q : Port) : (endJob n o s).sched.results[q] =
      if p = q then closeList n o s.sched.results[q] else s.sched.results[q] := by
  rw [endJob_of_port o h hr]
  exact State.results_setResults (s.setJob n (Job.endedWith o)) p q (closeList n o)

/-- Settles O9: an end writes the record and the list of a port's job, and frees the slot of an internal one. -/
theorem endedJobIsReported : Obligations.EndedJobIsReported := by
  refine ⟨fun n o s j p h hr => ⟨?_, ?_, fun q hq => port_endJob_ne o h hr hq, fun hlist hfill => ?_⟩,
    fun n o s j h hr => endJob_of_internal o h hr⟩
  · rw [endJob_of_port o h hr]; rfl
  · rw [port_endJob_self o h hr]
  · rw [results_endJob o h hr, if_pos rfl, closeList, if_pos ⟨hlist, hfill⟩]
    rfl

end Sys2Proof.Machine
end

section
/-! The resets. Settles O5 and O6. -/

namespace Sys2Proof.Machine

/-! ### The DARK job after a reset (R49) -/

/-- A DARK job of the engine as a free path leaves it (R49, R122). -/
def Job.grantedDark (n : Nat) : Job := { Job.startUp with number := n }

/-- The same job as it is queued. -/
def Job.queuedDark (n : Nat) : Job := { Job.fresh .internal .dark .urgent none none 0 1 with number := n }

/-- With no job, and the sequencer PARKED, a DARK job that is queued gets the path at once. -/
theorem arbitrate_queueDark {u : State} (hjobs : u.sched.jobs = []) (hstate : u.seq.state = .parked)
    (hmode : u.intake.darkState ≠ .manual) :
    arbitrate (queueDark u) =
      { u with
        seq := { u.seq with
          state := .dark, current := none, goal := none, running := false, filled := false, work := .sampling }
        intake := { u.intake with dd := u.params.dd, acc := some ⟨0, 0, 0⟩ }
        sched := { u.sched with
          jobs := [Job.grantedDark (nextNumber u.sched.lastNumber [])]
          lastNumber := nextNumber u.sched.lastNumber [], lastUrgent := .internal } } := by
  have hqueue : queueDark u = { u with sched := { u.sched with
      jobs := [Job.queuedDark (nextNumber u.sched.lastNumber [])]
      lastNumber := nextNumber u.sched.lastNumber [] } } := by
    rw [queueDark, State.addJob, hjobs]; rfl
  generalize nextNumber u.sched.lastNumber [] = n at hqueue ⊢
  have hel : (queueDark u).eligibleJobs = [Job.queuedDark n] := by rw [hqueue]; rfl
  obtain ⟨j, hj⟩ : ∃ j, chooseJob (queueDark u) = some j := by
    refine Option.ne_none_iff_exists'.mp fun hnone => ?_
    rw [chooseJob_eq_none_iff, hel] at hnone
    cases hnone
  have hmem : j ∈ (queueDark u).eligibleJobs := List.mem_filter.mpr (chooseJob_mem hj)
  rw [hel, List.mem_singleton] at hmem
  subst hmem
  have hgrant : arbitrate (queueDark u) = startWork _ (activate _ (queueDark u)) :=
    arbitrate_of_chosen (by rw [hqueue]; rfl) hj (by rw [hqueue]; exact fun h => hmode h.2)
  have hactive : activate (Job.queuedDark n) (queueDark u)
      = { u with sched := { u.sched with
            jobs := [Job.grantedDark n]
            lastNumber := n
            lastUrgent := .internal } } := by
    simp [hqueue, activate, State.setJob, State.setJobs, Job.listBearing, Job.fresh, Job.queuedDark,
      Job.grantedDark, Job.startUp]
  rw [hgrant, hactive]
  simp [startWork, startDark, giveOrder, Job.fresh, Job.queuedDark, enterDark, hstate]

/-! ### The engine reset (R179) -/

theorem tableGet_map {α : Type} {n : Nat} (v : Vector α n) (f : α → α) (i : Nat) (d : α) (hd : f d = d) :
    tableGet (v.map f) i d = f (tableGet v i d) := by
  by_cases h : i < n
  · simp [tableGet_eq _ _ _ h]
  · rw [tableGet_of_le _ _ _ (Nat.le_of_not_lt h), tableGet_of_le _ _ _ (Nat.le_of_not_lt h), hd]

theorem clearWork_housing (s : State) (h : Nat) : (clearWork s).housing h = forgetToggles (s.housing h) :=
  tableGet_map _ _ _ _ rfl

theorem toggleOf_of_housing {t : State} {h : Nat} {e : Housing} (ht : t.housing h = forgetToggles e) (g : Nat) :
    t.toggleOf h g = none := by
  rw [State.toggleOf, ht]
  exact tableGet_replicate g none

/-- ENGINE_RESET is pending on every port. -/
theorem port_raiseAll_engineReset (s : State) (p : Port) : (raiseAll .engineReset [0, 1, 2, 3] s).port p =
    { s.port p with pendingSet := (s.port p).pendingSet ||| 0x400#12 } := by
  have hmask : noticeMask .engineReset = 0x400#12 := rfl
  simp only [raiseAll, List.foldl_cons, List.foldl_nil]
  fin_cases p <;> simp [port_raiseNotice_self, port_raiseNotice_ne, hmask]

/-- The blocks after an engine reset with ENGINE_RESET pending, before a DARK job is queued. -/
def resetBlocks (s : State) : State := { clearWork s with ports := (raiseAll .engineReset [0, 1, 2, 3] s).ports }

theorem raiseAll_clearWork (s : State) : raiseAll .engineReset [0, 1, 2, 3] (clearWork s) = resetBlocks s := rfl

theorem engineResetState_of_uncalibrated {s : State} (h : s.intake.darkState = .uncalibrated) :
    engineResetState s =
      { resetBlocks s with
        seq := { resetSequencer s.seq with state := .dark, work := .sampling }
        intake := { s.intake with refresh := 0, dd := s.params.dd, acc := some ⟨0, 0, 0⟩ }
        sched := { resetScheduler s with
          jobs := [Job.grantedDark (nextNumber s.sched.lastNumber [])]
          lastNumber := nextNumber s.sched.lastNumber [] } } := by
  have hdark : (resetBlocks s).intake.darkState = .uncalibrated := h
  rw [engineResetState, raiseAll_clearWork]
  simp only [hdark, if_true]
  rw [arbitrate_queueDark rfl rfl (by rw [hdark]; nofun)]
  rfl

theorem engineResetState_of_calibrated {s : State} (h : s.intake.darkState ≠ .uncalibrated) :
    engineResetState s = resetBlocks s := by
  have hdark : ¬ (resetBlocks s).intake.darkState = .uncalibrated := h
  rw [engineResetState, raiseAll_clearWork]
  simp only [hdark, if_false]

theorem execEngineReset_eq {port : Port} {s : State} (htake : s.canTake port = true)
    (hrole : (s.port port).role = .station) : exec (.engineReset port) s =
      .next (holdResponse port (plainResp .ok (u48 s.lineTime)) (engineResetState s)) :=
  takeRequest_eq htake (stationOnly_of_station hrole _)

theorem resetPatrols_get (s : State) (p : PairNo) : (resetPatrols s)[p] =
    if (s.pair p).state = .routed then restartPatrol s.lineTime s.sched.patrols[p] else s.sched.patrols[p] := by
  simp [resetPatrols]

theorem interruptList_eq (l : ResultList) :
    interruptList l = { l with state := if l.state = .filling then .partialEnd else l.state } := by
  unfold interruptList
  split <;> rfl

/-- What every engine reset does to the patrol settings and timers (R128). -/
theorem resetPatrols_fields (s : State) (p : PairNo) :
    (resetPatrols s)[p].interval = s.sched.patrols[p].interval ∧ (resetPatrols s)[p].q = s.sched.patrols[p].q ∧
    (resetPatrols s)[p].w = s.sched.patrols[p].w ∧
    ((s.pair p).state = .routed → s.sched.patrols[p].interval ≠ 0 →
      (resetPatrols s)[p].timer = some (s.lineTime + s.sched.patrols[p].interval * 60000)) := by
  rw [resetPatrols_get]
  split
  · next h => exact ⟨rfl, rfl, rfl, fun _ hi => if_neg hi⟩
  · next h => exact ⟨rfl, rfl, rfl, fun h' => absurd h' h⟩

theorem resetSynth_noise {l : SynthLine} {d : SynthDef} (h : l.defn = some d) :
    (resetSynth l).noise = BitVec.ofNat 16 d.seed := by
  simp [resetSynth, h]

theorem resetSynth_defn (l : SynthLine) : (resetSynth l).defn = l.defn := by
  unfold resetSynth
  split <;> simp_all

/-- Settles O5: the blocks after the reset, with the DARK job where the dark state is UNCALIBRATED. -/
theorem engineResetClearsWork : Obligations.EngineResetClearsWork := by
  intro s
  refine ⟨engineResetState s, rfl, fun port htake hrole => execEngineReset_eq htake hrole, ?_⟩
  have hhousing : ∀ h, (resetBlocks s).housing h = forgetToggles (s.housing h) := clearWork_housing s
  have hport : ∀ p, (resetBlocks s).port p =
      { s.port p with pendingSet := (s.port p).pendingSet ||| 0x400#12 } := port_raiseAll_engineReset s
  have hresults : ∀ p : Port, (resetScheduler s).results[p] = { s.sched.results[p] with
      state := if s.sched.results[p].state = .filling then .partialEnd else s.sched.results[p].state } := by
    intro p
    rw [← interruptList_eq]
    simp [resetScheduler]
  have htoggle : ∀ h g, (resetBlocks s).toggleOf h g = none := fun h g => toggleOf_of_housing (hhousing h) g
  have hkept : ∀ h, ((resetBlocks s).housing h).presence = (s.housing h).presence ∧
      ((resetBlocks s).housing h).pump = (s.housing h).pump ∧
      ((resetBlocks s).housing h).outMute = (s.housing h).outMute ∧
      ((resetBlocks s).housing h).retMute = (s.housing h).retMute ∧
      ((resetBlocks s).housing h).loopback = (s.housing h).loopback := fun h => by
    rw [hhousing]; exact ⟨rfl, rfl, rfl, rfl, rfl⟩
  have hsynth : ∀ d, s.synth.defn = some d → (resetSynth s.synth).noise = BitVec.ofNat 16 d.seed :=
    fun d hd => resetSynth_noise hd
  by_cases h : s.intake.darkState = .uncalibrated
  · rw [engineResetState_of_uncalibrated h, if_pos h]
    exact ⟨htoggle, hkept, rfl, rfl, rfl, rfl, rfl, rfl, rfl, rfl, rfl, rfl, rfl, rfl, rfl, rfl, rfl, rfl, rfl, rfl, rfl,
      ⟨rfl, rfl, rfl, _, rfl, rfl, rfl, rfl, rfl, rfl, rfl⟩, rfl, rfl, resetPatrols_fields s, rfl, rfl, hresults,
      hport, resetSynth_defn _, hsynth⟩
  · rw [engineResetState_of_calibrated h, if_neg h]
    exact ⟨htoggle, hkept, rfl, rfl, rfl, rfl, rfl, rfl, rfl, rfl, rfl, rfl, rfl, rfl, rfl, rfl, rfl, rfl, rfl, rfl, rfl,
      ⟨rfl, rfl, rfl, rfl⟩, rfl, rfl, resetPatrols_fields s, rfl, rfl, hresults, hport, resetSynth_defn _, hsynth⟩

/-! ### A port reset and its release (R136, R178) -/

theorem portResetState_of_high {p : Port} {s : State} (h : (s.port p).prstLow = false) :
    portResetState p s = arbitrate (dropPortJobs p (s.setPort p resetPort)) := by
  simp [portResetState, h]

/-- The numbers of the jobs that a port reset removes. -/
def goneNumbers (p : Port) (s : State) : List Nat := (s.sched.jobs.filter (removedByReset p)).map Job.number

theorem mem_goneNumbers {p : Port} {s : State} {n : Nat} : n ∈ goneNumbers p s ↔
    ∃ j ∈ s.sched.jobs, j.requester = .port p ∧ j.state ≠ .active ∧ j.number = n := by
  simp [goneNumbers, removedByReset, and_assoc]

theorem dropPortJobs_concur (p : Port) (s : State) : (dropPortJobs p s).channel.concur =
    s.channel.concur.filter (fun r => !(goneNumbers p s).contains r.job) := rfl

theorem dropPortJobs_jobs (p : Port) (s : State) : (dropPortJobs p s).sched.jobs =
    s.sched.jobs.filter (fun j => j.requester ≠ .port p ∨ j.state = .active) := by
  refine List.filter_congr fun j _ => ?_
  simp [removedByReset]

theorem dropPortJobs_results (p q : Port) (s : State) : (dropPortJobs p s).sched.results[q] =
    if p = q then
      if (s.sched.results[q].job.map (fun n => (goneNumbers p s).contains n)).getD false
      then interruptList s.sched.results[q] else s.sched.results[q]
    else s.sched.results[q] :=
  State.results_setResults _ p q _

/-- A list loses its job to the reset exactly when it names one of the jobs removed. -/
theorem loses_iff (p : Port) (s : State) (l : ResultList) :
    (l.job.map (fun n => (goneNumbers p s).contains n)).getD false = true ↔
      ∃ j ∈ s.sched.jobs, j.requester = .port p ∧ j.state ≠ .active ∧ l.job = some j.number := by
  cases hl : l.job with
  | none => simp
  | some n =>
    simp only [Option.map_some, Option.getD_some, List.contains_iff_mem, mem_goneNumbers]
    simp [eq_comm]

theorem interruptList_of_not_filling {l : ResultList} (h : l.state ≠ .filling) : interruptList l = l := by
  rw [interruptList, if_neg h]

theorem State.setPort_setPort (s : State) (p : Port) (f g : PortState → PortState) :
    (s.setPort p f).setPort p g = s.setPort p (fun t => g (f t)) := by
  simp only [State.setPort, tableMap]
  congr 3
  simp [List.modify_modify_eq]
  rfl

/-- Settles O6: the state before the arbiter's decision, and the release. -/
theorem portResetAndRelease : Obligations.PortResetAndRelease := by
  refine ⟨fun p s h => ⟨dropPortJobs p (s.setPort p resetPort), congrArg _ (portResetState_of_high h), ?_⟩,
    fun p strap s h => ?_⟩
  · have hports : ∀ q, (dropPortJobs p (s.setPort p resetPort)).port q =
        if p = q then resetPort (s.port q) else s.port q := fun q => State.port_setPort s p q resetPort
    refine ⟨by rw [hports, if_pos rfl]; rfl, fun q hq => by rw [hports, if_neg (Ne.symm hq)],
      dropPortJobs_jobs p _, fun r => ?_, rfl, fun q hq => ?_, ⟨fun hlose hfill => ?_, fun hkeep => ?_⟩, rfl, rfl,
      rfl, rfl, rfl, rfl, rfl, rfl, rfl, rfl, rfl, rfl, rfl, rfl, rfl⟩
    · have hgone : (goneNumbers p (s.setPort p resetPort)).contains r.job = false ↔
          ∀ j ∈ s.sched.jobs, j.requester = .port p → j.state ≠ .active → j.number ≠ r.job := by
        rw [← Bool.not_eq_true, List.contains_iff_mem, mem_goneNumbers]
        simp
      rw [dropPortJobs_concur, List.mem_filter, Bool.not_eq_true', hgone]
      rfl
    · rw [dropPortJobs_results, if_neg (Ne.symm hq)]
      rfl
    · have hstate : ((s.setPort p resetPort).sched.results[p]).state = .filling := hfill
      have hgone := (loses_iff p (s.setPort p resetPort) ((s.setPort p resetPort).sched.results[p])).mpr hlose
      rw [dropPortJobs_results, if_pos rfl, if_pos hgone, interruptList, if_pos hstate]
      rfl
    · rw [dropPortJobs_results, if_pos rfl]
      split
      · next hgone =>
        obtain hnot | hne := hkeep
        · exact absurd ((loses_iff p _ _).mp hgone) hnot
        · exact interruptList_of_not_filling hne
      · rfl
  · refine congrArg _ (show portReleaseState p strap s = _ from ?_)
    rw [portReleaseState, if_pos h, raiseNotice, State.setPort_setPort]
    rfl

end Sys2Proof.Machine
end

section
/-! The reads. Settles O10. -/

namespace Sys2Proof.Machine

/-! ### Operands and bytes that several requests share -/

theorem withPair_of_toNat {b : Byte} {p : PairNo} (h : b.toNat = p.val) (s : State)
    (k : PairNo → State × Resp) : withPair b s k = k p := by
  have hlt : b.toNat < 16 := h ▸ p.isLt
  have hp : (⟨b.toNat, hlt⟩ : PairNo) = p := Fin.ext h
  rw [withPair, dif_pos hlt, hp]

theorem clamp_eq_max_min {lo hi : Nat} (h : lo ≤ hi) (x : Nat) : clamp lo hi x = max lo (min x hi) := by
  unfold clamp
  split
  · omega
  · split <;> omega

@[simp] theorem u8_toNat (b : Byte) : u8 b.toNat = [b] := by simp [u8]

theorem u8_of_toNat {b : Byte} {n : Nat} (h : b.toNat = n) : u8 n = [b] := by rw [← h, u8_toNat]

theorem tableGet_fin {α : Type} {n : Nat} (v : Vector α n) (i : Fin n) (d : α) : tableGet v i.val d = v[i] :=
  tableGet_eq v i.val d i.isLt

theorem ownerOrStation_iff {s : State} {port : Port} {p : PairNo} :
    ownerOrStation s port p = true ↔ (s.pair p).owner = some port ∨ (s.port port).role = .station := by
  simp [ownerOrStation, owns, isStation]

/-- A slice of numbered entries, as a range of positions or as the entries themselves. -/
theorem listOf_slice {α : Type} (l : List α) {first count : Nat} (hfirst : 1 ≤ first)
    (enc : Nat → List Byte) (enc' : α × Nat → List Byte)
    (henc : ∀ k e, 1 ≤ k → l[k - 1]? = some e → enc k = enc' (e, k)) :
    listOf enc (List.range' first (min (first + count - 1) l.length + 1 - first))
      = listOf enc' (((l.zipIdx 1).drop (first - 1)).take count) := by
  have hlength : (List.range' first (min (first + count - 1) l.length + 1 - first)).length
      = (((l.zipIdx 1).drop (first - 1)).take count).length := by
    simp only [List.length_range', List.length_take, List.length_drop, List.length_zipIdx]
    omega
  have hmap : (List.range' first (min (first + count - 1) l.length + 1 - first)).map enc
      = (((l.zipIdx 1).drop (first - 1)).take count).map enc' := by
    refine List.ext_getElem (by simpa using hlength) fun i hi hi' => ?_
    simp only [List.length_map, List.length_range'] at hi
    simp only [List.getElem_map, List.getElem_range', List.getElem_take, List.getElem_drop,
      List.getElem_zipIdx, Nat.one_mul]
    rw [henc (first + i) l[first - 1 + i] (by omega)
      (by rw [show first + i - 1 = first - 1 + i by omega]; exact List.getElem?_eq_getElem (by omega))]
    congr 2
    omega
  rw [listOf, listOf, hlength, List.flatMap_def, List.flatMap_def, hmap]

/-! ### READ_STATUS (R173) -/

theorem optField_current (c : Option (PairNo × Profile)) : optField encodeCurrent 4 c =
    match c with
    | none => [0#8, 0#8, 0#8, 0#8, 0#8]
    | some (p, prof) => [1#8] ++ u8 p.val ++ u8 prof.order ++ u8 prof.chipCode ++ u8 prof.drive := by
  cases c <;> rfl

theorem optField_pairNo (p : Option PairNo) : optField (fun p : PairNo => u8 p.val) 1 p =
    match p with
    | none => [0#8, 0#8]
    | some p => [1#8] ++ u8 p.val := by
  cases p <;> rfl

theorem optField_pass (c : Option PassRecord) : optField encodePass 10 c =
    match c with
    | none => List.replicate 11 0#8
    | some r => [1#8] ++ u8 r.job ++ u8 (passKindCode r.kind) ++
      optField (fun p : PairNo => u8 p.val) 1 r.pair ++ u16 r.first ++ u16 r.last ++ u16 r.periodsLeft := by
  cases c <;> rfl

theorem yesNo_eq (b : Bool) : yesNo b = [if b then 1#8 else 0#8] := by cases b <;> rfl

theorem optField_exchangeWord (x : Exchange) :
    optField (fun x : Nat × CmdWord => u8 x.1 ++ u8 (wordCode x.2)) 2 (exchangeWord x) =
      if x.phase = .idle then [0#8, 0#8, 0#8] else [1#8] ++ u8 x.job ++ u8 (wordCode x.word) := by
  unfold exchangeWord
  split <;> rfl

theorem optField_number (j : Option Job) : optField u8 1 (j.map Job.number) =
    match j with
    | none => [0#8, 0#8]
    | some j => [1#8] ++ u8 j.number := by
  cases j <;> rfl

/-! ### READ_CONCUR (R166) -/

theorem concurOf_job {s : State} {n : Nat} {r : ConcurRec} (h : s.concurOf n = some r) : r.job = n := by
  simpa using List.find?_some h

theorem mem_of_concurOf {s : State} {n : Nat} {r : ConcurRec} (h : s.concurOf n = some r) :
    r ∈ s.channel.concur := List.mem_of_find?_eq_some h

/-- No two records name one job, so a record is the one that its job's number finds. -/
theorem concurOf_of_mem {s : State} (hlaw : ConcurLaw s) {r : ConcurRec} (hr : r ∈ s.channel.concur) :
    s.concurOf r.job = some r := by
  obtain ⟨-, hnodup, -, -⟩ := hlaw
  cases h : s.concurOf r.job with
  | none => exact absurd (List.find?_eq_none.mp h r hr) (by simp)
  | some r' =>
    rw [List.inj_on_of_nodup_map hnodup (mem_of_concurOf h) hr (concurOf_job h)]

theorem sublist_filterMap_concurOf (s : State) (jobs : List Job) :
    ((jobs.filterMap (fun j => s.concurOf j.number)).map ConcurRec.job).Sublist (jobs.map Job.number) := by
  induction jobs with
  | nil => exact List.Sublist.slnil
  | cons j jobs ih =>
    cases h : s.concurOf j.number with
    | none => rw [List.filterMap_cons_none (f := fun j : Job => s.concurOf j.number) h]; exact ih.cons _
    | some r =>
      rw [List.filterMap_cons_some (f := fun j : Job => s.concurOf j.number) h, List.map_cons, List.map_cons, concurOf_job h]
      exact ih.cons_cons _

theorem mem_visibleRecords {s : State} (hlaw : ConcurLaw s) (port : Port) (r : ConcurRec) :
    r ∈ visibleRecords s port ↔ r ∈ s.channel.concur ∧
      ((s.port port).role = .station ∨ r.requester = port ∨ r.asked = port) := by
  have hfound : (∃ j ∈ s.sched.jobs, s.concurOf j.number = some r) ↔ r ∈ s.channel.concur := by
    constructor
    · rintro ⟨j, -, hj⟩
      exact mem_of_concurOf hj
    · intro hr
      obtain ⟨j, hj, hn, -⟩ := hlaw.2.2.1 r hr
      exact ⟨j, hj, hn ▸ concurOf_of_mem hlaw hr⟩
  have hsees : seesRecord s port r = true ↔
      (s.port port).role = .station ∨ r.requester = port ∨ r.asked = port := by
    simp [seesRecord, isStation, or_assoc]
  rw [visibleRecords, List.mem_filter, List.mem_filterMap, hfound, hsees]

/-! ### READ_HOUSING (R4) -/

theorem routesThrough_iff (p : Pair) (h : Nat) : p.routesThrough h = true ↔ ∃ e ∈ p.route, e.housing = h := by
  simp [Pair.routesThrough, Pair.positionOf]

theorem seesPair_tenant {s : State} {port : Port} (h : (s.port port).role = .tenant) :
    seesPair s port = fun q => decide (∃ p : PairNo, p.val = q ∧ (s.pair p).owner = some port) := by
  funext q
  rw [seesPair, isStation, h]
  by_cases hq : q < 16
  · have : (∃ p : PairNo, p.val = q ∧ (s.pair p).owner = some port) ↔ (s.pair ⟨q, hq⟩).owner = some port :=
      ⟨fun ⟨p, hp, ho⟩ => by subst hp; exact ho, fun ho => ⟨⟨q, hq⟩, rfl, ho⟩⟩
    simp [hq, owns, this]
  · have : ¬ ∃ p : PairNo, p.val = q ∧ (s.pair p).owner = some port := by
      rintro ⟨p, rfl, -⟩
      exact hq p.isLt
    simp [hq, this]

theorem seesGroup_tenant {s : State} {port : Port} (h : (s.port port).role = .tenant) :
    seesGroup s port = fun g => decide (∃ q : PairNo, q.val / 2 = g ∧ (s.pair q).owner = some port) := by
  funext g
  rw [seesGroup, seesPair_tenant h, ← Bool.decide_or, decide_eq_decide]
  constructor
  · rintro (⟨p, hp, ho⟩ | ⟨p, hp, ho⟩) <;> exact ⟨p, by omega, ho⟩
  · rintro ⟨p, hp, ho⟩
    obtain heven | hodd := Nat.mod_two_eq_zero_or_one p.val
    · exact .inl ⟨p, by omega, ho⟩
    · exact .inr ⟨p, by omega, ho⟩

theorem seesPair_station {s : State} {port : Port} (h : (s.port port).role = .station) :
    seesPair s port = fun _ => true := by
  funext q; simp [seesPair, isStation, h]

theorem seesGroup_station {s : State} {port : Port} (h : (s.port port).role = .station) :
    seesGroup s port = fun _ => true := by
  funext g; simp [seesGroup, seesPair_station h]

theorem mayReadHousing_iff {s : State} {port : Port} {h : Nat} : mayReadHousing s port h = true ↔
    (s.port port).role = .station ∨ ∃ p, (s.pair p).owner = some port ∧ ∃ e ∈ (s.pair p).route, e.housing = h := by
  simp [mayReadHousing, isStation, owns, routesThrough_iff]

theorem reqReadHousing_of_range {h : Byte} (h1 : 1 ≤ h.toNat) (h2 : h.toNat ≤ 192) (port : Port) (s : State) :
    reqReadHousing port h s =
      if mayReadHousing s port h.toNat = true then
        (s, plainResp .ok (encodeHousing (seesGroup s port) (seesPair s port) (s.housing h.toNat)))
      else (s, plainResp .denied []) := by
  rw [reqReadHousing, if_neg (by simp [housingNumber_iff, h1, h2])]
  cases mayReadHousing s port h.toNat <;> rfl

/-! ### The slices of READ_ROUTE and READ_SIGNATURE (R13, R91) -/

theorem housingAt_of_getElem? {p : Pair} {k : Nat} {e : RouteEntry} (hk : 1 ≤ k) (he : p.route[k - 1]? = some e) :
    p.housingAt k = some e.housing := by
  simp [Pair.housingAt, Nat.one_le_iff_ne_zero.mp hk, he]

theorem lagAt_of_getElem? {p : Pair} {k : Nat} {e : RouteEntry} (hk : 1 ≤ k) (he : p.route[k - 1]? = some e) :
    p.lagAt k = some e.lag := by
  simp [Pair.lagAt, Nat.one_le_iff_ne_zero.mp hk, he]

theorem encodeRouteSlice_eq (p : Pair) {first count : Nat} (hfirst : 1 ≤ first) :
    encodeRouteSlice p first count = listOf (fun e => u8 e.2 ++ u8 e.1.housing ++ u16 e.1.lag)
      (((p.route.zipIdx 1).drop (first - 1)).take count) :=
  listOf_slice p.route hfirst _ _ fun k e hk he => by
    simp [housingAt_of_getElem? hk he, lagAt_of_getElem? hk he]

theorem encodeSigSlice_eq (s : State) (p : PairNo) {first count : Nat} (hfirst : 1 ≤ first) :
    encodeSigSlice s p first count = listOf (fun e => encodeSig e.2 e.1.housing (s.sigAt p e.2))
      ((((s.pair p).route.zipIdx 1).drop (first - 1)).take count) :=
  listOf_slice (s.pair p).route hfirst _ _ fun k e hk he => by
    simp [housingAt_of_getElem? hk he]

theorem encodePair_eq (pr : Pair) : encodePair pr = u8 (pairStateCode pr.state) ++
    (match pr.owner with
      | none => [0#8, 0#8]
      | some x => [1#8] ++ u8 x.val) ++
    u8 pr.profile.order ++ u8 pr.profile.chipCode ++ u8 pr.profile.drive ++ u16 pr.quietBase ++
    u8 pr.route.length := by
  rw [encodePair]
  cases pr.owner <;> rfl

theorem u8_freezeCode (b : Bool) : u8 (freezeCode b) = [if b then 1#8 else 2#8] := by cases b <;> rfl

/-! ### READ_FINDINGS (R112) -/

theorem allSelected_eq (s : State) (port : Port) : allSelected s port = s.findings.filter (fun f =>
    (s.port port).role = .station ∨ (s.pair f.pair).owner = some port) := by
  unfold allSelected
  split
  · next h =>
    have hrole : (s.port port).role = .station := by simpa [isStation] using h
    simp [hrole]
  · next h =>
    have hrole : ¬ (s.port port).role = .station := by simpa [isStation] using h
    simp [hrole, owns]

theorem findingsResp_eq (selector : Selector) (skip : Byte) (found : List Finding) (s : State) :
    findingsResp selector skip found s = reply .ok (31 < skip.toNat)
      (u8 found.length ++ u8 s.findings.length ++
        listOf encodeFinding ((found.drop (min skip.toNat 31)).take 24))
      (encodeSelector selector ++ u8 (min skip.toNat 31)) := by
  have hk : clamp 0 31 skip.toNat = min skip.toNat 31 := by rw [clamp_eq_max_min (by norm_num)]; omega
  have hmoved : decide (min skip.toNat 31 ≠ skip.toNat) = decide (31 < skip.toNat) := by
    rw [decide_eq_decide]; omega
  simp only [findingsResp, hk, hmoved]

/-- Settles O10, read by read. -/
theorem readsAnswerAndChangeNothing : Obligations.ReadsAnswerAndChangeNothing := by
  intro port s htake ok okUsed mine
  refine ⟨?identify, ?status, ?results, ?concur, ?route, ?housing, ?signature, ?findings, ?ofPair⟩
  case identify =>
    refine takeRequest_eq htake (congrArg (Prod.mk s) ?_)
    cases (s.port port).role <;> rfl
  case status =>
    refine takeRequest_eq htake (congrArg (Prod.mk s) (congrArg (Resp.mk .ok false) ?_))
    show statusBody port s = _
    simp only [statusBody, optField_current, optField_pass, optField_pairNo, yesNo_eq, optField_exchangeWord,
      optField_number]
    rfl
  case results =>
    intro offset count top slice hbody c
    refine takeRequest_eq htake ?_
    rw [reqReadResults, tableGet_fin]
    cases hl : (s.sched.results[port]).body with
    | echoes l =>
      rw [hl] at hbody
      obtain ⟨rfl, rfl⟩ := hbody
      have hc : clamp 1 (maxRead (.echoes l)) count.toNat = c := clamp_eq_max_min (by simp [maxRead]) _
      simp only [hc, reply, u8_toNat, encodeSlice]
    | candidates l =>
      rw [hl] at hbody
      obtain ⟨rfl, rfl⟩ := hbody
      have hc : clamp 1 (maxRead (.candidates l)) count.toNat = c := clamp_eq_max_min (by simp [maxRead]) _
      simp only [hc, reply, u8_toNat, encodeSlice]
  case concur =>
    intro hjobs hlaw
    exact ⟨visibleRecords s port, takeRequest_eq htake rfl,
      ((List.filter_sublist ..).map _).trans (sublist_filterMap_concurOf s s.sched.jobs), mem_visibleRecords hlaw port⟩
  case route =>
    intro b first count p hb hmay pr f c
    refine takeRequest_eq htake ?_
    have hf : clamp 1 192 first.toNat = f := clamp_eq_max_min (by norm_num) _
    have hc : clamp 1 48 count.toNat = c := clamp_eq_max_min (by norm_num) _
    have hslice := encodeRouteSlice_eq (s.pair p) (first := f) (count := c) (le_max_left _ _)
    rw [reqReadRoute, withPair_of_toNat hb]
    simp only [ownerOrStation_iff.mpr hmay, Bool.not_true, Bool.false_eq_true, if_false, hf, hc, reply,
      encodePair_eq, hslice, u8_of_toNat hb, Bool.decide_or]
    rfl
  case housing =>
    intro h h1 h2
    refine ⟨fun hrole => takeRequest_eq htake ?_, fun hrole howns => takeRequest_eq htake ?_,
      fun hrole hnone => takeRequest_eq htake ?_⟩
    · rw [reqReadHousing_of_range h1 h2, if_pos (mayReadHousing_iff.mpr (.inl hrole)), seesGroup_station hrole,
        seesPair_station hrole]
    · rw [reqReadHousing_of_range h1 h2, if_pos (mayReadHousing_iff.mpr (.inr howns)), seesGroup_tenant hrole,
        seesPair_tenant hrole]
    · rw [reqReadHousing_of_range h1 h2, if_neg]
      rw [mayReadHousing_iff]
      rintro (hstation | ⟨p, howner, e, he, heq⟩)
      · exact absurd (hrole.symm.trans hstation) nofun
      · exact hnone p howner e he heq
  case signature =>
    intro b first count p hb hmay hstate hn pr f c
    refine takeRequest_eq htake ?_
    have hf : clamp 1 (s.pair p).n first.toNat = f := clamp_eq_max_min hn _
    have hc : clamp 1 24 count.toNat = c := clamp_eq_max_min (by norm_num) _
    have hslice := encodeSigSlice_eq s p (first := f) (count := c) (le_max_left _ _)
    rw [reqReadSignature, withPair_of_toNat hb]
    simp only [ownerOrStation_iff.mpr hmay, Bool.not_true, Bool.false_eq_true, if_false, hf, hc, reply, hstate,
      ne_eq, not_true, u8_freezeCode, hslice, u8_of_toNat hb,
      Bool.decide_or]
    rfl
  case findings =>
    intro skip k all
    refine takeRequest_eq htake (congrArg (Prod.mk s) ?_)
    rw [findingsResp_eq, allSelected_eq]
    rfl
  case ofPair =>
    intro b skip p hb hmay k found
    refine takeRequest_eq htake ?_
    rw [reqReadFindings]
    simp only [withPair_of_toNat hb, ownerOrStation_iff.mpr hmay, Bool.not_true, Bool.false_eq_true, if_false,
      findingsResp_eq, encodeSelector, u8_toNat]
    rfl

end Sys2Proof.Machine
end

section
/-! SET_PARAMS. Settles O13. -/

namespace Sys2Proof.Machine

/-! ### One parameter written (R174) -/

theorem getParam_putParam (p : Params) (v : Nat) {n m : Nat} (hn : n ≤ 18) (hm : m ≤ 18) :
    getParam (putParam p n v) m = if m = n then v else getParam p m := by
  interval_cases n <;> interval_cases m <;> rfl

theorem settleWide_eq_putParam (p : Params) : settleWide p = putParam p 4 (clamp p.stable 1000 p.wide) := rfl

theorem getParam_settleWide (p : Params) {m : Nat} (hm : m ≤ 18) (h4 : m ≠ 4) :
    getParam (settleWide p) m = getParam p m := by
  rw [settleWide_eq_putParam, getParam_putParam p _ (by norm_num) hm, if_neg h4]

theorem settleWide_of_law {p : Params} (h1 : p.stable ≤ p.wide) (h2 : p.wide ≤ 1000) : settleWide p = p := by
  have : clamp p.stable 1000 p.wide = p.wide := by
    rw [clamp_eq_max_min (h1.trans h2)]; omega
  rw [settleWide, this]

theorem settleWide_ne_iff (p : Params) : settleWide p ≠ p ↔ (settleWide p).wide ≠ p.wide := by
  refine not_congr ⟨fun h => by rw [h], fun h => ?_⟩
  have hwide : clamp p.stable 1000 p.wide = p.wide := h
  rw [settleWide, hwide]

theorem paramRange_le {p : Params} (h : p.stable ≤ 1000) {n : Nat} (hn : n ≤ 18) :
    (paramRange p n).1 ≤ (paramRange p n).2 ∧ (paramRange p n).2 < 65536 := by
  interval_cases n <;> first | exact ⟨h, by norm_num [paramRange]⟩ | norm_num [paramRange]

theorem paramUsed_eq {p : Params} (h : p.stable ≤ 1000) {n : Nat} (hn : n ≤ 18) (v : Nat) :
    paramUsed p n v = max (paramRange p n).1 (min v (paramRange p n).2) :=
  clamp_eq_max_min (paramRange_le h hn).1 v

/-! ### SET_PARAMS -/

theorem reqSetParams_of_station {port : Port} {s : State} (h : (s.port port).role = .station)
    {entries : List (Byte × Half)} (hfit : paramsMalformed entries = false) :
    reqSetParams port entries s =
      (writeParams entries s, reply .ok
        (paramEntriesUsed entries s.params ≠ entries ||
          settleWide (applyParams entries s.params).1 ≠ (applyParams entries s.params).1)
        (encodeParams (paramsAfter entries s.params))
        (listOf encodeParamEntry (paramEntriesUsed entries s.params))) := by
  rw [reqSetParams, hfit, stationOnly_of_station h]
  rfl

section
variable (p : Params) (n : Byte) (v : Half)

/-- The parameters that one entry leaves. -/
def paramsWith : Params := settleWide (putParam p n.toNat (paramUsed p n.toNat v.toNat))

theorem paramsAfter_one : paramsAfter [(n, v)] p = paramsWith p n v := rfl

theorem stable_le_of_law {p : Params} (hlaw : ParamsLaw p) : p.stable ≤ 1000 := by
  obtain ⟨-, -, -, -, hwide, -⟩ := hlaw
  omega

variable {p n} (hlaw : ParamsLaw p) (hn : n.toNat ≤ 18)

include hn in
theorem getParam_paramsWith_ne {m : Nat} (hm : m ≤ 18) (hne : m ≠ n.toNat) (h4 : m ≠ 4) :
    getParam (paramsWith p n v) m = getParam p m := by
  rw [paramsWith, getParam_settleWide _ hm h4, getParam_putParam _ _ hn hm, if_neg hne]

include hlaw hn

theorem getParam_paramsWith_self : getParam (paramsWith p n v) n.toNat = paramUsed p n.toNat v.toNat := by
  have hstable := stable_le_of_law hlaw
  by_cases h4 : n.toNat = 4
  · have hused := paramUsed_eq hstable hn v.toNat
    rw [paramsWith]
    simp only [h4] at hused ⊢
    show clamp p.stable 1000 (paramUsed p 4 v.toNat) = paramUsed p 4 v.toNat
    rw [clamp_eq_max_min hstable, hused]
    simp only [paramRange]
    omega
  · rw [paramsWith, getParam_settleWide _ hn h4, getParam_putParam _ _ hn hn, if_pos rfl]

/-- The stable that stands after one entry is at most 1000, so wide is raised to it and no more. -/
theorem wide_paramsWith (h4 : n.toNat ≠ 4) :
    (paramsWith p n v).wide = max p.wide (paramsWith p n v).stable := by
  have hstable := stable_le_of_law hlaw
  obtain ⟨-, -, -, -, ⟨hsw, hw⟩, -⟩ := hlaw
  have hwide : (putParam p n.toNat (paramUsed p n.toNat v.toNat)).wide = p.wide := by
    have := getParam_putParam p (paramUsed p n.toNat v.toNat) hn (m := 4) (by norm_num)
    rwa [if_neg (Ne.symm h4)] at this
  have hst : (putParam p n.toNat (paramUsed p n.toNat v.toNat)).stable ≤ 1000 := by
    have := getParam_putParam p (paramUsed p n.toNat v.toNat) hn (m := 3) (by norm_num)
    have h3 : (putParam p n.toNat (paramUsed p n.toNat v.toNat)).stable
        = if 3 = n.toNat then paramUsed p n.toNat v.toNat else p.stable := this
    rw [h3]
    split
    · next h =>
      rw [paramUsed_eq hstable hn, ← h]
      simp only [paramRange]
      omega
    · exact hstable
  show clamp _ 1000 (putParam p n.toNat (paramUsed p n.toNat v.toNat)).wide = max p.wide
    (putParam p n.toNat (paramUsed p n.toNat v.toNat)).stable
  rw [clamp_eq_max_min hst, hwide]
  omega

/-- The entry as used holds the value that stands after the write, the final clamp of wide included. -/
theorem paramEntriesUsed_one : paramEntriesUsed [(n, v)] p =
    [(n, BitVec.ofNat 16 (paramUsed p n.toNat v.toNat))] := by
  have hcopy : paramEntriesUsed [(n, v)] p =
      settleCopy (paramsWith p n v).wide [(n, BitVec.ofNat 16 (paramUsed p n.toNat v.toNat))] := rfl
  rw [hcopy, settleCopy]
  by_cases h4 : n.toNat = 4
  · have hwide : (paramsWith p n v).wide = paramUsed p n.toNat v.toNat := by
      rw [← getParam_paramsWith_self v hlaw hn, h4]; rfl
    rw [if_pos ⟨h4, rfl⟩, hwide]
  · rw [if_neg (fun h => h4 h.1)]
    rfl

theorem paramUsed_lt : paramUsed p n.toNat v.toNat < 65536 := by
  have hstable := stable_le_of_law hlaw
  obtain ⟨-, hlt⟩ := paramRange_le hstable hn
  have hle := (paramRange_le hstable hn).1
  rw [paramUsed_eq hstable hn]
  omega

/-- The answer is ADJUSTED exactly where the value or wide has moved. -/
theorem moved_one_iff :
    (paramEntriesUsed [(n, v)] p ≠ [(n, v)] ∨
      settleWide (applyParams [(n, v)] p).1 ≠ (applyParams [(n, v)] p).1) ↔
    (paramUsed p n.toNat v.toNat ≠ v.toNat ∨ (n.toNat ≠ 4 ∧ (paramsWith p n v).wide ≠ p.wide)) := by
  have hlt := paramUsed_lt v hlaw hn
  have hvalue : paramEntriesUsed [(n, v)] p ≠ [(n, v)] ↔ paramUsed p n.toNat v.toNat ≠ v.toNat := by
    rw [paramEntriesUsed_one v hlaw hn]
    refine not_congr ⟨fun h => ?_, fun h => by rw [h, BitVec.ofNat_toNat, BitVec.setWidth_eq]⟩
    have h16 : BitVec.ofNat 16 (paramUsed p n.toNat v.toNat) = v := by simpa using h
    have hmod := congrArg BitVec.toNat h16
    rwa [BitVec.toNat_ofNat, Nat.mod_eq_of_lt hlt] at hmod
  have hwide : settleWide (applyParams [(n, v)] p).1 ≠ (applyParams [(n, v)] p).1 ↔
      n.toNat ≠ 4 ∧ (paramsWith p n v).wide ≠ p.wide := by
    rw [settleWide_ne_iff]
    show (paramsWith p n v).wide ≠ (putParam p n.toNat (paramUsed p n.toNat v.toNat)).wide ↔ _
    have hput : (putParam p n.toNat (paramUsed p n.toNat v.toNat)).wide
        = if 4 = n.toNat then paramUsed p n.toNat v.toNat else p.wide :=
      getParam_putParam p (paramUsed p n.toNat v.toNat) hn (m := 4) (by norm_num)
    by_cases h4 : n.toNat = 4
    · have hself : (paramsWith p n v).wide = paramUsed p n.toNat v.toNat := by
        rw [← getParam_paramsWith_self v hlaw hn, h4]; rfl
      rw [hput, if_pos h4.symm, hself]
      simp [h4]
    · rw [hput, if_neg (Ne.symm h4)]
      simp [h4]
  rw [hvalue, hwide]

theorem clearsRefresh_one : clearsRefresh (applyParams [(n, v)] p).2 = true ↔ n.toNat = 17 ∧ v.toNat = 0 := by
  have hstable := stable_le_of_law hlaw
  have hlt := paramUsed_lt v hlaw hn
  show clearsRefresh [(n, BitVec.ofNat 16 (paramUsed p n.toNat v.toNat))] = true ↔ _
  simp only [clearsRefresh, List.any_cons, List.any_nil, Bool.or_false, Bool.and_eq_true, decide_eq_true_eq,
    BitVec.toNat_ofNat, Nat.mod_eq_of_lt hlt]
  refine and_congr_right fun h17 => ?_
  rw [paramUsed_eq hstable hn, h17]
  simp only [paramRange]
  omega

end

theorem ofNat_eq_iff {x : Nat} (hx : x < 65536) (v : Half) : BitVec.ofNat 16 x = v ↔ x = v.toNat := by
  constructor
  · rintro rfl
    rw [BitVec.toNat_ofNat, Nat.mod_eq_of_lt hx]
  · rintro rfl
    rw [BitVec.ofNat_toNat, BitVec.setWidth_eq]

/-! ### Two parameters written, wide and then stable (log 18) -/

section
variable (p : Params) (wide stable : Half)

/-- The stable that the second entry leaves. -/
def stableUsed : Nat := max 1 (min stable.toNat 500)

/-- The wide that stands after both entries and the final clamp. -/
def wideUsed : Nat := max (stableUsed stable) (max p.stable (min wide.toNat 1000))

variable {p} (hlaw : ParamsLaw p)
include hlaw

theorem applyParams_wide_stable : applyParams [(4#8, wide), (3#8, stable)] p =
    ({ p with wide := max p.stable (min wide.toNat 1000), stable := stableUsed stable },
      [(4#8, BitVec.ofNat 16 (max p.stable (min wide.toNat 1000))), (3#8, BitVec.ofNat 16 (stableUsed stable))]) := by
  have hwide : paramUsed p 4 wide.toNat = max p.stable (min wide.toNat 1000) :=
    clamp_eq_max_min (stable_le_of_law hlaw) _
  have hstable : ∀ q : Params, paramUsed q 3 stable.toNat = stableUsed stable :=
    fun q => clamp_eq_max_min (by simp [paramRange]) _
  simp only [applyParams, show (4#8).toNat = 4 from rfl, show (3#8).toNat = 3 from rfl, hwide, hstable]
  rfl

theorem settleWide_wide_stable :
    settleWide { p with wide := max p.stable (min wide.toNat 1000), stable := stableUsed stable }
      = { p with wide := wideUsed p wide stable, stable := stableUsed stable } := by
  have hp := stable_le_of_law hlaw
  have hclamp : clamp (stableUsed stable) 1000 (max p.stable (min wide.toNat 1000)) = wideUsed p wide stable := by
    rw [clamp_eq_max_min (by unfold stableUsed; omega), wideUsed]
    omega
  simp only [settleWide, hclamp]

theorem paramEntriesUsed_wide_stable : paramEntriesUsed [(4#8, wide), (3#8, stable)] p =
    [(4#8, BitVec.ofNat 16 (wideUsed p wide stable)), (3#8, BitVec.ofNat 16 (stableUsed stable))] := by
  simp only [paramEntriesUsed, applyParams_wide_stable wide stable hlaw,
    settleWide_wide_stable wide stable hlaw]
  rfl

theorem wideUsed_lt : stableUsed stable < 65536 ∧ wideUsed p wide stable < 65536 := by
  have hp := stable_le_of_law hlaw
  unfold wideUsed stableUsed
  omega

/-- Where the final clamp moves wide, the value is not the one the entry gave. -/
theorem moved_wide_stable_iff :
    (paramEntriesUsed [(4#8, wide), (3#8, stable)] p ≠ [(4#8, wide), (3#8, stable)] ∨
      settleWide (applyParams [(4#8, wide), (3#8, stable)] p).1 ≠ (applyParams [(4#8, wide), (3#8, stable)] p).1) ↔
    (wideUsed p wide stable ≠ wide.toNat ∨ stableUsed stable ≠ stable.toNat) := by
  have hp := stable_le_of_law hlaw
  obtain ⟨hslt, hwlt⟩ := wideUsed_lt wide stable hlaw
  have hcopy : paramEntriesUsed [(4#8, wide), (3#8, stable)] p ≠ [(4#8, wide), (3#8, stable)] ↔
      (wideUsed p wide stable ≠ wide.toNat ∨ stableUsed stable ≠ stable.toNat) := by
    rw [paramEntriesUsed_wide_stable wide stable hlaw]
    simp only [ne_eq, List.cons.injEq, Prod.mk.injEq, true_and, and_true, ofNat_eq_iff hwlt wide,
      ofNat_eq_iff hslt stable, not_and_or]
  have hclamp : settleWide (applyParams [(4#8, wide), (3#8, stable)] p).1
      ≠ (applyParams [(4#8, wide), (3#8, stable)] p).1 → wideUsed p wide stable ≠ wide.toNat := by
    rw [settleWide_ne_iff, applyParams_wide_stable wide stable hlaw, settleWide_wide_stable wide stable hlaw]
    show wideUsed p wide stable ≠ max p.stable (min wide.toNat 1000) → _
    unfold wideUsed stableUsed
    omega
  rw [hcopy]
  exact ⟨fun h => h.elim id (fun h => .inl (hclamp h)), .inl⟩

theorem listOf_wide_stable :
    listOf encodeParamEntry (paramEntriesUsed [(4#8, wide), (3#8, stable)] p) =
      [2#8, 4#8] ++ u16 (wideUsed p wide stable) ++ [3#8] ++ u16 (stableUsed stable) := by
  obtain ⟨hslt, hwlt⟩ := wideUsed_lt wide stable hlaw
  rw [paramEntriesUsed_wide_stable wide stable hlaw]
  simp only [listOf, encodeParamEntry, List.flatMap_cons, List.flatMap_nil, BitVec.toNat_ofNat,
    Nat.mod_eq_of_lt hwlt, Nat.mod_eq_of_lt hslt]
  rfl

end

theorem listOf_one {p : Params} {n : Byte} (v : Half) (hlaw : ParamsLaw p) (hn : n.toNat ≤ 18) :
    listOf encodeParamEntry (paramEntriesUsed [(n, v)] p) = [1#8, n] ++ u16 (paramUsed p n.toNat v.toNat) := by
  rw [paramEntriesUsed_one v hlaw hn]
  simp only [listOf, encodeParamEntry, List.flatMap_cons, List.flatMap_nil, BitVec.toNat_ofNat,
    Nat.mod_eq_of_lt (paramUsed_lt v hlaw hn)]
  rfl

/-- What SET_PARAMS does where the copy and the moves are known. -/
theorem reqSetParams_eq {port : Port} {s : State} (h : (s.port port).role = .station)
    {entries : List (Byte × Half)} (hfit : paramsMalformed entries = false) {moved : Prop} [Decidable moved]
    (hmoved : (paramEntriesUsed entries s.params ≠ entries ∨
      settleWide (applyParams entries s.params).1 ≠ (applyParams entries s.params).1) ↔ moved)
    {used : List Byte} (hused : listOf encodeParamEntry (paramEntriesUsed entries s.params) = used) :
    reqSetParams port entries s = (writeParams entries s,
      ⟨.ok, decide moved, encodeParams (paramsAfter entries s.params) ++ if moved then used else []⟩) := by
  have hdecide : decide (paramEntriesUsed entries s.params ≠ entries ∨
      settleWide (applyParams entries s.params).1 ≠ (applyParams entries s.params).1) = decide moved :=
    decide_eq_decide.mpr hmoved
  rw [reqSetParams_of_station h hfit, ← Bool.decide_or, hdecide, hused, reply]
  by_cases hm : moved <;> simp [hm]

/-- Settles O13: no entry, one entry, and wide before stable. -/
theorem setParamsWritesOneParameter : Obligations.SetParamsWritesOneParameter := by
  intro port s htake hrole hlaw
  have hstable := stable_le_of_law hlaw
  refine ⟨?none, fun n v hn => ?one⟩
  case none =>
    obtain ⟨-, -, -, -, ⟨hsw, hw⟩, -⟩ := hlaw
    have hkeep := settleWide_of_law hsw hw
    have hmoved : (paramEntriesUsed [] s.params ≠ [] ∨
        settleWide (applyParams [] s.params).1 ≠ (applyParams [] s.params).1) ↔ False := by
      simp [paramEntriesUsed, applyParams, settleCopy, hkeep]
    have hstate : writeParams [] s = s := by
      show { s with params := settleWide s.params, intake := s.intake } = s
      rw [hkeep]
    refine takeRequest_eq htake ((reqSetParams_eq hrole rfl hmoved rfl).trans ?_)
    have hparams : paramsAfter [] s.params = s.params := hkeep
    rw [hstate, hparams, if_neg not_false, List.append_nil]
    rfl
  case one =>
    have hfit : paramsMalformed [(n, v)] = false := by simp [paramsMalformed]; omega
    refine ⟨_, _, takeRequest_eq htake (reqSetParams_eq hrole hfit (moved_one_iff v hlaw hn) (listOf_one v hlaw hn)),
      rfl, rfl, ?_, ?_, fun m hm hne h4 => getParam_paramsWith_ne v hn hm hne h4,
      fun h4 => wide_paramsWith v hlaw hn h4, ?_, fun wide stable => ?_⟩
    · simp only [writeParams, clearsRefresh_one v hlaw hn]
    · exact (getParam_paramsWith_self v hlaw hn).trans (paramUsed_eq hstable hn _)
    · have hself : getParam (writeParams [(n, v)] s).params n.toNat = paramUsed s.params n.toNat v.toNat :=
        getParam_paramsWith_self v hlaw hn
      rw [hself]
      exact ⟨rfl, rfl⟩
    · have hstate : writeParams [(4#8, wide), (3#8, stable)] s =
          { s with params := { s.params with
            stable := stableUsed stable, wide := wideUsed s.params wide stable } } := by
        simp only [writeParams, paramsAfter, applyParams_wide_stable wide stable hlaw,
          settleWide_wide_stable wide stable hlaw]
        rfl
      have hparams : paramsAfter [(4#8, wide), (3#8, stable)] s.params = { s.params with
          stable := stableUsed stable, wide := wideUsed s.params wide stable } := by
        simp only [paramsAfter, applyParams_wide_stable wide stable hlaw, settleWide_wide_stable wide stable hlaw]
      refine takeRequest_eq htake ((reqSetParams_eq hrole rfl (moved_wide_stable_iff wide stable hlaw)
        (listOf_wide_stable wide stable hlaw)).trans ?_)
      rw [hstate, hparams]
      rfl

end Sys2Proof.Machine
end

section
/-! Bytes clocked on a port. Settles O14. -/

namespace Sys2Proof.Machine

/-! ### One byte clocked, by the state of the port (R168, R169) -/

section
variable {t : PortState} (b : Byte)

theorem clockByte_of_handling (h : t.frame = .handling) :
    clockByte t b = { t with csLow := true, miso := t.miso ++ [0#8] } := by
  simp [clockByte, h, putMiso]

/-- In IDLE, inside a period or at its first byte where that is zero, a byte meets filler. -/
theorem clockByte_of_idle (h : t.frame = .idle) (hb : t.csLow = true ∨ b = 0#8) :
    clockByte t b = { t with csLow := true, miso := t.miso ++ [0#8] } := by
  obtain hlow | rfl := hb
  · simp [clockByte, h, hlow, putMiso]
  · cases hlow : t.csLow <;> simp [clockByte, h, hlow, putMiso, beginFrame]

/-- In RESPONDING, inside a period or at its first byte where that is zero, a byte of the response is shifted
out. -/
theorem clockByte_of_responding (h : t.frame = .responding) (hb : t.csLow = true ∨ b = 0#8) :
    clockByte t b = { t with
      csLow := true, miso := t.miso ++ [t.response.headD 0#8], response := t.response.tail
      frame := if t.response.length ≤ 1 then .idle else .responding } := by
  obtain hlow | rfl := hb
  · simp [clockByte, h, hlow, shiftOut, putMiso]
  · cases hlow : t.csLow <;> simp [clockByte, h, hlow, shiftOut, putMiso, beginFrame]

/-- The first byte of a period, where it is not zero, begins a request frame. -/
theorem clockByte_begins (h : t.frame = .idle ∨ t.frame = .responding) (hlow : t.csLow = false)
    (hb : b ≠ 0#8) : clockByte t b = { t with
      csLow := true, frame := .receiving, received := [b], response := []
      miso := t.miso ++ [if t.frame = .responding then t.response.headD 0#8 else 0#8] } := by
  obtain h | h := h <;> simp [clockByte, h, hlow, shiftOut, putMiso, beginFrame, hb]

theorem clockByte_of_receiving (h : t.frame = .receiving) :
    clockByte t b = { t with
      csLow := true, received := t.received ++ [b], miso := t.miso ++ [0#8]
      frame := if frameEnded (t.received ++ [b]) then .handling else .receiving } := by
  simp [clockByte, h, receiveByte, putMiso]

end

/-! ### Where a frame ends (R168) -/

/-- Length of the frame that some bytes begin, as far as they tell it: one byte more than there are until the
length bytes have come. -/
def frameLength : List Byte → Nat
  | _ :: hi :: lo :: _ =>
    3 + (if 512 < hi.toNat * 256 + lo.toNat then 0 else hi.toNat * 256 + lo.toNat)
  | l => l.length + 1

theorem frameLength_of_short {l : List Byte} (h : l.length < 3) : frameLength l = l.length + 1 := by
  match l, h with
  | [], _ | [_], _ | [_, _], _ => rfl

theorem frameLength_append {l : List Byte} (h : 3 ≤ l.length) (m : List Byte) :
    frameLength (l ++ m) = frameLength l := by
  match l, h with
  | _ :: _ :: _ :: _, _ => rfl

theorem three_le_frameLength {l : List Byte} (h : 3 ≤ l.length) : 3 ≤ frameLength l := by
  match l, h with
  | _ :: _ :: _ :: _, _ => exact Nat.le_add_right _ _

theorem frameEnded_iff (l : List Byte) : frameEnded l = true ↔ frameLength l ≤ l.length := by
  match l with
  | [] | [_] | [_, _] => simp [frameEnded, frameLength]
  | _ :: hi :: lo :: rest =>
    have hmax : Config.maxBody = 512 := rfl
    simp only [frameEnded, frameLength, declaredLength, half_toNat, hmax, Bool.or_eq_true, decide_eq_true_eq,
      List.length_cons]
    split <;> omega

/-- The byte that ends a frame is its last one. -/
theorem frameLength_eq_of_ended {l : List Byte} {b : Byte} (hopen : l.length < frameLength l)
    (hended : frameLength (l ++ [b]) ≤ (l ++ [b]).length) : frameLength (l ++ [b]) = (l ++ [b]).length := by
  have hlen : (l ++ [b]).length = l.length + 1 := by simp
  by_cases h3 : 3 ≤ l.length
  · rw [frameLength_append h3] at hended ⊢
    omega
  · by_cases h2 : l.length = 2
    · have := three_le_frameLength (l := l ++ [b]) (by omega)
      omega
    · have := frameLength_of_short (l := l ++ [b]) (by omega)
      omega

/-! ### Runs of bytes -/

theorem clockBytes_of_handling (bytes : List Byte) {t : PortState} (h : t.frame = .handling) :
    bytes.foldl clockByte t = { t with
      csLow := t.csLow || decide (0 < bytes.length), miso := t.miso ++ List.replicate bytes.length 0#8 } := by
  induction bytes generalizing t with
  | nil => simp
  | cons b bytes ih =>
    rw [List.foldl_cons, clockByte_of_handling b h, ih (by exact h)]
    simp [List.replicate_succ]

theorem clockBytes_of_idle (bytes : List Byte) {t : PortState} (h : t.frame = .idle)
    (hb : t.csLow = true ∨ ∀ b, bytes.head? = some b → b = 0#8) :
    bytes.foldl clockByte t = { t with
      csLow := t.csLow || decide (0 < bytes.length), miso := t.miso ++ List.replicate bytes.length 0#8 } := by
  induction bytes generalizing t with
  | nil => simp
  | cons b bytes ih =>
    rw [List.foldl_cons, clockByte_of_idle b h (hb.imp_right fun h => h b rfl), ih (by exact h) (.inl rfl)]
    simp [List.replicate_succ]

/-- The bytes that a read-out of `n` bytes shifts out of a response: its own, then filler. -/
def shiftedBytes (response : List Byte) (n : Nat) : List Byte :=
  (List.range n).map (fun i => (response[i]?).getD 0#8)

theorem shiftedBytes_succ (response : List Byte) (n : Nat) :
    shiftedBytes response (n + 1) = response.headD 0#8 :: shiftedBytes response.tail n := by
  cases response <;> simp [shiftedBytes, List.range_succ_eq_map, Function.comp_def]

theorem shiftedBytes_nil (n : Nat) : shiftedBytes [] n = List.replicate n 0#8 := by
  simp [shiftedBytes, List.map_const']

theorem clockBytes_of_responding (bytes : List Byte) {t : PortState} (h : t.frame = .responding)
    (hne : t.response ≠ []) (hb : t.csLow = true ∨ ∀ b, bytes.head? = some b → b = 0#8) :
    bytes.foldl clockByte t = { t with
      csLow := t.csLow || decide (0 < bytes.length)
      miso := t.miso ++ shiftedBytes t.response bytes.length, response := t.response.drop bytes.length
      frame := if t.response.length ≤ bytes.length then .idle else .responding } := by
  induction bytes generalizing t with
  | nil =>
    have : ¬ t.response.length ≤ 0 := by simpa using hne
    simp [shiftedBytes, ← h, hne]
  | cons b bytes ih =>
    rw [List.foldl_cons, clockByte_of_responding b h (hb.imp_right fun h => h b rfl), List.length_cons,
      shiftedBytes_succ]
    by_cases hlast : t.response.length ≤ 1
    · have htail : t.response.tail = [] := List.eq_nil_of_length_eq_zero (by rw [List.length_tail]; omega)
      rw [clockBytes_of_idle bytes (by simp [hlast]) (.inl rfl)]
      have hlen : t.response.length ≤ bytes.length + 1 := by omega
      simp [hlast, htail, hlen, shiftedBytes_nil]
    · have htail : t.response.tail ≠ [] := List.ne_nil_of_length_pos (by rw [List.length_tail]; omega)
      rw [ih (by simp [hlast]) htail (.inl rfl)]
      simp

/-- Bytes received: the frame stays open, or it is cut at its length and the bytes after it are ignored. -/
theorem clockBytes_of_receiving (bytes : List Byte) {t : PortState} (h : t.frame = .receiving)
    (hlow : t.csLow = true) (hopen : t.received.length < frameLength t.received) :
    bytes.foldl clockByte t =
      if frameLength (t.received ++ bytes) ≤ (t.received ++ bytes).length then
        { t with
          received := (t.received ++ bytes).take (frameLength (t.received ++ bytes)), frame := .handling
          miso := t.miso ++ List.replicate bytes.length 0#8 }
      else
        { t with received := t.received ++ bytes, miso := t.miso ++ List.replicate bytes.length 0#8 } := by
  induction bytes generalizing t with
  | nil => simp [hopen]
  | cons b bytes ih =>
    have hassoc : t.received ++ b :: bytes = (t.received ++ [b]) ++ bytes := by simp
    rw [List.foldl_cons, clockByte_of_receiving b h, hassoc]
    by_cases hended : frameLength (t.received ++ [b]) ≤ (t.received ++ [b]).length
    · have hlen := frameLength_eq_of_ended hopen hended
      have hthree : 3 ≤ (t.received ++ [b]).length := by
        by_contra hshort
        have := frameLength_of_short (l := t.received ++ [b]) (by omega)
        omega
      rw [if_pos ((frameEnded_iff _).mpr hended), clockBytes_of_handling bytes rfl, frameLength_append hthree, hlen,
        if_pos (by simp), List.take_left]
      simp [hlow, List.replicate_succ]
    · have hnot : frameEnded (t.received ++ [b]) ≠ true := fun he => hended ((frameEnded_iff _).mp he)
      rw [if_neg hnot, ih rfl rfl (Nat.lt_of_not_le hended)]
      simp [hlow, h, List.replicate_succ]

/-! ### The whole read-out -/

/-- The levels of the lines after a read-out: CS_N stays low unless it rises (R168). -/
theorem clockPort_of_high {t : PortState} (h : t.prstLow = false) (c : Clocking) :
    clockPort c t = if c.rise then riseCs (c.mosi.foldl clockByte { t with miso := [] })
      else c.mosi.foldl clockByte { t with miso := [] } := by
  simp [clockPort, h]

theorem exec_of_not_endsFrame {port : Port} {c : Clocking} {s : State} {u : PortState}
    (hu : clockPort c (s.port port) = u) (hends : (s.port port).frame = .handling ∨ u.frame ≠ .handling) :
    exec (.responseReadOut port c) s = .next (s.setPort port (fun _ => u)) := by
  have hnot : endsFrame c (s.port port) = false := by
    subst hu
    obtain h | h := hends <;> simp [endsFrame, h]
  refine (execResponseReadOut_of_not_endsFrame port c s hnot).trans (congrArg _ ?_)
  exact State.setPort_congr hu

theorem frameCommand_requestPort (frame : PortFrame) : (frameCommand frame).requestPort = some frame.port := by
  unfold frameCommand
  cases hdecode : decodeFrame frame with
  | none => rfl
  | some i => exact (decodeFrame_spelled hdecode).port

theorem exec_total (c : Instr) (s : State) : ∃ t, exec c s = .next t := by
  obtain ⟨t, ht, -⟩ := exec_does c s
  exact ⟨t, ht⟩

/-- Bytes that end a frame: its request is taken with the port as the bytes leave it, but in IDLE. -/
theorem exec_of_endsFrame {port : Port} {c : Clocking} {s : State} {u : PortState}
    (hu : clockPort c (s.port port) = u) (hopen : (s.port port).frame ≠ .handling) (hends : u.frame = .handling) :
    ∃ t, exec (frameCommand ⟨port, u.received⟩) (s.setPort port (fun _ => { u with frame := .idle })) = .next t ∧
      exec (.responseReadOut port c) s =
        .next (t.setPort port (fun y => { y with frame := .handling, csLow := u.csLow })) := by
  have hyes : endsFrame c (s.port port) = true := by
    subst hu
    simp [endsFrame, hopen, hends]
  have hport : (s.setPort port (clockPort c)).port port = u := by
    rw [State.port_setPort, if_pos rfl, hu]
  have hready : readyPort port (s.setPort port (clockPort c)) =
      s.setPort port (fun _ => { u with frame := .idle }) := by
    rw [readyPort, State.setPort_setPort]
    exact State.setPort_congr (by rw [hu])
  obtain ⟨t, ht⟩ := exec_total (frameCommand ⟨port, u.received⟩)
    (s.setPort port (fun _ => { u with frame := .idle }))
  refine ⟨t, ht, (execResponseReadOut_of_endsFrame port c s hyes).trans ?_⟩
  rw [takeFrame, hport, hready, requestMeaning_eq_exec _ _ _ (frameCommand_requestPort _), ht]
  rfl

/-- In RESPONDING, the period going on: unread bytes, then filler, and IDLE after the last one. -/
theorem clockPort_of_responding {t : PortState} (hhigh : t.prstLow = false) (h : t.frame = .responding)
    (hne : t.response ≠ []) {mosi : List Byte} (hb : t.csLow = true ∨ ∀ b, mosi.head? = some b → b = 0#8)
    (rise : Bool) : clockPort ⟨mosi, rise⟩ t = { t with
      miso := shiftedBytes t.response mosi.length, csLow := !rise && (t.csLow || decide (0 < mosi.length))
      response := t.response.drop mosi.length
      frame := if t.response.length ≤ mosi.length then .idle else .responding } := by
  rw [clockPort_of_high hhigh, clockBytes_of_responding mosi (t := { t with miso := [] }) h hne hb]
  cases rise
  · rfl
  · by_cases hlast : t.response.length ≤ mosi.length <;> simp [riseCs, hlast]

/-- In IDLE, the period going on, and in HANDLING: bytes are ignored and meet filler. -/
theorem clockPort_of_ignoring {t : PortState} (hhigh : t.prstLow = false) {mosi : List Byte}
    (h : (t.frame = .idle ∧ (t.csLow = true ∨ ∀ b, mosi.head? = some b → b = 0#8)) ∨ t.frame = .handling)
    (rise : Bool) : clockPort ⟨mosi, rise⟩ t = { t with
      miso := List.replicate mosi.length 0#8, csLow := !rise && (t.csLow || decide (0 < mosi.length)) } := by
  have hbytes : mosi.foldl clockByte { t with miso := [] } = { t with
      csLow := t.csLow || decide (0 < mosi.length), miso := List.replicate mosi.length 0#8 } := by
    obtain ⟨hidle, hb⟩ | hhandling := h
    · exact clockBytes_of_idle mosi (t := { t with miso := [] }) hidle hb
    · exact clockBytes_of_handling mosi (t := { t with miso := [] }) hhandling
  have hframe : t.frame ≠ .receiving := by
    obtain ⟨h, -⟩ | h := h <;> rw [h] <;> nofun
  rw [clockPort_of_high hhigh, hbytes]
  cases rise
  · rfl
  · simp [riseCs, hframe]

/-- Bytes of a request: the port takes one in, or begins one with the first byte of a period that is not
zero. -/
def TakesRequest (t : PortState) (mosi : List Byte) : Prop :=
  ((t.frame = .idle ∨ t.frame = .responding) ∧
    ¬ (t.csLow = true ∨ ∀ b, mosi.head? = some b → b = 0#8)) ∨
  (t.frame = .receiving ∧ t.csLow = true ∧ t.received.length < frameLength t.received)

/-- The port in RECEIVING with all the bytes of its frame so far. -/
def receivingPort (t : PortState) (mosi : List Byte) : PortState :=
  { t with
    csLow := true, frame := .receiving
    miso := if t.frame = .responding then [t.response.headD 0#8] ++ List.replicate (mosi.length - 1) 0#8
      else List.replicate mosi.length 0#8
    received := (if t.frame = .receiving then t.received else []) ++ mosi
    response := if t.frame = .receiving then t.response else [] }

theorem clockBytes_of_takesRequest {t : PortState} {mosi : List Byte} (h : TakesRequest t mosi) :
    mosi.foldl clockByte { t with miso := [] } =
      if frameLength (receivingPort t mosi).received ≤ (receivingPort t mosi).received.length then
        { receivingPort t mosi with
          received := (receivingPort t mosi).received.take (frameLength (receivingPort t mosi).received)
          frame := .handling }
      else receivingPort t mosi := by
  obtain ⟨hframe, hbegin⟩ | ⟨hframe, hlow, hopen⟩ := h
  · obtain ⟨hlow, hb⟩ := not_or.mp hbegin
    simp only [not_forall] at hb
    obtain ⟨b, hhead, hb⟩ := hb
    obtain ⟨rest, rfl⟩ : ∃ rest, mosi = b :: rest := by
      cases mosi with
      | nil => cases hhead
      | cons c rest => exact ⟨rest, by rw [Option.some.inj hhead]⟩
    have hnot : t.frame ≠ .receiving := by obtain h | h := hframe <;> rw [h] <;> nofun
    have hgot : (receivingPort t (b :: rest)).received = [b] ++ rest := by simp [receivingPort, hnot]
    rw [List.foldl_cons, clockByte_begins b (t := { t with miso := [] }) hframe (by simpa using hlow) hb,
      clockBytes_of_receiving rest rfl rfl (by simp [frameLength]), hgot]
    obtain hf | hf := hframe <;> simp [receivingPort, hf, List.replicate_succ]
  · rw [clockBytes_of_receiving mosi (t := { t with miso := [] }) hframe hlow hopen]
    simp [receivingPort, hframe, hlow]

theorem clockPort_of_open {t : PortState} (hhigh : t.prstLow = false) {mosi : List Byte} (h : TakesRequest t mosi)
    (hopen : (receivingPort t mosi).received.length < frameLength (receivingPort t mosi).received) :
    clockPort ⟨mosi, false⟩ t = receivingPort t mosi := by
  rw [clockPort_of_high hhigh, clockBytes_of_takesRequest h, if_neg (Nat.not_le.mpr hopen)]
  rfl

/-- The frame is cut at its length, or by the rise of CS_N where the bytes end before it. -/
theorem clockPort_of_ended {t : PortState} (hhigh : t.prstLow = false) {mosi : List Byte} (h : TakesRequest t mosi)
    {rise : Bool} (hended : frameLength (receivingPort t mosi).received ≤ (receivingPort t mosi).received.length ∨
      rise = true) :
    clockPort ⟨mosi, rise⟩ t = { receivingPort t mosi with
      received := (receivingPort t mosi).received.take (frameLength (receivingPort t mosi).received)
      frame := .handling, csLow := !rise } := by
  rw [clockPort_of_high hhigh, clockBytes_of_takesRequest h]
  by_cases hlen : frameLength (receivingPort t mosi).received ≤ (receivingPort t mosi).received.length
  · rw [if_pos hlen]
    cases rise <;> rfl
  · obtain rfl : rise = true := hended.resolve_left hlen
    rw [if_neg hlen, List.take_of_length_le (Nat.le_of_not_le hlen)]
    rfl

/-- Settles O14: which of the four runs of bytes the port's state and the first byte call for. -/
theorem readOutShiftsResponse : Obligations.ReadOutShiftsResponse := by
  intro port mosi rise s x n after low continues ends got
  have hends : ends = frameLength := by
    funext l
    match l with
    | [] | [_] | [_, _] | _ :: _ :: _ :: _ => rfl
  refine ⟨fun hreset => ?reset, fun hhigh hframe hne hgoes => ?shift, fun hhigh hquiet => ?quiet,
    fun hhigh htakes => ?request⟩
  case reset =>
    have hclock : clockPort ⟨mosi, rise⟩ x = { x with miso := List.replicate n 0#8 } := by
      simp only [clockPort, hreset, if_true]
      rfl
    refine exec_of_not_endsFrame hclock ?_
    by_cases h : x.frame = .handling
    · exact .inl h
    · exact .inr h
  case shift =>
    refine ⟨_, exec_of_not_endsFrame (clockPort_of_responding hhigh hframe hne hgoes rise) (.inr ?_), rfl, ?_, ?_⟩
    · dsimp only; split <;> nofun
    · simp [shiftedBytes, n]
    · intro i hi
      simp [shiftedBytes, hi, n]
  case quiet =>
    refine exec_of_not_endsFrame (clockPort_of_ignoring hhigh hquiet rise) ?_
    obtain ⟨hidle, -⟩ | hhandling := hquiet
    · exact .inr (by rw [show _ = x.frame from rfl, hidle]; nofun)
    · exact .inl hhandling
  case request =>
    intro miso held frame
    rw [hends] at htakes
    have hopen : x.frame ≠ .handling := by
      obtain ⟨h | h, -⟩ | ⟨h, -⟩ := htakes <;> rw [h] <;> nofun
    refine ⟨fun hshort hlow => ?_, fun hended => ?_⟩
    · rw [hends] at hshort
      subst hlow
      exact exec_of_not_endsFrame (clockPort_of_open hhigh htakes hshort) (.inr nofun)
    · rw [hends] at hended
      have hframe : frame = got.take (frameLength got) := by rw [← hends]
      rw [hframe]
      exact exec_of_endsFrame (clockPort_of_ended hhigh htakes hended) hopen rfl

end Sys2Proof.Machine
end

section
/-! Requests without effect. Settles O16. -/

namespace Sys2Proof.Machine

/-! ### The length of a body that spells a request (R170, R181) -/

/-- Body length of the kinds whose body has one. -/
def fixedLength : RequestKind → Option Nat
  | .identify | .readStatus | .readNotices | .clearNotices | .submitDark | .readConcur | .readFaultLog
  | .clearSwitchFault | .engineReset => some 0
  | .cancelJob | .jobStatus | .readPairStats | .readHousing | .routeClose => some 1
  | .setNoticeMask | .readResults | .concur | .freeze | .writeHousing => some 2
  | .submitSynth | .readSignature | .relearn | .readFindings | .dismiss | .readRoute | .assign => some 3
  | .setPatrol => some 5
  | .routeOpen => some 6
  | .submitMeasure | .submitSurvey => some 7
  | .submitCommand | .writeSignature | .routeEntries | .setParams | .setDarkMode | .synthDefine => none

/-- Place of the count byte, counted from 1, and length of an entry, of the kinds whose body is a list. -/
def listLayout : RequestKind → Option (Nat × Nat)
  | .writeSignature => some (3, 2)
  | .routeEntries => some (3, 3)
  | .setParams => some (1, 3)
  | .synthDefine => some (11, 4)
  | _ => none

theorem length_of_fixed {port : Port} {k : RequestKind} {l : List Byte} {i : Instr} {m : Nat}
    (h : decodeBody port k l = some i) (hm : fixedLength k = some m) : l.length = m := by
  cases k with
  | identify | readStatus | readNotices | clearNotices | submitDark | readConcur | readFaultLog | clearSwitchFault
  | engineReset =>
    obtain ⟨rfl, -⟩ := body0_eq_some.mp h
    exact Option.some.inj hm
  | cancelJob | jobStatus | readPairStats | readHousing | routeClose =>
    obtain ⟨a, rfl, -⟩ := body1_eq_some.mp h
    exact Option.some.inj hm
  | readResults | freeze | writeHousing =>
    obtain ⟨a, b, rfl, -⟩ := body2_eq_some.mp h
    exact Option.some.inj hm
  | submitSynth | readSignature | relearn | dismiss | readRoute =>
    obtain ⟨a, b, c, rfl, -⟩ := body3_eq_some.mp h
    exact Option.some.inj hm
  | setNoticeMask | submitMeasure | submitSurvey | setPatrol | routeOpen | concur | readFindings | assign =>
    simp only [decodeBody, readMask, readMeasure, readSurvey, readPatrol, readRouteOpen, readConcurAnswer,
      readSelector, readOwner] at h
    split at h
    · exact Option.some.inj hm
    · exact absurd h nofun
  | submitCommand | writeSignature | routeEntries | setParams | setDarkMode | synthDefine =>
    exact absurd hm nofun

theorem length_of_command {port : Port} {l : List Byte} {i : Instr} (h : readCommand port l = some i) :
    5 ≤ l.length ∧ l.length ≤ 10 := by
  unfold readCommand at h
  split at h
  · split at h
    · next hrest =>
      simp only [List.length_cons]
      omega
    · exact absurd h nofun
  · exact absurd h nofun

theorem length_of_darkMode {port : Port} {l : List Byte} {i : Instr} (h : readDarkMode port l = some i) :
    l.length = 1 ∨ l.length = 3 := by
  unfold readDarkMode at h
  split at h
  · exact .inr rfl
  · exact .inl rfl
  · exact absurd h nofun

theorem length_of_counted {α : Type} {read : List Byte → Option (List α)} {unit : Nat}
    (hread : ∀ {l v}, read l = some v → l.length = unit * v.length) {n : Byte} {rest : List Byte} {v : List α}
    (h : counted n (read rest) = some v) : rest.length = unit * n.toNat := by
  obtain ⟨hv, hcount⟩ := counted_eq_some.mp h
  rw [hread hv, hcount]

/-- A body that is a list is as long as its count byte says. -/
theorem length_of_list {port : Port} {k : RequestKind} {l : List Byte} {i : Instr} {base unit : Nat}
    (h : decodeBody port k l = some i) (hm : listLayout k = some (base, unit)) :
    ∃ c, l[base - 1]? = some c ∧ l.length = base + unit * c.toNat := by
  cases k with
  | writeSignature =>
    obtain ⟨rfl, rfl⟩ := Prod.mk.inj (Option.some.inj hm)
    simp only [decodeBody, readBases] at h
    split at h
    · next n rest =>
      obtain ⟨v, hv, -⟩ := Option.map_eq_some_iff.mp h
      have := length_of_counted length_of_readHalves hv
      exact ⟨n, rfl, by simp only [List.length_cons]; omega⟩
    · exact absurd h nofun
  | routeEntries =>
    obtain ⟨rfl, rfl⟩ := Prod.mk.inj (Option.some.inj hm)
    simp only [decodeBody, readRouteEntries] at h
    split at h
    · next n rest =>
      obtain ⟨v, hv, -⟩ := Option.map_eq_some_iff.mp h
      have := length_of_counted length_of_readEntries hv
      exact ⟨n, rfl, by simp only [List.length_cons]; omega⟩
    · exact absurd h nofun
  | setParams =>
    obtain ⟨rfl, rfl⟩ := Prod.mk.inj (Option.some.inj hm)
    simp only [decodeBody, readParams] at h
    split at h
    · next n rest =>
      obtain ⟨v, hv, -⟩ := Option.map_eq_some_iff.mp h
      have := length_of_counted length_of_readEntries hv
      exact ⟨n, rfl, by simp only [List.length_cons]; omega⟩
    · exact absurd h nofun
  | synthDefine =>
    obtain ⟨rfl, rfl⟩ := Prod.mk.inj (Option.some.inj hm)
    simp only [decodeBody, readSynth] at h
    split at h
    · next n rest =>
      obtain ⟨v, hv, -⟩ := Option.map_eq_some_iff.mp h
      have := length_of_counted length_of_readEchoes hv
      exact ⟨n, rfl, by simp only [List.length_cons]; omega⟩
    · exact absurd h nofun
  | _ => exact absurd hm nofun

/-! ### Frames that spell no request -/

/-- Length that the two length bytes of a frame declare. -/
theorem declaredLength_eq (hi lo : Byte) : declaredLength hi lo = hi.toNat * 256 + lo.toNat := half_toNat hi lo

/-- A frame spells a request only where its declared body has arrived, is at most 512 long, and spells one of
its kind. -/
theorem decodeFrame_cons_eq_some {port : Port} {kind hi lo : Byte} {rest : List Byte} {i : Instr}
    (h : decodeFrame ⟨port, kind :: hi :: lo :: rest⟩ = some i) :
    hi.toNat * 256 + lo.toNat ≤ 512 ∧ hi.toNat * 256 + lo.toNat ≤ rest.length ∧
    ∃ k, kindOf kind = some k ∧ decodeBody port k (rest.take (hi.toNat * 256 + lo.toNat)) = some i := by
  obtain ⟨⟨kind', body⟩, hparts, hbind⟩ := Option.bind_eq_some_iff.mp h
  obtain ⟨k, hk, hbody⟩ := Option.bind_eq_some_iff.mp hbind
  simp only [frameParts, declaredLength_eq, Option.ite_none_right_eq_some, Option.some.injEq, Prod.mk.injEq]
    at hparts
  obtain ⟨⟨hmax, hlen⟩, rfl, rfl⟩ := hparts
  exact ⟨hmax, hlen, k, hk, hbody⟩

theorem decodeFrame_short {port : Port} {bytes : List Byte} (h : bytes.length ≤ 2) :
    decodeFrame ⟨port, bytes⟩ = none := by
  match bytes, h with
  | [], _ | [_], _ | [_, _], _ => rfl

theorem exec_frameMalformed {port : Port} {s : State} (htake : s.canTake port = true) {bytes : List Byte}
    (hbegin : beginsFrame bytes = true) (hnone : decodeFrame ⟨port, bytes⟩ = none) :
    exec (.frameMalformed ⟨port, bytes⟩) s = .next (holdResponse port (plainResp .malformed []) s) := by
  have hbad : malformedFrame ⟨port, bytes⟩ = true := by simp [malformedFrame, hbegin, hnone]
  show execFrameMalformed ⟨port, bytes⟩ s = _
  rw [execFrameMalformed, if_pos hbad]
  exact takeRequest_eq htake rfl

theorem exec_not_frameMalformed {port : Port} (s : State) {bytes : List Byte}
    (h : bytes.head? = none ∨ bytes.head? = some 0#8 ∨ decodeFrame ⟨port, bytes⟩ ≠ none) :
    exec (.frameMalformed ⟨port, bytes⟩) s = .next s := by
  have hgood : malformedFrame ⟨port, bytes⟩ = false := by
    rw [malformedFrame, Bool.and_eq_false_iff]
    obtain h | h | h := h
    · exact .inl (by simp [beginsFrame, h])
    · exact .inl (by simp [beginsFrame, h])
    · exact .inr (by rw [Option.isNone_eq_false_iff]; exact Option.isSome_iff_ne_none.mpr h)
  show execFrameMalformed ⟨port, bytes⟩ s = _
  rw [execFrameMalformed, if_neg (by simp [hgood])]

/-- A kind byte that is a code names the kind at that place of the catalogue. -/
theorem kindOf_of_toNat {kind : Byte} {m : Nat} (h : kind.toNat = m) (hm : m ≠ 0) :
    kindOf kind = catalogue[m - 1]? := by
  rw [kindOf, h, if_neg hm]

section
variable {port : Port} {kind hi lo : Byte} {rest : List Byte}

/-- A declared length that no form of the kind has makes the frame malformed. -/
theorem decodeFrame_eq_none_of_length {m : Nat} (hkind : kind.toNat = m) (hm : m ≠ 0) {k : RequestKind}
    (hk : catalogue[m - 1]? = some k)
    (hform : ∀ (l : List Byte) (i : Instr), decodeBody port k l = some i → l.length = hi.toNat * 256 + lo.toNat →
      (∀ (j : Nat) (c : Byte), l[j]? = some c → rest[j]? = some c) → False) :
    decodeFrame ⟨port, kind :: hi :: lo :: rest⟩ = none := by
  refine Option.eq_none_iff_forall_not_mem.mpr fun i hi' => ?_
  obtain ⟨-, hlen, k', hk', hbody⟩ := decodeFrame_cons_eq_some hi'
  rw [kindOf_of_toNat hkind hm, hk] at hk'
  obtain rfl := Option.some.inj hk'
  refine hform _ i hbody (by rw [List.length_take]; omega) fun j c hc => ?_
  obtain ⟨hj, rfl⟩ := List.getElem?_eq_some_iff.mp hc
  rw [List.getElem_take]
  exact List.getElem?_eq_getElem _

/-- The kinds with a body of one length. -/
theorem fixedLength_of_code : ∀ form ∈ [(1, 0), (2, 0), (3, 0), (4, 2), (5, 0), (6, 7), (7, 7), (9, 0), (10, 3),
    (11, 1), (12, 1), (13, 2), (14, 2), (15, 0), (16, 3), (18, 3), (19, 2), (20, 3), (21, 3), (22, 5), (23, 1),
    (24, 2), (25, 1), (26, 6), (28, 1), (29, 3), (30, 3), (33, 0), (34, 0), (35, 0)],
    form.1 ≠ 0 ∧ (catalogue[form.1 - 1]?).bind fixedLength = some form.2 := by decide

/-- The kinds whose body is a list. -/
theorem listLayout_of_code : ∀ form ∈ [(17, 3, 2), (27, 3, 3), (31, 1, 3), (36, 11, 4)],
    form.1 ≠ 0 ∧ (catalogue[form.1 - 1]?).bind listLayout = some form.2 := by decide

end

/-! ### Bodies with a field outside its set (R171) -/

theorem yesNoByte_eq_none {b : Byte} (h : 1 < b.toNat) : yesNoByte b = none := by
  rw [yesNoByte, if_neg (by omega), if_neg (by omega)]

theorem classOf_eq_none {n : Nat} (h : 5 < n ∨ n = 0) : classOf n = none := by
  match n, h with
  | 0, _ => rfl
  | n + 6, _ => rfl

theorem freezeByte_eq_none {b : Byte} (h : 2 < b.toNat ∨ b.toNat = 0) : freezeByte b = none := by
  rw [freezeByte, if_neg (by omega), if_neg (by omega)]

theorem presenceByte_eq_none {b : Byte} (h : 2 < b.toNat ∨ b.toNat = 0) : presenceByte b = none := by
  rw [presenceByte, if_neg (by omega), if_neg (by omega)]

theorem modeByte_eq_none {b : Byte} (h : 2 < b.toNat ∨ b.toNat = 0) : modeByte b = none := by
  rw [modeByte, if_neg (by omega), if_neg (by omega)]

theorem paramsMalformed_of {l : List (Byte × Half)} (h : 19 < l.length ∨ ∃ e ∈ l, 18 < e.1.toNat) :
    paramsMalformed l = true := by
  simpa [paramsMalformed] using h

/-! ### Requests that the role or the reset of a port refuses -/

theorem stationOnly_of_tenant {port : Port} {s : State} (h : (s.port port).role = .tenant) (k : State × Resp) :
    stationOnly port s k = (s, plainResp .denied []) := by
  simp [stationOnly, isStation, h, refuse, plainResp]

theorem takeRequest_of_reset {port : Port} {s : State} (h : (s.port port).prstLow = true)
    (f : State → State × Resp) : takeRequest port s f = .next s := by
  simp [takeRequest, State.canTake, h]

/-- A station request from a tenant port is DENIED before it is looked at further. -/
theorem exec_of_tenant {c : Instr} {port : Port} {s : State} (hport : c.requestPort = some port)
    (hstation : c.stationRequest = true) (htake : s.canTake port = true) (hrole : (s.port port).role = .tenant) :
    exec c s = .next (holdResponse port (plainResp .denied []) s) := by
  cases c with
  | submitDark | routeOpen | routeClose | assign | setDarkModeManual | setDarkModeAuto | readFaultLog
  | clearSwitchFault | engineReset =>
    obtain rfl := Option.some.inj hport
    exact takeRequest_eq htake (stationOnly_of_tenant hrole _)
  | submitSynth p q w urgent =>
    obtain rfl := Option.some.inj hport
    have hurgent : urgent.toNat ≤ 1 := of_decide_eq_true hstation
    refine takeRequest_eq htake ?_
    obtain ⟨u, hu⟩ : ∃ u, yesNoByte urgent = some u := by
      obtain h | h : urgent.toNat = 0 ∨ urgent.toNat = 1 := by omega
      · exact ⟨false, by simp [yesNoByte, h]⟩
      · exact ⟨true, by simp [yesNoByte, h]⟩
    rw [reqSubmitSynth, hu]
    exact stationOnly_of_tenant hrole _
  | writeHousing p housing presence =>
    obtain rfl := Option.some.inj hport
    have hpresence : 1 ≤ presence.toNat ∧ presence.toNat ≤ 2 := of_decide_eq_true hstation
    refine takeRequest_eq htake ?_
    obtain ⟨v, hv⟩ : ∃ v, presenceByte presence = some v := by
      obtain h | h : presence.toNat = 1 ∨ presence.toNat = 2 := by omega
      · exact ⟨_, by rw [presenceByte, if_pos h]⟩
      · exact ⟨_, by rw [presenceByte, if_neg (by omega), if_pos h]⟩
    rw [reqWriteHousing, hv]
    exact stationOnly_of_tenant hrole _
  | routeEntries p pair first entries =>
    obtain rfl := Option.some.inj hport
    have hlen : 1 ≤ entries.length ∧ entries.length ≤ 48 := of_decide_eq_true hstation
    refine takeRequest_eq htake ?_
    rw [reqRouteEntries, if_neg (by omega)]
    exact stationOnly_of_tenant hrole _
  | setParams p entries =>
    obtain rfl := Option.some.inj hport
    obtain ⟨hlen, hnumbers⟩ := Bool.and_eq_true_iff.mp hstation
    have hfit : paramsMalformed entries = false := by
      simp only [paramsMalformed, Bool.or_eq_false_iff, decide_eq_false_iff_not, List.any_eq_false,
        decide_eq_true_eq]
      exact ⟨by simpa using hlen, fun e he => by simpa using List.all_eq_true.mp hnumbers e he⟩
    refine takeRequest_eq htake ?_
    rw [reqSetParams, if_neg (by simp [hfit])]
    exact stationOnly_of_tenant hrole _
  | synthDefine p order quietBase dc noise seed mode echoes =>
    obtain rfl := Option.some.inj hport
    obtain ⟨h1, h2, h3, h4⟩ : 1 ≤ mode.toNat ∧ mode.toNat ≤ 2 ∧ 1 ≤ echoes.length ∧ echoes.length ≤ 8 :=
      of_decide_eq_true hstation
    refine takeRequest_eq htake ?_
    obtain ⟨m, hm⟩ : ∃ m, modeByte mode = some m := by
      obtain h | h : mode.toNat = 1 ∨ mode.toNat = 2 := by omega
      · exact ⟨_, by rw [modeByte, if_pos h]⟩
      · exact ⟨_, by rw [modeByte, if_neg (by omega), if_pos h]⟩
    rw [reqSynthDefine, hm]
    show (if _ then _ else _) = _
    rw [if_neg (by omega)]
    exact stationOnly_of_tenant hrole _
  | _ => exact absurd hstation nofun

theorem exec_of_reset {c : Instr} {port : Port} {s : State} (hport : c.requestPort = some port)
    (hlow : (s.port port).prstLow = true) : exec c s = .next s := by
  cases c with
  | frameMalformed frame =>
    obtain rfl := Option.some.inj hport
    show execFrameMalformed frame s = _
    unfold execFrameMalformed
    split
    · exact takeRequest_of_reset hlow _
    · rfl
  | powerOn | engineResetPin | portReset | portResetRelease | settleEnd | fillEnd | periodBoundary
  | accumulationEnd | darkSamplingEnd | wordEnd | slotStart | slotResult | exchangeEnd | patrolTimerExpiry
  | suspectExpiryCheck | concurDeadline | sampleStrobe | lineTimeTick | responseReadOut =>
    exact absurd hport nofun
  | _ =>
    obtain rfl := Option.some.inj hport
    exact takeRequest_of_reset hlow _

/-- A frame whose declared length, kind or body length fits no request spells none. -/
theorem decodeFrame_eq_none {port : Port} {kind hi lo : Byte} {rest : List Byte} :
    let n := hi.toNat * 256 + lo.toNat
    let nothing := decodeFrame ⟨port, kind :: hi :: lo :: rest⟩ = none
    (512 < n ∨ rest.length < n ∨ 36 < kind.toNat → nothing) ∧
    (∀ form ∈ [(1, 0), (2, 0), (3, 0), (4, 2), (5, 0), (6, 7), (7, 7), (9, 0), (10, 3), (11, 1), (12, 1),
        (13, 2), (14, 2), (15, 0), (16, 3), (18, 3), (19, 2), (20, 3), (21, 3), (22, 5), (23, 1), (24, 2),
        (25, 1), (26, 6), (28, 1), (29, 3), (30, 3), (33, 0), (34, 0), (35, 0)],
      kind.toNat = form.1 → n ≠ form.2 → nothing) ∧
    (kind.toNat = 8 → n < 5 ∨ 10 < n → nothing) ∧
    (kind.toNat = 32 → n ≠ 1 ∧ n ≠ 3 → nothing) ∧
    (∀ form ∈ [(17, 3, 2), (27, 3, 3), (31, 1, 3), (36, 11, 4)], kind.toNat = form.1 →
      n < form.2.1 ∨ (∀ c, rest[form.2.1 - 1]? = some c → n ≠ form.2.1 + form.2.2 * c.toNat) → nothing) := by
  intro n nothing
  refine ⟨fun h => ?_, fun form hform hcode hlen => ?_, fun hcode hlen => ?_, fun hcode hlen => ?_,
    fun form hform hcode hlen => ?_⟩
  · refine Option.eq_none_iff_forall_not_mem.mpr fun i hi' => ?_
    obtain ⟨hmax, harrived, k, hk, -⟩ := decodeFrame_cons_eq_some hi'
    obtain h | h | h := h
    · omega
    · omega
    · rw [kindOf_eq_none (.inr h)] at hk
      cases hk
  · obtain ⟨hm, hbind⟩ := fixedLength_of_code form hform
    obtain ⟨k, hk, hfixed⟩ := Option.bind_eq_some_iff.mp hbind
    exact decodeFrame_eq_none_of_length hcode hm hk fun l i hbody hl _ =>
      hlen (hl.symm.trans (length_of_fixed hbody hfixed))
  · refine decodeFrame_eq_none_of_length hcode (by norm_num) rfl fun l i hbody hl _ => ?_
    have := length_of_command hbody
    omega
  · refine decodeFrame_eq_none_of_length hcode (by norm_num) rfl fun l i hbody hl _ => ?_
    have := length_of_darkMode hbody
    omega
  · obtain ⟨hm, hbind⟩ := listLayout_of_code form hform
    obtain ⟨k, hk, hlist⟩ := Option.bind_eq_some_iff.mp hbind
    refine decodeFrame_eq_none_of_length hcode hm hk fun l i hbody hl hsame => ?_
    obtain ⟨c, hc, hcount⟩ := length_of_list hbody hlist
    obtain h | h := hlen
    · exact absurd h (Nat.not_lt.mpr ((Nat.le_add_right _ _).trans_eq (hcount.symm.trans hl)))
    · exact h c (hsame _ c hc) (hl.symm.trans hcount)

/-- Settles O16: frames that spell no request, bodies that do not fit, station requests of a tenant, and a port
held in reset. -/
theorem malformedDeniedOrLostChangesNothing : Obligations.MalformedDeniedOrLostChangesNothing := by
  refine ⟨?malformed, fun c port s hport hstation htake hrole => exec_of_tenant hport hstation htake hrole,
    fun c port s hport hlow => exec_of_reset hport hlow⟩
  intro port s htake malformed
  refine ⟨fun bytes => ⟨exec_not_frameMalformed s, fun h1 h2 hzero => ?short,
    fun kind hi lo rest hbytes hkind => ?frames⟩, ?bodies⟩
  case short =>
    refine exec_frameMalformed htake ?_ (decodeFrame_short h2)
    obtain ⟨b, rest, rfl⟩ := List.exists_cons_of_length_pos h1
    simpa [beginsFrame] using hzero
  case frames =>
    subst hbytes
    have hanswer : decodeFrame ⟨port, kind :: hi :: lo :: rest⟩ = none →
        exec (.frameMalformed ⟨port, kind :: hi :: lo :: rest⟩) s = malformed :=
      exec_frameMalformed htake (by simpa [beginsFrame] using hkind)
    obtain ⟨hany, hfixed, hcommand, hdark, hlist⟩ :=
      decodeFrame_eq_none (port := port) (kind := kind) (hi := hi) (lo := lo) (rest := rest)
    exact ⟨fun h => hanswer (hany h), fun form hform hcode hlen => hanswer (hfixed form hform hcode hlen),
      fun hcode hlen => hanswer (hcommand hcode hlen), fun hcode hlen => hanswer (hdark hcode hlen),
      fun form hform hcode hlen => hanswer (hlist form hform hcode hlen)⟩
  case bodies =>
    refine ⟨fun a b c d e track urgent h => ?_, fun a b c d urgent h => ?_, fun a b c d rest h => ?_,
      fun a b c h => ?_, fun a flag h => ?_, fun h v hv => ?_, fun a b l h => ?_, fun a b l h => ?_,
      fun l h => ?_, fun a b c d e m l h => ?_⟩ <;> refine takeRequest_eq htake ?_
    · rw [reqSubmitMeasure]
      obtain h | h := h
      · rw [yesNoByte_eq_none h]; rfl
      · rw [yesNoByte_eq_none h]; cases yesNoByte track <;> rfl
    · rw [reqSubmitSurvey, yesNoByte_eq_none h]; rfl
    · rw [reqSubmitCommand, commandTail, if_pos h]; rfl
    · rw [reqDismiss, classOf_eq_none h]; rfl
    · rw [reqFreeze, freezeByte_eq_none h]; rfl
    · rw [reqWriteHousing, presenceByte_eq_none hv]; rfl
    · rw [reqWriteSignature, if_pos h]; rfl
    · rw [reqRouteEntries, if_pos h]; rfl
    · rw [reqSetParams, if_pos (paramsMalformed_of h)]; rfl
    · rw [reqSynthDefine]
      cases hm : modeByte m with
      | none => rfl
      | some mode =>
        have hl : l.length = 0 ∨ 8 < l.length := by
          obtain h | h | h := h
          · rw [modeByte_eq_none (.inl h)] at hm; cases hm
          · rw [modeByte_eq_none (.inr h)] at hm; cases hm
          · exact h
        show (if _ then _ else _) = _
        rw [if_pos hl]
        rfl

end Sys2Proof.Machine
end

section
/-! Refusals of requests on a pair, and the submissions that need no concurrence. Settles O17 to O20. -/

namespace Sys2Proof.Machine

/-! ### Operands and access -/

theorem yesNoByte_of_le {b : Byte} (h : b.toNat ≤ 1) : yesNoByte b = some (decide (b.toNat = 1)) := by
  unfold yesNoByte
  obtain h1 | h0 : b.toNat = 1 ∨ b.toNat = 0 := by omega
  · simp [h1]
  · simp [h0]

theorem owns_of_owner {s : State} {port : Port} {p : PairNo} (h : (s.pair p).owner = some port) :
    owns s port p = true := decide_eq_true h

theorem not_owns_of_owner {s : State} {port : Port} {p : PairNo} (h : (s.pair p).owner ≠ some port) :
    owns s port p = false := decide_eq_false h

theorem isStation_of_role {s : State} {port : Port} (h : (s.port port).role = .station) :
    isStation s port = true := decide_eq_true h

theorem not_isStation_of_role {s : State} {port : Port} (h : (s.port port).role = .tenant) :
    isStation s port = false := decide_eq_false (h ▸ nofun)

theorem ownerOrStation_of_tenant {s : State} {port : Port} {p : PairNo}
    (howner : (s.pair p).owner ≠ some port) (hrole : (s.port port).role = .tenant) :
    ownerOrStation s port p = false := by
  rw [ownerOrStation, not_owns_of_owner howner, not_isStation_of_role hrole, Bool.false_or]

theorem maySetPatrol_eq_false {s : State} {port : Port} {p : PairNo} (howner : (s.pair p).owner ≠ some port)
    (h : (s.port port).role = .tenant ∨ (s.pair p).owner ≠ none) : maySetPatrol s port p = false := by
  rw [maySetPatrol, not_owns_of_owner howner, Bool.false_or]
  obtain h | h := h
  · rw [not_isStation_of_role h, Bool.false_and]
  · rw [decide_eq_false h, Bool.and_false]

theorem quotaSpent_eq {s : State} {port : Port} : quotaSpent port s = decide (4 ≤ s.portSlotsUsed port) := rfl

theorem serviceFull_eq {s : State} : serviceFull s = decide (8 ≤ s.serviceSlotsUsed) := rfl

theorem housingNumber_of_le {h : Byte} (h1 : 1 ≤ h.toNat) (h2 : h.toNat ≤ 192) : housingNumber h = true :=
  (housingNumber_iff h).mpr ⟨h1, h2⟩

/-! ### Refusals (R15, R115) -/

section Denied

variable {port : Port} {b : Byte} {p : PairNo} {s : State}

theorem reqSubmitMeasure_denied {track urgent : Byte} (hpair : b.toNat = p.val)
    (howner : (s.pair p).owner ≠ some port) (htrack : track.toNat ≤ 1) (hurgent : urgent.toNat ≤ 1)
    (first last q w : Byte) :
    reqSubmitMeasure port b first last q w track urgent s = (s, plainResp .denied []) := by
  simp only [reqSubmitMeasure, yesNoByte_of_le htrack, yesNoByte_of_le hurgent, withPair_of_toNat hpair,
    not_owns_of_owner howner]
  rfl

theorem reqSubmitCommand_denied {h : Byte} (hpair : b.toNat = p.val) (howner : (s.pair p).owner ≠ some port)
    (h1 : 1 ≤ h.toNat) (h2 : h.toNat ≤ 192) (o : Byte) (arg : Half) :
    reqSubmitCommand port b h o arg [] s = (s, plainResp .denied []) := by
  have htail : commandTail [] = some ⟨0, 2, 4, 3, false⟩ := rfl
  simp only [reqSubmitCommand, htail, withPair_of_toNat hpair, housingNumber_of_le h1 h2,
    not_owns_of_owner howner]
  rfl

theorem reqSubmitSurvey_denied {urgent : Byte} (hpair : b.toNat = p.val)
    (hmay : ownerOrStation s port p = false) (hurgent : urgent.toNat ≤ 1) (start stop : Half) (q : Byte) :
    reqSubmitSurvey port b start stop q urgent s = (s, plainResp .denied []) := by
  simp only [reqSubmitSurvey, yesNoByte_of_le hurgent, withPair_of_toNat hpair, hmay]
  rfl

theorem reqSetPatrol_denied (hpair : b.toNat = p.val) (hmay : maySetPatrol s port p = false)
    (interval : Half) (q w : Byte) : reqSetPatrol port b interval q w s = (s, plainResp .denied []) := by
  simp only [reqSetPatrol, withPair_of_toNat hpair, hmay]
  rfl

theorem reqRelearn_denied (hpair : b.toNat = p.val) (howner : (s.pair p).owner ≠ some port)
    (first last : Byte) : reqRelearn port b first last s = (s, plainResp .denied []) := by
  simp only [reqRelearn, withPair_of_toNat hpair, not_owns_of_owner howner]
  rfl

theorem freezeByte_isSome {flag : Byte} (h : flag.toNat = 1 ∨ flag.toNat = 2) :
    freezeByte flag = some (decide (flag.toNat = 1)) := by
  unfold freezeByte
  obtain h | h := h <;> simp [h]

theorem reqFreeze_denied {flag : Byte} (hpair : b.toNat = p.val) (howner : (s.pair p).owner ≠ some port)
    (hflag : flag.toNat = 1 ∨ flag.toNat = 2) : reqFreeze port b flag s = (s, plainResp .denied []) := by
  simp only [reqFreeze, freezeByte_isSome hflag, withPair_of_toNat hpair, not_owns_of_owner howner]
  rfl

theorem reqWriteSignature_denied {l : List Half} (hpair : b.toNat = p.val)
    (hmay : ownerOrStation s port p = false) (h1 : 1 ≤ l.length) (h2 : l.length ≤ 48) (first : Byte) :
    reqWriteSignature port b first l s = (s, plainResp .denied []) := by
  have hlength : ¬ (l.length = 0 ∨ 48 < l.length) := by omega
  simp only [reqWriteSignature, if_neg hlength, withPair_of_toNat hpair, hmay]
  rfl

theorem classOf_isSome {n : Nat} (h1 : 1 ≤ n) (h5 : n ≤ 5) : ∃ c, classOf n = some c := by
  interval_cases n <;> exact ⟨_, rfl⟩

theorem reqDismiss_denied {c : Byte} (hpair : b.toNat = p.val) (hmay : ownerOrStation s port p = false)
    (h1 : 1 ≤ c.toNat) (h5 : c.toNat ≤ 5) (location : Byte) :
    reqDismiss port b c location s = (s, plainResp .denied []) := by
  obtain ⟨cls, hcls⟩ := classOf_isSome h1 h5
  simp only [reqDismiss, hcls, withPair_of_toNat hpair, hmay]
  rfl

theorem reqReadRoute_denied (hpair : b.toNat = p.val) (hmay : ownerOrStation s port p = false)
    (first count : Byte) : reqReadRoute port b first count s = (s, plainResp .denied []) := by
  simp only [reqReadRoute, withPair_of_toNat hpair, hmay]
  rfl

theorem reqReadSignature_denied (hpair : b.toNat = p.val) (hmay : ownerOrStation s port p = false)
    (first count : Byte) : reqReadSignature port b first count s = (s, plainResp .denied []) := by
  simp only [reqReadSignature, withPair_of_toNat hpair, hmay]
  rfl

theorem reqReadFindings_denied (hpair : b.toNat = p.val) (hmay : ownerOrStation s port p = false)
    (skip : Byte) : reqReadFindings port (.pair b) skip s = (s, plainResp .denied []) := by
  simp only [reqReadFindings, withPair_of_toNat hpair, hmay]
  rfl

theorem reqReadPairStats_denied (hpair : b.toNat = p.val) (hmay : ownerOrStation s port p = false) :
    reqReadPairStats port b s = (s, plainResp .denied []) := by
  simp only [reqReadPairStats, withPair_of_toNat hpair, hmay]
  rfl

theorem reqSubmitMeasure_quota {track urgent : Byte} (hpair : b.toNat = p.val)
    (howner : (s.pair p).owner = some port) (hrouted : (s.pair p).state = .routed)
    (hfull : 4 ≤ s.portSlotsUsed port) (htrack : track.toNat ≤ 1) (hurgent : urgent.toNat ≤ 1)
    (first last q w : Byte) :
    reqSubmitMeasure port b first last q w track urgent s = (s, plainResp .quota []) := by
  simp only [reqSubmitMeasure, yesNoByte_of_le htrack, yesNoByte_of_le hurgent, withPair_of_toNat hpair,
    owns_of_owner howner, hrouted, quotaSpent_eq, decide_eq_true hfull]
  rfl

theorem reqSubmitSurvey_quota {urgent : Byte} (hpair : b.toNat = p.val)
    (hmay : ownerOrStation s port p = true) (hstate : (s.pair p).state ≠ .unrouted)
    (hfull : 4 ≤ s.portSlotsUsed port) (hurgent : urgent.toNat ≤ 1) (start stop : Half) (q : Byte) :
    reqSubmitSurvey port b start stop q urgent s = (s, plainResp .quota []) := by
  simp only [reqSubmitSurvey, yesNoByte_of_le hurgent, withPair_of_toNat hpair, hmay, if_neg hstate,
    quotaSpent_eq, decide_eq_true hfull]
  rfl

end Denied

/-- Settles O17: each request named refuses before it writes anything. -/
theorem refusedRequestsChangeNothing : Obligations.RefusedRequestsChangeNothing := by
  intro port b p s htake hpair refused
  refine ⟨fun howner => ⟨fun first last q w track urgent htrack hurgent => ?measure,
      fun h o arg h1 h2 => ?command, fun first last => ?relearn, fun flag hflag => ?freeze,
      fun _ hheld i q w => ?stationPatrol, fun hrole => ?tenant⟩,
    fun hslots => ⟨fun howner hrouted first last q w track urgent htrack hurgent => ?measureQuota,
      fun hmay hstate start stop q urgent hurgent => ?surveyQuota⟩, fun hslots hrole => ?dark⟩
  case measure => exact takeRequest_eq htake (reqSubmitMeasure_denied hpair howner htrack hurgent ..)
  case command => exact takeRequest_eq htake (reqSubmitCommand_denied hpair howner h1 h2 ..)
  case relearn => exact takeRequest_eq htake (reqRelearn_denied hpair howner ..)
  case freeze => exact takeRequest_eq htake (reqFreeze_denied hpair howner hflag)
  case stationPatrol =>
    exact takeRequest_eq htake (reqSetPatrol_denied hpair (maySetPatrol_eq_false howner (.inr hheld)) ..)
  case tenant =>
    have hmay := ownerOrStation_of_tenant howner hrole
    exact ⟨fun start stop q urgent hurgent => takeRequest_eq htake (reqSubmitSurvey_denied hpair hmay hurgent ..),
      fun i q w => takeRequest_eq htake
        (reqSetPatrol_denied hpair (maySetPatrol_eq_false howner (.inl hrole)) ..),
      fun first l h1 h2 => takeRequest_eq htake (reqWriteSignature_denied hpair hmay h1 h2 ..),
      fun c l h1 h5 => takeRequest_eq htake (reqDismiss_denied hpair hmay h1 h5 ..),
      fun first count => takeRequest_eq htake (reqReadRoute_denied hpair hmay ..),
      fun first count => takeRequest_eq htake (reqReadSignature_denied hpair hmay ..),
      fun skip => takeRequest_eq htake (reqReadFindings_denied hpair hmay ..),
      takeRequest_eq htake (reqReadPairStats_denied hpair hmay)⟩
  case measureQuota =>
    exact takeRequest_eq htake (reqSubmitMeasure_quota hpair howner hrouted hslots htrack hurgent ..)
  case surveyQuota =>
    exact takeRequest_eq htake (reqSubmitSurvey_quota hpair hmay hstate hslots hurgent ..)
  case dark =>
    refine takeRequest_eq htake ?_
    rw [reqSubmitDark, stationOnly_of_station hrole, serviceFull_eq, decide_eq_true hslots]
    rfl

/-! ### Clamps and the class of a submission (R51, R118) -/

theorem clampRange_one {n : Nat} (hn : 1 ≤ n) (a b : Nat) : clampRange 1 n a b =
    (min (max 1 (min a n)) (max 1 (min b n)), max (max 1 (min a n)) (max 1 (min b n))) := by
  simp only [clampRange, clamp_eq_max_min hn]
  split <;> rw [Prod.mk.injEq] <;> omega

theorem clampRange_zero (top a b : Nat) : clampRange 0 top a b =
    (min (min a top) (min b top), max (min a top) (min b top)) := by
  simp only [clampRange, clamp_eq_max_min (Nat.zero_le top), Nat.zero_max]
  split <;> rw [Prod.mk.injEq] <;> omega

theorem clamp_zero (hi x : Nat) : clamp 0 hi x = min x hi := by
  rw [clamp_eq_max_min (Nat.zero_le hi), Nat.zero_max]

theorem urgentHeld_eq_false {s : State} {port : Port} : urgentHeld s port = false ↔
    ∀ j ∈ s.sched.jobs, j.requester = .port port → j.kind ≠ .dark → j.cls = .urgent → j.state = .ended := by
  simp only [urgentHeld, List.any_eq_false, Job.inPortSlot, Bool.and_eq_true, decide_eq_true_eq, not_and,
    not_not, and_imp]

theorem classUsed_eq_urgent {s : State} {port : Port} {b : Byte} :
    classUsed s port (decide (b.toNat = 1)) = .urgent ↔ b.toNat = 1 ∧
      ∀ j ∈ s.sched.jobs, j.requester = .port port → j.kind ≠ .dark → j.cls = .urgent →
        j.state = .ended := by
  rw [← urgentHeld_eq_false, classUsed]
  cases urgentHeld s port <;> simp

theorem classMoved_eq {s : State} {port : Port} {urgent : Bool} :
    classMoved s port urgent = true ↔ urgent = true ∧ classUsed s port urgent = .routine := by
  unfold classMoved classUsed
  cases urgentHeld s port <;> cases urgent <;> simp

/-! ### SUBMIT_MEASURE (R51, R116 to R118, R172) -/

theorem reqSubmitMeasure_accepted {port : Port} {b track urgent : Byte} {p : PairNo} {s : State}
    (hpair : b.toNat = p.val) (howner : (s.pair p).owner = some port) (hrouted : (s.pair p).state = .routed)
    (hslots : s.portSlotsUsed port < 4) (htrack : track.toNat ≤ 1) (hurgent : urgent.toNat ≤ 1)
    (first last q w : Byte) :
    let u := measureUse port p first last q w (decide (urgent.toNat = 1)) s
    reqSubmitMeasure port b first last q w track urgent s =
      (acceptJob (measureJob port p (decide (track.toNat = 1)) u) s,
        accepted u.moved (measureCopy p (decide (track.toNat = 1)) u) s) := by
  simp only [reqSubmitMeasure, yesNoByte_of_le htrack, yesNoByte_of_le hurgent, withPair_of_toNat hpair,
    owns_of_owner howner, hrouted, quotaSpent_eq, decide_eq_false (Nat.not_le.mpr hslots)]
  rfl

/-- The fields of a measurement as used, in the terms of R51 and R118. -/
theorem measureUse_eq {p : PairNo} {s : State} (hn : 1 ≤ (s.pair p).n) (port : Port)
    (first last q w : Byte) (urgent : Bool) :
    let one := max 1 (min first.toNat (s.pair p).n)
    let two := max 1 (min last.toNat (s.pair p).n)
    measureUse port p first last q w urgent s =
      { first := min one two, last := max one two, q := min q.toNat 12, w := clampW w.toNat
        cls := classUsed s port urgent
        moved := (min one two, max one two) ≠ (first.toNat, last.toNat) || min q.toNat 12 ≠ q.toNat ||
          clampW w.toNat ≠ w.toNat || classMoved s port urgent } := by
  simp only [measureUse, clampRange_one hn, clamp_zero]

theorem min_ne_self {m n : Nat} : min m n ≠ m ↔ n < m := by omega

theorem yesNo_decide {b : Byte} (h : b.toNat ≤ 1) : yesNo (decide (b.toNat = 1)) = [b] := by
  obtain h1 | h0 : b.toNat = 1 ∨ b.toNat = 0 := by omega
  · rw [decide_eq_true h1]
    exact u8_of_toNat h1
  · rw [decide_eq_false (by omega)]
    exact u8_of_toNat h0

theorem accepted_body (moved : Bool) (used : List Byte) (s : State) : (accepted moved used s).body =
    BitVec.ofNat 8 (nextNumber s.sched.lastNumber s.sched.jobs) :: if moved then used else [] := by
  cases moved <;> rfl

/-- Settles O18: the job and the answer of an accepted measurement. -/
theorem measurementIsAccepted : Obligations.MeasurementIsAccepted := by
  intro port b first last q w track urgent p s htake hpair howner hrouted hn hslots htrack hurgent n one two w'
  let cls := classUsed s port (decide (urgent.toNat = 1))
  have huse := measureUse_eq (p := p) hn port first last q w (decide (urgent.toNat = 1))
  have hmoved : (measureUse port p first last q w (decide (urgent.toNat = 1)) s).moved = true ↔
      (min one two, max one two) ≠ (first.toNat, last.toNat) ∨ 12 < q.toNat ∨ w' ≠ w.toNat ∨
        (urgent.toNat = 1 ∧ cls = .routine) := by
    simp only [huse, Bool.or_eq_true, decide_eq_true_eq, classMoved_eq, or_assoc, min_ne_self]
    rfl
  refine ⟨accepted (measureUse port p first last q w (decide (urgent.toNat = 1)) s).moved
      (measureCopy p (decide (track.toNat = 1))
        (measureUse port p first last q w (decide (urgent.toNat = 1)) s)) s, cls,
    takeRequest_eq htake ?job, classUsed_eq_urgent, rfl, hmoved, fun h => ?short, fun h => ?long⟩
  case job =>
    refine (reqSubmitMeasure_accepted hpair howner hrouted hslots htrack hurgent ..).trans ?_
    rw [huse]
    rfl
  case short => rw [accepted_body, if_neg (mt hmoved.mp h)]
  case long =>
    rw [accepted_body, if_pos (hmoved.mpr h), huse, measureCopy, yesNo_decide htrack, u8_of_toNat hpair,
      yesNo_eq]
    simp only [decide_eq_true_eq]
    rfl

/-! ### SUBMIT_SURVEY (R70, R118) -/

theorem reqSubmitSurvey_accepted {port : Port} {b urgent : Byte} {p : PairNo} {s : State}
    (hpair : b.toNat = p.val) (hmay : ownerOrStation s port p = true)
    (hstate : (s.pair p).state ≠ .unrouted) (hslots : s.portSlotsUsed port < 4) (hurgent : urgent.toNat ≤ 1)
    (start stop : Half) (q : Byte) :
    let u := surveyUse port p start stop q (decide (urgent.toNat = 1)) s
    reqSubmitSurvey port b start stop q urgent s =
      (acceptJob (surveyJob port p u) s, accepted u.moved (surveyCopy p u) s) := by
  simp only [reqSubmitSurvey, yesNoByte_of_le hurgent, withPair_of_toNat hpair, hmay, if_neg hstate,
    quotaSpent_eq, decide_eq_false (Nat.not_le.mpr hslots)]
  rfl

/-- The fields of a survey as used, in the terms of R70. -/
theorem surveyUse_eq (port : Port) (p : PairNo) (start stop : Half) (q : Byte) (urgent : Bool) (s : State) :
    let top := 2 ^ (s.pair p).profile.order - 2
    let one := min start.toNat top
    let two := min stop.toNat top
    surveyUse port p start stop q urgent s =
      { start := min one two, stop := max one two, q := min q.toNat 12, cls := classUsed s port urgent
        moved := (min one two, max one two) ≠ (start.toNat, stop.toNat) || min q.toNat 12 ≠ q.toNat ||
          classMoved s port urgent } := by
  simp only [surveyUse, clampRange_zero, clamp_zero]
  rfl

/-- Settles O19: the job and the answer of an accepted survey. -/
theorem surveyIsAccepted : Obligations.SurveyIsAccepted := by
  intro port b start stop q urgent p s htake hpair howner hstate hslots hurgent top one two
  let use := surveyUse port p start stop q (decide (urgent.toNat = 1)) s
  have huse : use = _ := surveyUse_eq port p start stop q (decide (urgent.toNat = 1)) s
  refine ⟨accepted use.moved (surveyCopy p use) s, classUsed s port (decide (urgent.toNat = 1)),
    takeRequest_eq htake ?job, classUsed_eq_urgent, rfl, ?number, ?moved⟩
  case job =>
    refine (reqSubmitSurvey_accepted hpair (ownerOrStation_iff.mpr howner) hstate hslots hurgent ..).trans ?_
    exact congrArg (fun u => (acceptJob (surveyJob port p u) s, accepted use.moved (surveyCopy p use) s)) huse
  case number => rw [accepted_body]; rfl
  case moved =>
    show use.moved = true ↔ _
    rw [huse]
    simp only [Bool.or_eq_true, decide_eq_true_eq, classMoved_eq, or_assoc, min_ne_self]
    rfl

/-! ### SUBMIT_DARK and SUBMIT_SYNTH (R115, R185) -/

theorem reqSubmitSynth_accepted {port : Port} {urgent : Byte} {d : SynthDef} {s : State}
    (hrole : (s.port port).role = .station) (hdefn : s.synth.defn = some d)
    (hslots : s.portSlotsUsed port < 4) (hurgent : urgent.toNat ≤ 1) (q w : Byte) :
    let u := synthUse port q w (decide (urgent.toNat = 1)) s
    reqSubmitSynth port q w urgent s =
      (acceptJob (synthJob port d.echoes.length u) s, accepted u.moved (synthCopy u) s) := by
  simp only [reqSubmitSynth, yesNoByte_of_le hurgent, stationOnly_of_station hrole, hdefn,
    quotaSpent_eq, decide_eq_false (Nat.not_le.mpr hslots)]
  rfl

/-- Settles O20: the DARK job, the SYNTH job, and a SUBMIT_SYNTH with no definition held. -/
theorem darkAndSelfTestAreAccepted : Obligations.DarkAndSelfTestAreAccepted := by
  intro port s htake hrole number
  refine ⟨fun hslots => takeRequest_eq htake ?dark, fun d q w urgent hdefn hslots hurgent => ?synth,
    fun q w urgent hdefn hurgent => takeRequest_eq htake ?undefined⟩
  case dark =>
    rw [reqSubmitDark, stationOnly_of_station hrole, serviceFull_eq, decide_eq_false (Nat.not_le.mpr hslots)]
    rfl
  case synth =>
    let use := synthUse port q w (decide (urgent.toNat = 1)) s
    refine ⟨accepted use.moved (synthCopy use) s, classUsed s port (decide (urgent.toNat = 1)),
      takeRequest_eq htake ?_, classUsed_eq_urgent, rfl, ?_⟩
    · have hq : use.q = min q.toNat 12 := clamp_zero 12 q.toNat
      rw [reqSubmitSynth_accepted hrole hdefn hslots hurgent, ← hq]
      rfl
    · rw [accepted_body]
      rfl
  case undefined =>
    simp only [reqSubmitSynth, yesNoByte_of_le hurgent, stationOnly_of_station hrole, hdefn]
    rfl

end Sys2Proof.Machine
end

section
/-! The submissions of commands, and CANCEL_JOB. Settles O21 to O23. -/

namespace Sys2Proof.Machine

/-! ### The body of SUBMIT_COMMAND (R139) -/

/-- The fields that a short body leaves out are those of the padded one. -/
theorem commandTail_padded {rest : List Byte} (h : rest.length ≤ 5) :
    commandTail rest = commandTail (rest ++ [0#8, 2#8, 4#8, 3#8, 0#8].drop rest.length) := by
  match rest, h with
  | [], _ => rfl
  | [_], _ => rfl
  | [_, _], _ => rfl
  | [_, _, _], _ => rfl
  | [_, _, _, _], _ => rfl
  | [_, _, _, _, _], _ => rfl

theorem reqSubmitCommand_congr {rest rest' : List Byte} (h : commandTail rest = commandTail rest')
    (port : Port) (b ho o : Byte) (arg : Half) :
    reqSubmitCommand port b ho o arg rest = reqSubmitCommand port b ho o arg rest' := by
  funext s
  rw [reqSubmitCommand, h, reqSubmitCommand]

theorem commandTail_whole (v r q w : Byte) {u : Byte} (h : u.toNat ≤ 1) :
    commandTail [v, r, q, w, u] =
      some ⟨v.toNat, r.toNat, q.toNat, w.toNat, decide (u.toNat = 1)⟩ := by
  have hu : yesNoByte (([v, r, q, w, u][4]?).getD 0#8) = _ := yesNoByte_of_le h
  rw [commandTail, hu]
  rfl

/-! ### Slot units (R140) -/

theorem slotUnitsAt_mono (prof : Profile) {r r' : Nat} (h : r ≤ r') : slotUnitsAt prof r ≤ slotUnitsAt prof r' := by
  have hpow : 2 ^ r ≤ 2 ^ r' := Nat.pow_le_pow_right (by norm_num) h
  unfold slotUnitsAt
  gcongr

theorem fitSlots_eq_none {prof : Profile} (h : 255 < slotUnitsAt prof 0) (r : Nat) : fitSlots prof r = none := by
  have hover : ∀ r', ¬ slotUnitsAt prof r' ≤ 255 := fun r' => by
    have := slotUnitsAt_mono prof (Nat.zero_le r')
    omega
  induction r with
  | zero => rw [fitSlots, if_neg (hover 0)]
  | succ r ih => rw [fitSlots, if_neg (hover _), ih]

/-- The exponent used is the largest, up to the one given, whose slot units fit. -/
theorem fitSlots_eq_some {prof : Profile} (h : slotUnitsAt prof 0 ≤ 255) (r : Nat) :
    ∃ x, fitSlots prof r = some (x, slotUnitsAt prof x) ∧ x ≤ r ∧ slotUnitsAt prof x ≤ 255 ∧
      ∀ r', x < r' → r' ≤ r → 255 < slotUnitsAt prof r' := by
  induction r with
  | zero => exact ⟨0, by rw [fitSlots, if_pos h], le_rfl, h, fun r' h0 h1 => absurd h0 (by omega)⟩
  | succ r ih =>
    by_cases hfits : slotUnitsAt prof (r + 1) ≤ 255
    · exact ⟨r + 1, by rw [fitSlots, if_pos hfits], le_rfl, hfits, fun r' h0 h1 => absurd h0 (by omega)⟩
    · obtain ⟨x, hx, hle, hunits, hlarger⟩ := ih
      refine ⟨x, by rw [fitSlots, if_neg hfits, hx], by omega, hunits, fun r' h0 h1 => ?_⟩
      obtain rfl | hlt : r' = r + 1 ∨ r' ≤ r := by omega
      · omega
      · exact hlarger r' h0 hlt

/-! ### SUBMIT_COMMAND on a routed pair (R139, R140, R159, R161) -/

theorem askedOwner_eq_none {s : State} {port : Port} {p : PairNo} {op : Opcode}
    (h : sharedEffect op = false ∨ (s.pair (partner p)).owner = none ∨
      (s.pair (partner p)).owner = some port) : askedOwner s port p op = none := by
  unfold askedOwner
  obtain h | h | h := h
  · rw [h]; rfl
  · rw [h]; exact ite_self _
  · simp [h]

theorem askedOwner_eq_some {s : State} {port asked : Port} {p : PairNo} {op : Opcode}
    (hshared : sharedEffect op = true) (howner : (s.pair (partner p)).owner = some asked)
    (hne : asked ≠ port) : askedOwner s port p op = some asked := by
  simp [askedOwner, hshared, howner, hne]

theorem submitCommandJob_of_none {s : State} {port : Port} {u : CommandUse}
    (h : askedOwner s port u.pair u.opcode = none) (k n : Nat) :
    submitCommandJob port k n u s = acceptJob (commandJob port k n u none) s := by
  simp only [submitCommandJob, h]

theorem submitCommandJob_of_some {s : State} {port asked : Port} {u : CommandUse}
    (h : askedOwner s port u.pair u.opcode = some asked) (k n : Nat) :
    submitCommandJob port k n u s =
      openRecord (askRecord port asked u s) (s.addJob (commandJob port k n u (some asked))) := by
  simp only [submitCommandJob, h, acceptJob_of_not_queued (j := commandJob port k n u (some asked)) nofun]

section Command

variable {port : Port} {b h o : Byte} {p : PairNo} {op : Opcode} {k : Nat} {s : State}

theorem reqSubmitCommand_routed {rest : List Byte} {t : CommandTail} (htail : commandTail rest = some t)
    (hpair : b.toNat = p.val) (h1 : 1 ≤ h.toNat) (h2 : h.toNat ≤ 192)
    (howner : (s.pair p).owner = some port) (hrouted : (s.pair p).state = .routed) (arg : Half) :
    reqSubmitCommand port b h o arg rest s = commandChecks port p h o arg t s := by
  simp only [reqSubmitCommand, htail, withPair_of_toNat hpair, housingNumber_of_le h1 h2,
    owns_of_owner howner, hrouted]
  rfl

theorem commandChecks_too_slow {t : CommandTail} (hposition : (s.pair p).positionOf h.toNat = some k)
    (hopcode : opcodeOf o.toNat = some op) (hslow : 255 < slotUnitsAt (s.pair p).profile 0) (arg : Half) :
    commandChecks port p h o arg t s = (s, plainResp .invalid []) := by
  simp only [commandChecks, hposition, hopcode, fitSlots_eq_none hslow]
  rfl

theorem commandChecks_full {t : CommandTail} {asked : Port}
    (hposition : (s.pair p).positionOf h.toNat = some k) (hopcode : opcodeOf o.toNat = some op)
    (hunits : slotUnitsAt (s.pair p).profile 0 ≤ 255) (hslots : s.portSlotsUsed port < 4)
    (hasked : askedOwner s port p op = some asked) (hplaces : 4 ≤ s.channel.concur.length) (arg : Half) :
    commandChecks port p h o arg t s = (s, plainResp .full []) := by
  obtain ⟨x, hfit, -⟩ := fitSlots_eq_some hunits (clamp 0 6 t.r)
  simp only [commandChecks, hposition, hopcode, hfit, quotaSpent_eq,
    decide_eq_false (Nat.not_le.mpr hslots), hasked,
    show decide (Config.concurPlaces ≤ s.channel.concur.length) = true from decide_eq_true hplaces]
  rfl

/-- What an accepted command is, with the exponent that fits. -/
theorem commandChecks_accepted {t : CommandTail} {x : Nat}
    (hposition : (s.pair p).positionOf h.toNat = some k) (hopcode : opcodeOf o.toNat = some op)
    (hfit : fitSlots (s.pair p).profile (clamp 0 6 t.r) = some (x, slotUnitsAt (s.pair p).profile x))
    (hslots : s.portSlotsUsed port < 4)
    (hplaces : askedOwner s port p op = none ∨ s.channel.concur.length < 4) (arg : Half) :
    let u := commandUse port p h op arg t x (slotUnitsAt (s.pair p).profile x) s
    commandChecks port p h o arg t s =
      (submitCommandJob port k (s.pair p).n u s, accepted u.moved (commandCopy u) s) := by
  have hroom : ((askedOwner s port p op).isSome && decide (Config.concurPlaces ≤ s.channel.concur.length))
      = false := by
    obtain hnone | hplaces := hplaces
    · rw [hnone]; rfl
    · rw [show decide (Config.concurPlaces ≤ s.channel.concur.length) = false from
        decide_eq_false (Nat.not_le.mpr hplaces), Bool.and_false]
  simp only [commandChecks, hposition, hopcode, hfit, quotaSpent_eq,
    decide_eq_false (Nat.not_le.mpr hslots), hroom]
  rfl

end Command

theorem commandArgument_eq (op : Opcode) (arg : Half) : commandArgument op arg = (match op with
    | .nop | .queryPumps | .queryTemp => 0#16
    | .selectPump | .mute | .unmute => BitVec.ofNat 16 (max 1 (min arg.toNat 3))
    | .setLoopback => BitVec.ofNat 16 (min arg.toNat 7)
    | .trimGain => arg) := by
  cases op <;> simp only [commandArgument, clamp_eq_max_min (show 1 ≤ 3 by norm_num), clamp_zero]

/-- Settles O21: a short body takes the defaults, a profile too slow is INVALID, and else a job is made. -/
theorem commandIsAccepted : Obligations.CommandIsAccepted := by
  intro port b h o v r q w u arg p op k s
  refine ⟨fun rest hrest => ?short, ?whole⟩
  case' whole =>
    intro htake hpair h1 h2 howner hrouted hposition hopcode hu prof units
    refine ⟨fun hslow => ?slow, fun hunits hslots hconsent => ?taken⟩
  case short =>
    exact congrArg (takeRequest port s) (reqSubmitCommand_congr (commandTail_padded hrest) ..)
  case slow =>
    exact takeRequest_eq htake ((reqSubmitCommand_routed (commandTail_whole v r q w hu) hpair h1 h2 howner
      hrouted arg).trans (commandChecks_too_slow hposition hopcode hslow arg))
  case taken =>
    have hasked := askedOwner_eq_none (op := op) hconsent
    obtain ⟨x, hfit, hx, hunitsx, hlarger⟩ := fitSlots_eq_some (prof := (s.pair p).profile) hunits (clamp 0 6 r.toNat)
    rw [clamp_zero] at hx hlarger
    let use := commandUse port p h op arg ⟨v.toNat, r.toNat, q.toNat, w.toNat, decide (u.toNat = 1)⟩ x
      (slotUnitsAt (s.pair p).profile x) s
    refine ⟨accepted use.moved (commandCopy use) s, commandJob port k (s.pair p).n use none,
      commandFields use none, takeRequest_eq htake ?request, rfl, ?number, classUsed_eq_urgent, rfl, rfl, rfl,
      rfl, clamp_zero .., rfl, rfl, rfl, rfl, ?span, rfl, commandArgument_eq op arg, hx, rfl, hunitsx, hlarger, rfl,
      rfl, rfl, rfl⟩
    case request =>
      refine (reqSubmitCommand_routed (commandTail_whole v r q w hu) hpair h1 h2 howner hrouted arg).trans
        ((commandChecks_accepted hposition hopcode hfit hslots (.inl hasked) arg).trans
          (congrArg (·, _) (submitCommandJob_of_none (u := use) hasked ..)))
    case number => rw [accepted_body]; rfl
    case span => exact clamp_zero ..

/-- Settles O22: the job in WAIT_CONCUR with its record and its notice, or FULL. -/
theorem sharedCommandAsksConcurrence : Obligations.SharedCommandAsksConcurrence := by
  intro port asked b h o v r q w u arg p op k s htake hpair h1 h2 howner hrouted hposition hopcode hu hunits
    hslots hshared hpartner hne
  have hasked := askedOwner_eq_some hshared hpartner hne
  have hreq := reqSubmitCommand_routed (o := o) (commandTail_whole v r q w hu) hpair h1 h2 howner hrouted arg
  refine ⟨fun hplaces => ?full, fun hplaces => ?asks⟩
  case full =>
    exact takeRequest_eq htake (hreq.trans (commandChecks_full hposition hopcode hunits hslots hasked hplaces arg))
  case asks =>
    obtain ⟨x, hfit, -⟩ := fitSlots_eq_some hunits (clamp 0 6 r.toNat)
    let use := commandUse port p h op arg ⟨v.toNat, r.toNat, q.toNat, w.toNat, decide (u.toNat = 1)⟩ x
      (slotUnitsAt (s.pair p).profile x) s
    let job := commandJob port k (s.pair p).n use (some asked)
    refine ⟨accepted use.moved (commandCopy use) s, { job with
      number := nextNumber s.sched.lastNumber s.sched.jobs },
      openRecord (askRecord port asked use s) (s.addJob job), takeRequest_eq htake ?request, rfl, rfl, rfl, rfl,
      rfl, rfl, ⟨commandFields use (some asked), rfl, rfl, rfl, rfl, rfl, rfl⟩, rfl, ?notice, fun y hy => ?other⟩
    case request =>
      refine hreq.trans ((commandChecks_accepted hposition hopcode hfit hslots (.inr hplaces) arg).trans
        (congrArg (·, _) (submitCommandJob_of_some (u := use) hasked ..)))
    case notice => exact port_raiseNotice_self .concurAsked asked _
    case other => exact port_raiseNotice_ne .concurAsked hy _

/-! ### CANCEL_JOB (R130, R157, R186) -/

section Cancel

variable {port : Port} {b : Byte} {s : State} {j : Job}

theorem reqCancelJob_of_state (hfound : s.job? b.toNat = some j) (howner : j.requester = .port port)
    (hkind : j.kind ≠ .dark) (hstate : j.state ≠ .ended) :
    reqCancelJob port b s = (cancelState j s, plainResp .ok []) := by
  simp only [reqCancelJob, hfound, howner, hkind, hstate, if_false, ne_eq, not_true]
  rfl

/-- A cancel outside an exchange and before the pass has ended cuts the pass; else it waits. -/
theorem cancelState_of_active (hstate : j.state = .active) : cancelState j s =
    if (j.kind = .command ∧ s.channel.exchange.phase ≠ .idle) ∨ endingPass s ≠ none then holdCancel j s
    else endAtPassEnd j .cancelled (dropPass s) := by
  rw [cancelState, hstate]
  dsimp only
  unfold cancelCommand cancelPass
  by_cases hkind : j.kind = .command <;> by_cases hphase : s.channel.exchange.phase = .idle <;>
    cases endingPass s <;> simp [hkind, hphase]

end Cancel

/-- Settles O23: CANCEL_JOB refused, and carried out by the state of the job. -/
theorem cancelActsByState : Obligations.CancelActsByState := by
  intro port b s htake
  refine ⟨fun hnone => takeRequest_eq htake ?noSuch, ?found⟩
  case noSuch => rw [reqCancelJob, hnone]; rfl
  case found =>
    intro j hfound done cut exchanging
    obtain ⟨-, hnumber⟩ := job?_mem hfound
    refine ⟨fun howner => takeRequest_eq htake ?denied, fun howner hkind => takeRequest_eq htake ?dark,
      fun howner hkind => ⟨fun hstate o ho => takeRequest_eq htake ?ended, fun hstate => ?waiting,
        fun hstate => ?asked, fun hstate hno hpass => ?cut, fun hstate hlate => ?late⟩⟩
    case denied => simp only [reqCancelJob, hfound, if_pos howner]; rfl
    case dark => simp only [reqCancelJob, hfound, howner, hkind, if_true, ne_eq, not_true, if_false]; rfl
    case ended =>
      simp only [reqCancelJob, hfound, howner, hkind, hstate, ho, if_true, ne_eq, not_true, if_false]
      rfl
    case waiting =>
      have hrun : cancelState j s = endJob b.toNat .cancelled s := by
        rw [cancelState, ← hnumber]
        obtain hstate | hstate := hstate <;> rw [hstate]
      refine takeRequest_eq htake ((reqCancelJob_of_state hfound howner hkind ?_).trans (by rw [hrun]))
      obtain hstate | hstate := hstate <;> rw [hstate] <;> nofun
    case asked =>
      have hrun : cancelState j s = endJob b.toNat .cancelled (s.removeConcur b.toNat) := by
        rw [cancelState, hstate, hnumber]
      exact takeRequest_eq htake ((reqCancelJob_of_state hfound howner hkind (hstate ▸ nofun)).trans (by rw [hrun]; rfl))
    case cut =>
      have hrun : cancelState j s = endAtPassEnd j .cancelled cut := by
        rw [cancelState_of_active hstate, if_neg (not_or.mpr ⟨hno, not_not.mpr hpass⟩)]
        rfl
      have hdone : done (endAtPassEnd j .cancelled cut) := takeRequest_eq htake
        ((reqCancelJob_of_state hfound howner hkind (hstate ▸ nofun)).trans (by rw [hrun]))
      rw [endAtPassEnd, hnumber] at hdone
      exact ⟨fun hk => by rwa [if_pos hk] at hdone, fun hk => by rwa [if_neg hk] at hdone⟩
    case late =>
      refine ⟨holdCancel j s, takeRequest_eq htake ?_, rfl, by rw [← hnumber]; rfl⟩
      rw [reqCancelJob_of_state hfound howner hkind (hstate ▸ nofun), cancelState_of_active hstate, if_pos hlate]

end Sys2Proof.Machine
end

section
/-! Patrols, the reads that clear, CLEAR_SWITCH_FAULT and the answers to concurrence records. Settles O24 to
O27. -/

namespace Sys2Proof.Machine

/-! ### Patrols (R128, R129) -/

/-- A write of a pair's patrol record reads no other record. -/
theorem State.setPatrol_congr {s : State} {p : PairNo} {f g : Patrol → Patrol}
    (h : f s.sched.patrols[p] = g s.sched.patrols[p]) : s.setPatrol p f = s.setPatrol p g := by
  have hrow : tableMap s.sched.patrols p.val f = tableMap s.sched.patrols p.val g := by
    refine Vector.ext fun i hi => ?_
    rw [tableMap_get _ _ _ _ hi, tableMap_get _ _ _ _ hi]
    split
    · next hip => subst hip; exact h
    · rfl
  rw [State.setPatrol, hrow, State.setPatrol]

theorem maySetPatrol_iff {s : State} {port : Port} {p : PairNo} : maySetPatrol s port p = true ↔
    (s.pair p).owner = some port ∨ ((s.port port).role = .station ∧ (s.pair p).owner = none) := by
  simp [maySetPatrol, owns, isStation]

theorem patrolWritten_eq (s : State) (p : PairNo) (i q w : Nat) (old : Patrol) :
    patrolWritten s p i q w old =
      { interval := i, q := q, w := w
        timer := if (s.pair p).state ≠ .routed then old.timer
          else if i = 0 then none else some (s.lineTime + i * 60000) } := by
  unfold patrolWritten restartPatrol
  split <;> simp [*]

theorem reqSetPatrol_eq {port : Port} {b : Byte} {p : PairNo} {s : State} (hpair : b.toNat = p.val)
    (hmay : maySetPatrol s port p = true) (interval : Half) (q w : Byte) :
    ∃ r : Resp, r.status = .ok ∧ reqSetPatrol port b interval q w s =
      (s.setPatrol p (patrolWritten s p (min interval.toNat 1440) (min q.toNat 12) (clampW w.toNat)), r) := by
  have hreq : reqSetPatrol port b interval q w s = _ := withPair_of_toNat hpair s _
  simp only [hmay, clamp_zero] at hreq
  exact ⟨_, rfl, hreq⟩

theorem patrolDue_of_early {s : State} {p : PairNo} {at_ : Nat} (htimer : (s.sched.patrols[p]).timer = some at_)
    (h : s.lineTime < at_) : patrolDue p s = false := by
  rw [patrolDue, htimer]
  simp [h]

/-- A timer whose time has come is due where no lower pair's timer shares its expiry (log 23). -/
theorem patrolDue_of_first {s : State} {p : PairNo} {at_ : Nat} (htimer : (s.sched.patrols[p]).timer = some at_)
    (h : at_ ≤ s.lineTime) (hfirst : ∀ q < p, (s.sched.patrols[q]).timer ≠ some at_) :
    patrolDue p s = true := by
  rw [patrolDue, htimer]
  simpa [h] using hfirst

theorem patrolSlotTaken_iff {s : State} {p : PairNo} : patrolSlotTaken p s = true ↔
    ∃ j ∈ s.sched.jobs, j.kind = .patrol ∧ j.pair = some p := by
  simp [patrolSlotTaken]

theorem patrolSlotTaken_eq_false {s : State} {p : PairNo} : patrolSlotTaken p s = false ↔
    ∀ j ∈ s.sched.jobs, j.kind = .patrol → j.pair ≠ some p := by
  simp [patrolSlotTaken]

/-- Settles O24: SET_PATROL, and an expiry that is not due, that finds the pair served, and that makes a job. -/
theorem patrolIsSetAndExpires : Obligations.PatrolIsSetAndExpires := by
  refine ⟨?set, fun p at_ s htimer => ⟨fun hearly => ?early, fun hdue hfirst => ?due⟩⟩
  case set =>
    intro port b p interval q w s htake hpair hmay i
    obtain ⟨r, hstatus, hreq⟩ := reqSetPatrol_eq hpair (maySetPatrol_iff.mpr hmay) interval q w
    exact ⟨r, takeRequest_eq htake (hreq.trans (congrArg (·, r) (State.setPatrol_congr (patrolWritten_eq ..)))),
      hstatus⟩
  case early =>
    show Host.Outcome.next (patrolExpiryState p s) = _
    rw [patrolExpiryState, patrolDue_of_early htimer hearly]
    rfl
  case due =>
    intro s'
    have hset : s.setPatrol p (fun t =>
        { t with timer := t.timer.map (fun at_ => at_ + t.interval * 60000) }) = s' :=
      State.setPatrol_congr (by rw [htimer]; rfl)
    have hexec : exec (.patrolTimerExpiry p) s = .next
        (if (s.pair p).state = .routed ∧ patrolSlotTaken p s = false then acceptJob (patrolJob p s) s'
          else s') := by
      show Host.Outcome.next (patrolExpiryState p s) = _
      rw [patrolExpiryState, if_pos (patrolDue_of_first htimer hdue hfirst), ← hset]
    refine ⟨fun hnone => ?_, fun hrouted hfree => ?_⟩
    · rw [hexec, if_neg]
      rintro ⟨hrouted, hfree⟩
      obtain hstate | ⟨j, hj, hkind, hp⟩ := hnone
      · exact hstate hrouted
      · exact patrolSlotTaken_eq_false.mp hfree j hj hkind hp
    · rw [hexec, if_pos ⟨hrouted, patrolSlotTaken_eq_false.mpr hfree⟩]
      rfl

/-! ### The reads that clear (R34, R120, R134) -/

/-- Settles O25: JOB_STATUS, READ_PAIR_STATS and READ_FAULT_LOG. -/
theorem readsThatClear : Obligations.ReadsThatClear := by
  intro port s htake
  refine ⟨fun b hnone => takeRequest_eq htake ?noSuch, fun b j hfound => ⟨fun howner => takeRequest_eq htake ?denied,
    fun howner => ⟨encodeJob (jobAge j.number s) j, ?first, takeRequest_eq htake ?status⟩⟩,
    fun b p hpair hmay => takeRequest_eq htake ?stats, fun hrole => ?log⟩
  case noSuch => rw [reqJobStatus, hnone]; rfl
  case denied => simp only [reqJobStatus, hfound, if_pos howner]; rfl
  case first =>
    obtain ⟨-, hnumber⟩ := job?_mem hfound
    simp only [encodeJob, hnumber, u8, List.append_assoc, List.cons_append, List.nil_append,
      List.take_succ_cons, List.take_zero, BitVec.ofNat_toNat, BitVec.setWidth_eq]
  case status =>
    obtain ⟨-, hnumber⟩ := job?_mem hfound
    simp only [reqJobStatus, hfound, howner, ne_eq, not_true, if_false, hnumber]
    rfl
  case stats =>
    simp only [reqReadPairStats, withPair_of_toNat hpair, ownerOrStation_iff.mpr hmay]
    rfl
  case log =>
    refine ⟨optField encodeFault 13 s.sched.faultLog.record ++ yesNo s.sched.faultLog.overrun,
      takeRequest_eq htake ?_, fun hnone => ?_, fun r hr => ?_, ?_⟩
    · rw [reqReadFaultLog, stationOnly_of_station hrole]
      rfl
    · rw [hnone]; rfl
    · rw [hr]
      cases hkind : r.kind <;> simp [optField, encodeFault, hkind, faultKindCode, u8]
    · rw [yesNo_eq, List.getLast?_concat]

/-! ### CLEAR_SWITCH_FAULT (R32, R121) -/

theorem urgentFreed_iff {s : State} (hhold : s.seq.faultHold = false) : urgentFreed s = true ↔
    ∃ j ∈ s.sched.jobs, j.cls = .urgent ∧ j.kind ≠ .dark ∧ (j.state = .queued ∨ j.state = .suspended) := by
  simp only [urgentFreed, State.eligibleJobs, List.any_eq_true, List.mem_filter, eligible, hhold,
    Bool.not_false, Bool.or_true, Bool.and_true, Bool.or_eq_true, Bool.and_eq_true, decide_eq_true_eq]
  exact ⟨fun ⟨j, ⟨hj, hstate⟩, hcls, hkind⟩ => ⟨j, hj, hcls, hkind, hstate⟩,
    fun ⟨j, hj, hcls, hkind, hstate⟩ => ⟨j, ⟨hj, hstate⟩, hcls, hkind⟩⟩

theorem clearHold_faultHold (q : Sequencer) : (clearHold q).faultHold = false := by
  unfold clearHold
  split <;> rfl

/-- Settles O26: CLEAR_SWITCH_FAULT with no hold set, and with one. -/
theorem clearSwitchFaultEndsHold : Obligations.ClearSwitchFaultEndsHold := by
  intro port s htake hrole
  refine ⟨fun hhold => takeRequest_eq htake ?idle, fun hhold =>
    ⟨urgentFreed { s with seq := clearHold s.seq }, urgentFreed_iff (clearHold_faultHold _),
      takeRequest_eq htake ?held⟩⟩
  case idle =>
    rw [reqClearSwitchFault, stationOnly_of_station hrole, hhold]
    rfl
  case held =>
    rw [reqClearSwitchFault, stationOnly_of_station hrole, if_pos hhold]
    rfl

/-! ### Answers to concurrence records (R162, R163) -/

section Answer

variable {port : Port} {b : Byte} {r : ConcurRec} {s : State} {answer : Nat → State → State}

theorem reqConcur_of_asked (hopen : s.concurOf b.toNat = some r) (hasked : r.asked = port) :
    reqConcur port b answer s = (answer b.toNat s, plainResp .ok []) := by
  simp only [reqConcur, hopen, hasked]
  rfl

theorem reqConcur_of_foreign (hopen : s.concurOf b.toNat = some r) (hasked : r.asked ≠ port) :
    reqConcur port b answer s = (s, plainResp .denied []) := by
  simp only [reqConcur, hopen, if_neg hasked]
  rfl

theorem reqConcur_of_none (hnone : s.concurOf b.toNat = none) :
    reqConcur port b answer s = (s, lateAnswer port b.toNat s) := by
  simp only [reqConcur, hnone]

end Answer

/-- The first job of a number, after a change of the jobs of that number that keeps it. -/
theorem job?_setJob_self {s : State} {n : Nat} {j : Job} {f : Job → Job} (hfound : s.job? n = some j)
    (hnumber : ∀ k, (f k).number = k.number) : (s.setJob n f).job? n = some (f j) := by
  rw [State.job?, State.setJob_jobs, List.find?_map]
  have hsame : ((fun k : Job => decide (k.number = n)) ∘ fun k => if k.number = n then f k else k)
      = fun k : Job => decide (k.number = n) := by
    funext k
    simp only [Function.comp]
    split
    · rw [hnumber]
    · rfl
  rw [hsame, show s.sched.jobs.find? _ = some j from hfound, Option.map_some,
    if_pos (job?_mem hfound).2]

theorem consentState_eq {s : State} {b : Nat} {j : Job} (hfound : s.job? b = some j)
    (hkind : j.kind = .command) (port : Port) : consentState port b s =
      becameEligible (decide (j.cls = .urgent) && !s.seq.faultHold) (consent port b s) := by
  have hjob : (consent port b s).job? b = some { j with
      state := .queued
      cmd := j.cmd.map (fun c => { c with basis := .given, askedPort := some port }) } :=
    job?_setJob_self (s := s.removeConcur b) hfound fun _ => rfl
  have heligible : eligible (consent port b s).seq.faultHold { j with
      state := .queued
      cmd := j.cmd.map (fun c => { c with basis := .given, askedPort := some port }) }
      = !s.seq.faultHold := by
    simp [eligible, hkind, consent]
  simp only [consentState, hjob, heligible]

theorem lateAnswer_of_none {s : State} {n : Nat} (h : s.job? n = none) (port : Port) :
    lateAnswer port n s = plainResp .noSuch [] := by
  rw [lateAnswer, h]
  rfl

theorem lateAnswer_of_not_expired {s : State} {n : Nat} {j : Job} (hfound : s.job? n = some j)
    (h : j.state ≠ .ended ∨ j.outcome ≠ some .concurExpired) (port : Port) :
    lateAnswer port n s = plainResp .noSuch [] := by
  simp only [lateAnswer, hfound, if_neg (not_and_or.mpr h)]
  rfl

theorem lateAnswer_of_expired {s : State} {n : Nat} {j : Job} {c : CommandFields}
    (hfound : s.job? n = some j) (hstate : j.state = .ended) (houtcome : j.outcome = some .concurExpired)
    (hcmd : j.cmd = some c) (port : Port) :
    lateAnswer port n s = plainResp (if c.askedPort = some port then .late else .denied) [] := by
  simp only [lateAnswer, hfound, hstate, houtcome, hcmd, and_self, if_true, Option.bind_some]
  split <;> rfl

/-- Settles O27: yes, no, a foreign port, the deadline, and an answer that finds no open record. -/
theorem concurrenceIsAnsweredOrExpires : Obligations.ConcurrenceIsAnsweredOrExpires := by
  intro b s removed
  refine ⟨fun r hopen => ⟨fun port htake hasked j hfound hkind => takeRequest_eq htake ?yes,
    fun port htake hasked => takeRequest_eq htake (reqConcur_of_asked hopen hasked),
    fun port htake hasked => ⟨takeRequest_eq htake (reqConcur_of_foreign hopen hasked),
      takeRequest_eq htake (reqConcur_of_foreign hopen hasked)⟩, fun hdue => ?due, fun hearly => ?early⟩,
    fun port htake hnone => ?closed⟩
  case yes => rw [reqConcur_of_asked hopen hasked, consentState_eq hfound hkind]; rfl
  case due =>
    show Host.Outcome.next (deadlineState b.toNat s) = _
    rw [deadlineState, if_pos (by rw [deadlineDue, hopen]; exact decide_eq_true hdue)]
    rfl
  case early =>
    show Host.Outcome.next (deadlineState b.toNat s) = _
    rw [deadlineState, if_neg (by simp [deadlineDue, hopen, hearly])]
  case closed =>
    intro answer
    have hanswer : ∀ {st : Status}, lateAnswer port b.toNat s = plainResp st [] → answer st := fun h =>
      ⟨takeRequest_eq htake ((reqConcur_of_none hnone).trans (by rw [h])),
        takeRequest_eq htake ((reqConcur_of_none hnone).trans (by rw [h]))⟩
    refine ⟨fun hjob => hanswer (lateAnswer_of_none hjob port), fun j hfound =>
      ⟨fun h => hanswer (lateAnswer_of_not_expired hfound h port), fun c hstate houtcome hcmd => ⟨fun h => ?_, fun h => ?_⟩⟩⟩
    · exact hanswer ((lateAnswer_of_expired hfound hstate houtcome hcmd port).trans (by rw [if_pos h]))
    · exact hanswer ((lateAnswer_of_expired hfound hstate houtcome hcmd port).trans (by rw [if_neg h]))

end Sys2Proof.Machine
end

section
/-! The Signature Table: the requests that write it, one entry in an update pass, and what an evaluation may
move. Settles O28, O30 and O31. -/

namespace Sys2Proof.Machine

/-! ### Runs of entries written -/

/-- Only entries of the Signature Table differ. -/
def EntriesOnly (s t : State) : Prop := t = { s with sig := { s.sig with entries := t.sig.entries } }

theorem EntriesOnly.refl (s : State) : EntriesOnly s s := rfl

theorem EntriesOnly.setSig {s t : State} (h : EntriesOnly s t) (p : PairNo) (k : Nat)
    (f : SigEntry → SigEntry) : EntriesOnly s (t.setSig p k f) := by
  rw [EntriesOnly] at h
  rw [h]
  rfl

/-- The same change made once at each position of a list: a change that a second time does not move. -/
theorem sigAt_foldl_setSig {f : SigEntry → SigEntry} (hf : ∀ e, f (f e) = f e) (p q : PairNo) {k : Nat}
    (hk : 1 ≤ k) (hk' : k ≤ 192) (l : List Nat) (hl : ∀ i ∈ l, 1 ≤ i) (s : State) :
    (l.foldl (fun s i => s.setSig p i f) s).sigAt q k =
      if q = p ∧ k ∈ l then f (s.sigAt q k) else s.sigAt q k := by
  induction l generalizing s with
  | nil => simp
  | cons i rest ih =>
    rw [List.foldl_cons, ih (fun j hj => hl j (List.mem_cons_of_mem i hj)),
      State.sigAt_setSig s p q i k f hk hk' (hl i List.mem_cons_self)]
    by_cases hq : q = p
    · by_cases hi : i = k
      · subst hi hq; simp [hf]
      · have hik : ¬ k = i := fun h => hi h.symm
        simp [hq, hi, hik]
    · have hpq : ¬ p = q := fun h => hq h.symm
      simp [hq, hpq]

theorem relearnRange_entriesOnly (p : PairNo) (a b : Nat) (s : State) :
    EntriesOnly s (relearnRange p a b s) :=
  List.foldlRecOn (motive := EntriesOnly s) _ _ (EntriesOnly.refl s) fun _ ht k _ => ht.setSig p k _

theorem sigAt_relearnRange {p q : PairNo} {a b k : Nat} (ha : 1 ≤ a) (hk : 1 ≤ k) (hk' : k ≤ 192) (s : State) :
    (relearnRange p a b s).sigAt q k =
      if q = p ∧ a ≤ k ∧ k ≤ b then relearnEntry (s.sigAt q k) else s.sigAt q k := by
  rw [relearnRange, sigAt_foldl_setSig (f := relearnEntry) (fun _ => rfl) p q hk hk' _
    (fun i hi => by rw [List.mem_range'_1] at hi; omega)]
  simp only [List.mem_range'_1]
  refine if_congr (and_congr_right fun _ => ?_) rfl rfl
  omega

theorem writeBases_entriesOnly (p : PairNo) (l : List Nat) :
    ∀ (k : Nat) (s t : State), EntriesOnly s t → EntriesOnly s (writeBases p k l t) := by
  induction l with
  | nil => exact fun _ _ _ h => h
  | cons v rest ih => exact fun k s t h => ih _ s _ (h.setSig p k _)

theorem sigAt_writeBases {p q : PairNo} {k : Nat} (hk : 1 ≤ k) (hk' : k ≤ 192) (l : List Nat) :
    ∀ (first : Nat) (s : State), 1 ≤ first → (writeBases p first l s).sigAt q k =
      if q = p ∧ first ≤ k ∧ k < first + l.length then
        writtenEntry ((l[k - first]?).getD 0) (s.sigAt q k)
      else s.sigAt q k := by
  induction l with
  | nil => intro first s _; rw [if_neg (by simp), writeBases]
  | cons v rest ih =>
    intro first s hfirst
    rw [writeBases, ih (first + 1) _ (by omega), State.sigAt_setSig s p q first k _ hk hk' hfirst,
      List.length_cons]
    by_cases hq : q = p
    · subst hq
      simp only [true_and]
      obtain hlt | rfl | hgt : k < first ∨ k = first ∨ first < k := by omega
      · rw [if_neg (by omega), if_neg (by omega), if_neg (by omega)]
      · rw [if_neg (by omega), if_pos rfl, if_pos (by omega), Nat.sub_self]
        rfl
      · rw [if_neg (c := first = k) (by omega), show k - first = k - (first + 1) + 1 by omega,
          List.getElem?_cons_succ]
        refine if_congr ?_ rfl rfl
        omega
    · have hpq : ¬ p = q := fun h => hq h.symm
      simp [hq, hpq]

/-! ### WRITE_SIGNATURE, RELEARN and FREEZE (R87 to R89) -/

theorem length_basesUsed (n first : Nat) (values : List Half) :
    (basesUsed n first values).length = min (n + 1 - first) values.length := by
  rw [basesUsed, List.length_map, List.length_take]

theorem basesUsed_getElem? {n first i : Nat} {values : List Half} (h : i < n + 1 - first) :
    (basesUsed n first values)[i]? = (values[i]?).map (fun v => min v.toNat 4515) := by
  rw [basesUsed, List.getElem?_map, List.getElem?_take_of_lt h]
  simp only [clamp_zero]

section Written

variable {port : Port} {b : Byte} {p : PairNo} {s : State}

theorem reqWriteSignature_eq (hpair : b.toNat = p.val) (hmay : ownerOrStation s port p = true)
    (hrouted : (s.pair p).state = .routed) {first : Byte} {values : List Half} (h1 : 1 ≤ first.toNat)
    (hn : first.toNat ≤ (s.pair p).n) (hl1 : 1 ≤ values.length) (hl48 : values.length ≤ 48) :
    let used := basesUsed (s.pair p).n first.toNat values
    ∃ moved copy, reqWriteSignature port b first values s =
      (writeBases p first.toNat used s, reply .ok moved (u8 used.length) copy) := by
  have hlength : ¬ (values.length = 0 ∨ 48 < values.length) := by omega
  have hfirst : ¬ (first.toNat < 1 ∨ (s.pair p).n < first.toNat) := by omega
  simp only [reqWriteSignature, if_neg hlength, withPair_of_toNat hpair, hmay, hrouted, if_neg hfirst]
  exact ⟨_, _, rfl⟩

theorem reqRelearn_eq (hpair : b.toNat = p.val) (howner : (s.pair p).owner = some port)
    (hrouted : (s.pair p).state = .routed) (hn : 1 ≤ (s.pair p).n) (first last : Byte) :
    let one := max 1 (min first.toNat (s.pair p).n)
    let two := max 1 (min last.toNat (s.pair p).n)
    ∃ moved copy, reqRelearn port b first last s = (relearnRange p (min one two) (max one two) s,
      reply .ok moved (u8 (min one two) ++ u8 (max one two)) copy) := by
  simp only [reqRelearn, withPair_of_toNat hpair, owns_of_owner howner, hrouted, clampRange_one hn]
  exact ⟨_, _, rfl⟩

theorem reqFreeze_eq (hpair : b.toNat = p.val) (howner : (s.pair p).owner = some port) {flag : Byte}
    (hflag : flag.toNat = 1 ∨ flag.toNat = 2) :
    reqFreeze port b flag s = (setFreeze p (decide (flag.toNat = 1)) s, plainResp .ok [flag]) := by
  have hcode : u8 (freezeCode (decide (flag.toNat = 1))) = [flag] := by
    obtain h | h := hflag
    · rw [decide_eq_true h]; exact u8_of_toNat h
    · rw [decide_eq_false (by omega)]; exact u8_of_toNat h
  simp only [reqFreeze, freezeByte_isSome hflag, withPair_of_toNat hpair, owns_of_owner howner, hcode]
  rfl

end Written

theorem frozen_setFreeze (p q : PairNo) (f : Bool) (s : State) :
    (setFreeze p f s).frozen q = if p = q then f else s.frozen q := by
  simp only [State.frozen, setFreeze, Fin.getElem_fin]
  rw [tableMap_get _ _ _ _ q.isLt]
  simp only [Fin.ext_iff]

theorem reply_body_take (st : Status) (moved : Bool) (body copy : List Byte) :
    (reply st moved body copy).body.take body.length = body := by
  cases moved
  · exact List.take_length
  · exact List.take_left

/-- Settles O28: the entries that WRITE_SIGNATURE and RELEARN write, and the flag that FREEZE writes. -/
theorem signaturesAreWrittenByHand : Obligations.SignaturesAreWrittenByHand := by
  intro port b p s htake hpair
  refine ⟨fun hrouted howner first values h1 hn hl1 hl48 => ?written, ?relearned, fun howner flag hflag => ?frozen⟩
  case written =>
    obtain ⟨moved, copy, hreq⟩ :=
      reqWriteSignature_eq hpair (ownerOrStation_iff.mpr howner) hrouted h1 hn hl1 hl48
    refine ⟨_, _, takeRequest_eq htake hreq, rfl, ?_, writeBases_entriesOnly p _ _ s s (.refl s),
      fun q k hk hk' => ?_⟩
    · rw [length_basesUsed, Nat.min_comm]
      exact reply_body_take .ok moved (u8 _) copy
    · rw [sigAt_writeBases hk hk' _ _ _ h1, length_basesUsed]
      by_cases hq : q = p
      · subst hq
        simp only [true_and]
        by_cases hin : first.toNat ≤ k ∧ k < first.toNat + values.length ∧ k ≤ (s.pair q).n
        · rw [if_pos (by omega), if_pos hin, basesUsed_getElem? (by omega),
            List.getElem?_eq_getElem (by omega)]
          rfl
        · rw [if_neg (by omega), if_neg hin]
      · rw [if_neg (fun h => hq h.1), if_neg (fun h => hq h.1)]
  case relearned =>
    intro hrouted howner hn first last one two
    obtain ⟨moved, copy, hreq⟩ := reqRelearn_eq hpair howner hrouted hn first last
    refine ⟨_, _, takeRequest_eq htake hreq, rfl, reply_body_take .ok moved (u8 _ ++ u8 _) copy,
      relearnRange_entriesOnly p _ _ s,
      fun q k hk hk' => ?_⟩
    rw [sigAt_relearnRange (by omega) hk hk']
    by_cases hq : q = p
    · subst hq; rfl
    · rw [if_neg (fun h => hq h.1), if_neg (fun h => hq h.1)]
  case frozen =>
    refine ⟨_, takeRequest_eq htake (reqFreeze_eq hpair howner hflag), rfl, ?_, fun q hq => ?_⟩
    · rw [frozen_setFreeze, if_pos rfl]
    · rw [frozen_setFreeze, if_neg (Ne.symm hq)]

/-! ### One entry in an update pass (R79 to R85) -/

section Entry

variable (par : Params) {e : SigEntry} {r : EchoRecord} {v : Nat}

theorem sigStep_update_lost (frozen : Bool) (e : SigEntry) (h : r.level = none) :
    sigStep .update par frozen e r = (storeLost r.stamp e, r, false) := by
  simp only [sigStep, h]

theorem sigStep_update_level (frozen : Bool) (e : SigEntry) (h : r.level = some v) :
    sigStep .update par frozen e r =
      ((updateEntry par frozen r.stamp v e).1, resolveRecord (updateEntry par frozen r.stamp v e).2.1 r,
        (updateEntry par frozen r.stamp v e).2.2) := by
  simp only [sigStep, h]

theorem updateEntry_of_tracking {base : Nat} (hstate : e.state = .tracking) (hbase : e.base = some base)
    (frozen : Bool) (stamp v : Nat) :
    updateEntry par frozen stamp v e =
      let moved := if frozen then (e, false) else trackLevel par base (deviation v base) e
      ({ moved.1 with
          lastLevel := .level v
          lastDev := some (deviation v base)
          lastStamp := stamp }, some (deviation v base), moved.2) := by
  simp only [updateEntry, hstate, hbase]

/-- An entry that does not track a base learns, unless its pair is frozen. -/
theorem updateEntry_of_not_tracking (h : e.state ≠ .tracking ∨ e.base = none) (frozen : Bool)
    (stamp v : Nat) :
    updateEntry par frozen stamp v e =
      ({ (if frozen then e else learnLevel par v e) with
          lastLevel := .level v
          lastDev := none
          lastStamp := stamp }, none, false) := by
  unfold updateEntry
  split
  · next base hstate hbase => exact absurd h (by simp [hstate, hbase])
  · rfl

/-- On a frozen pair only the last level moves, with the deviation that a lookup would report. -/
theorem updateEntry_of_frozen (stamp v : Nat) (e : SigEntry) : updateEntry par true stamp v e =
    ({ e with lastLevel := .level v, lastDev := lookupDev v e, lastStamp := stamp }, lookupDev v e, false) := by
  unfold updateEntry lookupDev
  split <;> rfl

theorem learnLevel_first
    (h : e.state = .empty ∨ (e.state = .learning ∧ (e.base = none ∨ e.learn = 0))) (v : Nat) :
    learnLevel par v e = { e with
      base := some v
      learn := 1
      state := if par.learnN ≤ 1 then .tracking else .learning } := by
  unfold learnLevel
  obtain h | ⟨hstate, hbase | hlearn⟩ := h
  · simp only [h]
  · simp only [hstate, hbase]
  · cases e.base <;> simp [hstate, hlearn]

theorem learnLevel_next {base : Nat} (hstate : e.state = .learning) (hlearn : 1 ≤ e.learn)
    (hbase : e.base = some base) (v : Nat) :
    learnLevel par v e = { e with
      base := some (learnedBase base e.learn v)
      learn := e.learn + 1
      state := if par.learnN ≤ e.learn + 1 then .tracking else .learning } := by
  simp only [learnLevel, hstate, hbase, if_pos hlearn]

theorem baseMove_eq (step : Nat) (d : Int) : baseMove step d = max (-(step : Int)) (min d step) := by
  unfold baseMove
  split
  · omega
  · split <;> omega

theorem trackLevel_stable {d : Int} (h : d.natAbs ≤ par.stable) (base : Nat) (e : SigEntry) :
    trackLevel par base d e =
      ({ e with
          base := some ((base : Int) + max (-(par.step : Int)) (min d par.step)).toNat
          drift := 0 }, false) := by
  rw [trackLevel, if_pos h, baseMove_eq]

theorem trackLevel_middling {d : Int} (hstable : par.stable < d.natAbs) (hwide : d.natAbs ≤ par.wide)
    (hdrift : e.drift < 255) (base : Nat) : trackLevel par base d e =
      ({ e with drift := if par.driftN ≤ e.drift + 1 then 0 else e.drift + 1 },
        decide (par.driftN ≤ e.drift + 1)) := by
  rw [trackLevel, if_neg (by omega), if_pos hwide, show min (e.drift + 1) 255 = e.drift + 1 by omega]
  split
  · next h => rw [decide_eq_true h]
  · next h => rw [decide_eq_false h]

theorem trackLevel_far {d : Int} (hstable : par.stable < d.natAbs) (hwide : par.wide < d.natAbs) (base : Nat)
    (e : SigEntry) : trackLevel par base d e = (e, false) := by
  rw [trackLevel, if_neg (by omega), if_neg (by omega)]

theorem trackLevel_keeps (base : Nat) (d : Int) (e : SigEntry) :
    (trackLevel par base d e).1.state = e.state ∧ (trackLevel par base d e).1.learn = e.learn := by
  unfold trackLevel
  repeat' split
  all_goals exact ⟨rfl, rfl⟩

end Entry

/-- Settles O31: a LOST record, a level on a frozen pair, the levels an entry learns, and the three bands of one
that tracks. -/
theorem entryLearnsThenTracks : Obligations.EntryLearnsThenTracks := by
  refine ⟨fun par frozen e r hlost => sigStep_update_lost par frozen e hlost, ?frozen, ?open_⟩
  case frozen =>
    intro par e r v hlevel dev
    have hdev : dev = lookupDev v e := rfl
    rw [sigStep_update_level par true e hlevel, updateEntry_of_frozen]
    have hstatus : (if (lookupDev v e).isSome then .valid else .unbased : EchoStatus) =
        if dev = none then .unbased else .valid := by
      by_cases hnone : dev = none
      · rw [if_pos hnone, ← hdev, hnone]; rfl
      · obtain ⟨d, hd⟩ := Option.ne_none_iff_exists'.mp hnone
        rw [if_neg hnone, ← hdev, hd]; rfl
    exact congrArg (fun st => (_, { r with dev := dev, status := st }, false)) hstatus
  case open_ =>
    intro par e r v hlevel u
    have hu : u = _ := sigStep_update_level par false e hlevel
    refine ⟨fun h => ?first, fun base hstate hlearn hbase => ?next, ?tracks⟩
    case first =>
      have hnot : e.state ≠ .tracking ∨ e.base = none := by
        obtain h | ⟨h, -⟩ := h <;> exact .inl (h ▸ nofun)
      rw [updateEntry_of_not_tracking par hnot, if_neg nofun, learnLevel_first par h] at hu
      rw [hu]
      exact ⟨rfl, rfl, rfl⟩
    case next =>
      rw [updateEntry_of_not_tracking par (.inl (hstate ▸ nofun)), if_neg nofun,
        learnLevel_next par hstate hlearn hbase] at hu
      rw [hu]
      exact ⟨rfl, rfl, rfl⟩
    case tracks =>
      intro base hstate hbase d
      rw [updateEntry_of_tracking par hstate hbase] at hu
      obtain ⟨hkeepstate, hkeeplearn⟩ := trackLevel_keeps par base d e
      rw [hu]
      refine ⟨rfl, hkeepstate.trans hstate, hkeeplearn, rfl, rfl, rfl, fun hstable => ?_,
        fun hstable hwide hdrift => ?_, fun hstable hwide => ?_⟩
      · rw [show deviation v base = d from rfl, trackLevel_stable par hstable]
        exact ⟨rfl, rfl, rfl⟩
      · rw [show deviation v base = d from rfl, trackLevel_middling par hstable hwide hdrift]
        exact ⟨hbase, rfl, rfl⟩
      · rw [show deviation v base = d from rfl, trackLevel_far par hstable hwide]
        exact ⟨hbase, rfl, rfl⟩

end Sys2Proof.Machine
end

section
/-! What an evaluation moves in the Signature Table. Settles O30. -/

namespace Sys2Proof.Machine

/-! ### Step 2 as a whole: each entry of the pass meets its own record (R78) -/

theorem sigPass_freeze (mode : SigMode) (par : Params) (p : PairNo) (records : List EchoRecord) (s : State) :
    (sigPass mode par p records s).1.sig.freeze = s.sig.freeze :=
  (SigKeep.sigPass mode par p records s).freeze

theorem sigPass_update_cons (par : Params) (p : PairNo) (r : EchoRecord) (rest : List EchoRecord) (s : State) :
    (sigPass .update par p (r :: rest) s).1 = (sigPass .update par p rest (s.setSig p r.position
      (fun _ => (sigStep .update par (s.frozen p) (s.sigAt p r.position) r).1))).1 := rfl

/-- An entry that no record of the pass is about stays as it is. -/
theorem sigAt_sigPass_of_not_covered {p q : PairNo} {k : Nat} (par : Params) (records : List EchoRecord)
    (hk : 1 ≤ k) (hk' : k ≤ 192) (hpos : ∀ r ∈ records, 1 ≤ r.position)
    (h : q ≠ p ∨ ∀ r ∈ records, r.position ≠ k) (s : State) :
    (sigPass .update par p records s).1.sigAt q k = s.sigAt q k := by
  induction records generalizing s with
  | nil => rfl
  | cons r rest ih =>
    rw [sigPass_update_cons, ih (fun r hr => hpos r (List.mem_cons_of_mem _ hr))
      (h.imp_right fun h r hr => h r (List.mem_cons_of_mem _ hr)),
      State.sigAt_setSig _ _ _ _ _ _ hk hk' (hpos r List.mem_cons_self), if_neg]
    rintro ⟨hp, hr⟩
    obtain h | h := h
    · exact h hp.symm
    · exact h r List.mem_cons_self hr

/-- A covered entry meets the one record of its position. -/
theorem sigAt_sigPass_of_mem {p : PairNo} (par : Params) {records : List EchoRecord} {r : EchoRecord}
    (hnodup : (records.map EchoRecord.position).Nodup) (hr : r ∈ records) (hk : 1 ≤ r.position)
    (hk' : r.position ≤ 192) (hpos : ∀ r ∈ records, 1 ≤ r.position) (s : State) :
    (sigPass .update par p records s).1.sigAt p r.position =
      (sigStep .update par (s.frozen p) (s.sigAt p r.position) r).1 := by
  induction records generalizing s with
  | nil => cases hr
  | cons r' rest ih =>
    obtain ⟨hfresh, hnodup⟩ := List.nodup_cons.mp hnodup
    have hrest : ∀ r ∈ rest, 1 ≤ r.position := fun r hr => hpos r (List.mem_cons_of_mem _ hr)
    rw [sigPass_update_cons]
    obtain rfl | hr := List.mem_cons.mp hr
    · rw [sigAt_sigPass_of_not_covered par rest hk hk' hrest
        (.inr fun r' hr' he => hfresh (he ▸ List.mem_map_of_mem hr')),
        State.sigAt_setSig _ _ _ _ _ _ hk hk' hk, if_pos ⟨rfl, rfl⟩]
    · have hne : r'.position ≠ r.position := fun he => hfresh (he ▸ List.mem_map_of_mem hr)
      rw [ih hnodup hr hrest, State.sigAt_setSig _ _ _ _ _ _ hk hk' (hpos r' List.mem_cons_self),
        if_neg (fun h => hne h.2)]
      rfl

/-! ### What one record may move (R79, R83, R85) -/

/-- On a frozen pair a record moves neither the base nor the state nor the counts. -/
theorem sigStep_of_frozen (par : Params) (e : SigEntry) (r : EchoRecord) :
    let e' := (sigStep .update par true e r).1
    e'.base = e.base ∧ e'.state = e.state ∧ e'.learn = e.learn ∧ e'.drift = e.drift := by
  cases hlevel : r.level with
  | none => rw [sigStep_update_lost par true e hlevel]; exact ⟨rfl, rfl, rfl, rfl⟩
  | some v => rw [sigStep_update_level par true e hlevel, updateEntry_of_frozen]; exact ⟨rfl, rfl, rfl, rfl⟩

theorem trackLevel_base {par : Params} {e : SigEntry} {base : Nat} (hbase : e.base = some base) (d : Int) :
    ∃ base', (trackLevel par base d e).1.base = some base' ∧ base' ≤ base + par.step ∧
      base ≤ base' + par.step := by
  unfold trackLevel
  split
  · refine ⟨_, rfl, ?_⟩
    rw [baseMove_eq]
    omega
  · refine ⟨base, ?_, by omega, by omega⟩
    repeat' split
    all_goals exact hbase

/-- A record moves the base of an entry that tracks by at most `step`. -/
theorem sigStep_of_tracking (par : Params) (frozen : Bool) {e : SigEntry} (r : EchoRecord) {base : Nat}
    (hstate : e.state = .tracking) (hbase : e.base = some base) :
    let e' := (sigStep .update par frozen e r).1
    e'.state = .tracking ∧ ∃ base', e'.base = some base' ∧ base' ≤ base + par.step ∧
      base ≤ base' + par.step := by
  cases hlevel : r.level with
  | none =>
    rw [sigStep_update_lost par frozen e hlevel]
    exact ⟨hstate, base, hbase, by omega, by omega⟩
  | some v =>
    rw [sigStep_update_level par frozen e hlevel, updateEntry_of_tracking par hstate hbase]
    cases frozen with
    | true => exact ⟨hstate, base, hbase, by omega, by omega⟩
    | false => exact ⟨(trackLevel_keeps par base _ e).1.trans hstate, trackLevel_base hbase _⟩

/-! ### The evaluation (R67) -/

theorem stepOne_positions (rec : PassRecord) (s : State) :
    (stepOne rec s).map EchoRecord.position = List.range' rec.first (rec.last + 1 - rec.first) := by
  rw [stepOne, List.map_map]
  exact List.map_id _

theorem mem_stepOne_position {rec : PassRecord} {s : State} {r : EchoRecord} (h : r ∈ stepOne rec s) :
    rec.first ≤ r.position ∧ r.position ≤ rec.last := by
  have hmem := List.mem_map_of_mem (f := EchoRecord.position) h
  rw [stepOne_positions, List.mem_range'_1] at hmem
  omega

theorem exists_mem_stepOne {rec : PassRecord} (s : State) {k : Nat} (h1 : rec.first ≤ k) (h2 : k ≤ rec.last) :
    ∃ r ∈ stepOne rec s, r.position = k := by
  rw [← List.mem_map, stepOne_positions, List.mem_range'_1]
  omega

theorem stepsTwoThree_sig (rec : PassRecord) (records : List EchoRecord) (s : State) :
    (stepsTwoThree rec records s).1.sig = match rec.pair with
      | none => s.sig
      | some p =>
        (sigPass (sigMode rec.kind rec.track (isOverdrive rec)) rec.params p records s).1.sig := by
  unfold stepsTwoThree
  cases rec.pair with
  | none => rfl
  | some p => cases sigMode rec.kind rec.track (isOverdrive rec) <;> simp

theorem evaluatePass_sig (rec : PassRecord) (s : State) :
    (evaluatePass rec s).sig =
      if rec.kind = .survey then s.sig else (stepsTwoThree rec (stepOne rec s) s).1.sig := by
  unfold evaluatePass
  split <;> simp

theorem sigAt_congr {s t : State} (h : s.sig = t.sig) (p : PairNo) (k : Nat) : s.sigAt p k = t.sigAt p k := by
  rw [State.sigAt, h, State.sigAt]

/-- An evaluation leaves an entry alone, or is an update pass in which the entry meets its record. -/
theorem sigAt_evaluatePass (rec : PassRecord) (s : State) (p : PairNo) {k : Nat} (h1 : 1 ≤ rec.first)
    (hk : 1 ≤ k) (hk' : k ≤ 192) :
    (evaluatePass rec s).sigAt p k = s.sigAt p k ∨
      (rec.pair = some p ∧ rec.first ≤ k ∧ k ≤ rec.last ∧
        ∃ r, (evaluatePass rec s).sigAt p k =
          (sigStep .update rec.params (s.frozen p) (s.sigAt p k) r).1) := by
  have hsig := evaluatePass_sig rec s
  split at hsig
  · exact .inl (sigAt_congr hsig p k)
  rw [stepsTwoThree_sig] at hsig
  split at hsig
  · exact .inl (sigAt_congr hsig p k)
  next p' hpair =>
    by_cases hmode : sigMode rec.kind rec.track (isOverdrive rec) = .update
    · rw [hmode] at hsig
      have hpos : ∀ r ∈ stepOne rec s, 1 ≤ r.position := fun r hr => h1.trans (mem_stepOne_position hr).1
      by_cases hcovered : p = p' ∧ rec.first ≤ k ∧ k ≤ rec.last
      · obtain ⟨rfl, hfirst, hlast⟩ := hcovered
        obtain ⟨r, hr, rfl⟩ := exists_mem_stepOne s hfirst hlast
        refine .inr ⟨hpair, hfirst, hlast, r, (sigAt_congr hsig p _).trans
          (sigAt_sigPass_of_mem _ ?_ hr hk hk' hpos s)⟩
        rw [stepOne_positions]
        exact List.nodup_range'
      · refine .inl ((sigAt_congr hsig p k).trans (sigAt_sigPass_of_not_covered _ _ hk hk' hpos ?_ s))
        by_cases hp : p = p'
        · refine .inr fun r hr he => hcovered ⟨hp, ?_⟩
          rw [← he]
          exact mem_stepOne_position hr
        · exact .inl hp
    · rw [sigPass_of_ne_update _ hmode] at hsig
      exact .inl (sigAt_congr hsig p k)

theorem evaluatePass_freeze (rec : PassRecord) (s : State) :
    (evaluatePass rec s).sig.freeze = s.sig.freeze := by
  rw [evaluatePass_sig]
  split
  · rfl
  · rw [stepsTwoThree_sig]
    split
    · rfl
    · exact sigPass_freeze ..

/-- Settles O30: an entry is left alone or meets one record, which moves a tracked base by at most `step` and
nothing of a frozen pair. -/
theorem evaluationMovesBasesByStep : Obligations.EvaluationMovesBasesByStep := by
  intro rec s p k h1 _ hk hk' t
  have hentry := sigAt_evaluatePass rec s p h1 hk hk'
  refine ⟨fun base hstate hbase => ?tracks, fun hfrozen => ?frozen, fun hother => ?other, evaluatePass_freeze rec s⟩
  case tracks =>
    obtain hsame | ⟨-, -, -, r, hr⟩ := hentry
    · rw [hsame]
      exact ⟨hstate, base, hbase, by omega, by omega⟩
    · rw [hr]
      exact sigStep_of_tracking _ _ r hstate hbase
  case frozen =>
    obtain hsame | ⟨-, -, -, r, hr⟩ := hentry
    · rw [hsame]
      exact ⟨rfl, rfl, rfl, rfl⟩
    · rw [hr, hfrozen]
      exact sigStep_of_frozen _ _ r
  case other =>
    refine hentry.resolve_right fun ⟨hpair, hfirst, hlast, _⟩ => ?_
    obtain h | h | h := hother
    · exact h hpair
    · omega
    · omega

end Sys2Proof.Machine
end

section
/-! Detections meeting the finding list, confirmation requests and clean observations. Settles O32 to O34. -/

namespace Sys2Proof.Machine

/-! ### Detections meeting the list (R102 to R104) -/

theorem FindingsLaw.eq_of_samePlace {s : State} (h : FindingsLaw s) {f g : Finding} (hf : f ∈ s.findings)
    (hg : g ∈ s.findings) (hsame : f.samePlace g) : f = g := by
  by_contra hne
  have : Std.Symm fun f g : Finding => ¬ f.samePlace g := ⟨fun a b hab ⟨hp, hc, hl⟩ =>
    hab ⟨hp.symm, hc.symm, hl.symm⟩⟩
  exact h.2.forall hf hg hne hsame

section Detection

variable {par : Params} {p : PairNo} {stamp : Nat} {d : Detection} {s : State} {f : Finding}

/-- The finding that stands at a detection's place is the only one there. -/
theorem FindingsLaw.isAt_iff_eq (h : FindingsLaw s) (hf : f ∈ s.findings)
    (hat : f.isAt p d.cls d.location = true) {g : Finding} (hg : g ∈ s.findings) :
    g.isAt p d.cls d.location = true ↔ g = f := by
  refine ⟨fun hgat => ?_, fun he => he ▸ hat⟩
  obtain ⟨hp, hc, hl⟩ := (Finding.isAt_iff ..).mp hat
  obtain ⟨hp', hc', hl'⟩ := (Finding.isAt_iff ..).mp hgat
  exact h.eq_of_samePlace hg hf ⟨hp'.trans hp.symm, hc'.trans hc.symm, hl'.trans hl.symm⟩

theorem find?_isAt (h : FindingsLaw s) (hf : f ∈ s.findings) (hat : f.isAt p d.cls d.location = true) :
    s.findings.find? (fun g => g.isAt p d.cls d.location) = some f := by
  cases hfound : s.findings.find? (fun g => g.isAt p d.cls d.location) with
  | none => exact absurd hat (List.find?_eq_none.mp hfound f hf)
  | some g =>
    rw [(h.isAt_iff_eq hf hat (List.mem_of_find?_eq_some hfound)).mp (List.find?_some (p := fun g : Finding => g.isAt p d.cls d.location) hfound)]

/-- A detection that finds its place taken acts on the one finding there. -/
theorem applyDetection_of_mem (h : FindingsLaw s) (hf : f ∈ s.findings)
    (hat : f.isAt p d.cls d.location = true) :
    let t := { s with findings := s.findings.map (fun g => if g = f then sighted par stamp d f else g) }
    applyDetection par p stamp d s = match f.state with
      | .suspect =>
        if (sighted par stamp d f).state = .confirmed then
          (raiseNotice .findingConfirmed (noticePort t p) t, false)
        else (t, false)
      | .cleared => (raiseNew par p t, wantsConfirm par d)
      | .confirmed | .isolated => (t, false) := by
  have hmap : s.findings.map (fun g => if g.isAt p d.cls d.location then sighted par stamp d g else g)
      = s.findings.map (fun g => if g = f then sighted par stamp d f else g) := by
    refine List.map_congr_left fun g hg => ?_
    by_cases hgf : g = f
    · rw [if_pos hgf, if_pos (hgf ▸ hat), hgf]
    · rw [if_neg hgf, if_neg (mt (h.isAt_iff_eq hf hat hg).mp hgf)]
  simp only [applyDetection, find?_isAt h hf hat, hmap] <;> rfl

theorem find?_isAt_eq_none
    (h : ∀ f ∈ s.findings, ¬ (f.pair = p ∧ f.cls = d.cls ∧ f.location = d.location)) :
    s.findings.find? (fun g => g.isAt p d.cls d.location) = none :=
  List.find?_eq_none.mpr fun f hf hat => h f hf ((Finding.isAt_iff ..).mp hat)

/-- A detection at a free place joins the end of a list that has, or is given, room. -/
theorem applyDetection_of_room
    (h : ∀ f ∈ s.findings, ¬ (f.pair = p ∧ f.cls = d.cls ∧ f.location = d.location)) {l : List Finding}
    (hroom : makeRoom s.findings = some l) :
    applyDetection par p stamp d s =
      (raiseNew par p { s with
        findings := l ++ [newFinding par p (((s.pair p).housingAt d.location).getD 0) stamp d] },
        wantsConfirm par d) := by
  simp only [applyDetection, find?_isAt_eq_none h, hroom]

theorem applyDetection_of_no_room
    (h : ∀ f ∈ s.findings, ¬ (f.pair = p ∧ f.cls = d.cls ∧ f.location = d.location))
    (hroom : makeRoom s.findings = none) :
    applyDetection par p stamp d s = (raiseAll .listFull [0, noticePort s p] s, false) := by
  simp only [applyDetection, find?_isAt_eq_none h, hroom]

theorem makeRoom_of_lt {l : List Finding} (h : l.length < 32) : makeRoom l = some l := if_pos h

theorem makeRoom_of_cleared {older younger : List Finding} (hfull : (older ++ f :: younger).length = 32)
    (hstate : f.state = .cleared) (holder : ∀ g ∈ older, g.state ≠ .cleared) :
    makeRoom (older ++ f :: younger) = some (older ++ younger) := by
  have hnot : ¬ (older ++ f :: younger).length < Config.findingPlaces := by
    rw [hfull]; decide
  rw [makeRoom, if_neg hnot, if_pos (by simp [hstate]), evictCleared, List.eraseP_append_right _ (by simpa using holder),
    List.eraseP_cons_of_pos (by simpa using hstate)]

theorem makeRoom_of_full {l : List Finding} (hfull : l.length = 32) (h : ∀ f ∈ l, f.state ≠ .cleared) :
    makeRoom l = none := by
  have hnot : ¬ l.length < Config.findingPlaces := by rw [hfull]; decide
  rw [makeRoom, if_neg hnot, if_neg (by simpa using h)]

theorem raiseNew_pendingSet (par : Params) (p : PairNo) (s : State) :
    ((raiseNew par p s).port (noticePort s p)).pendingSet =
      (s.port (noticePort s p)).pendingSet ||| (if par.confirmN ≤ 1 then 0x006#12 else 0x002#12) := by
  unfold raiseNew
  dsimp only
  split
  · rw [show noticePort (raiseNotice .findingNew (noticePort s p) s) p = noticePort s p from rfl,
      pendingSet_raiseNotice, pendingSet_raiseNotice, if_pos rfl, if_pos rfl, BitVec.or_assoc]
    rfl
  · rw [pendingSet_raiseNotice, if_pos rfl]
    rfl

theorem raiseNew_port_ne (par : Params) {p : PairNo} {s : State} {x : Port} (h : x ≠ noticePort s p) :
    (raiseNew par p s).port x = s.port x := by
  unfold raiseNew
  dsimp only
  split
  · rw [show noticePort (raiseNotice .findingNew (noticePort s p) s) p = noticePort s p from rfl,
      port_raiseNotice_ne _ h, port_raiseNotice_ne _ h]
  · rw [port_raiseNotice_ne _ h]

theorem raiseNew_frame (par : Params) (p : PairNo) (s : State) :
    raiseNew par p s =
      { s with findings := (raiseNew par p s).findings, ports := (raiseNew par p s).ports } := by
  unfold raiseNew
  dsimp only
  split <;> rfl

theorem applyDetection_frame (par : Params) (p : PairNo) (stamp : Nat) (d : Detection) (s : State) :
    let t := (applyDetection par p stamp d s).1
    t = { s with findings := t.findings, ports := t.ports } := by
  unfold applyDetection
  dsimp only
  repeat' split
  · rfl
  · rfl
  · exact raiseNew_frame ..
  · rfl
  · rfl
  · exact raiseNew_frame ..
  · rfl

theorem applyDetection_port_ne (par : Params) (p : PairNo) (stamp : Nat) (d : Detection) (s : State) {x : Port}
    (howner : x ≠ noticePort s p) (hzero : x ≠ 0) :
    (applyDetection par p stamp d s).1.port x = s.port x := by
  unfold applyDetection
  dsimp only
  repeat' split
  · exact port_raiseNotice_ne _ howner _
  · rfl
  · exact raiseNew_port_ne par howner
  · rfl
  · rfl
  · exact raiseNew_port_ne par howner
  · exact (port_raiseNotice_ne _ howner _).trans (port_raiseNotice_ne _ hzero _)

end Detection

theorem sightedState_eq {confirmN seen : Nat} {st : FindingState} (h : st = .suspect ∨ st = .confirmed) :
    sightedState confirmN seen st = if confirmN ≤ seen then .confirmed else st := by
  obtain rfl | rfl := h <;> simp [sightedState]

/-- Settles O32: the finding at the place, a new finding with or without an eviction, or a detection dropped. -/
theorem detectionMeetsFindingList : Obligations.DetectionMeetsFindingList := by
  intro par p stamp d s hlaw u fresh asks told owner
  have howner : noticePort s p = owner := rfl
  have hasks : wantsConfirm par d = asks := (Bool.decide_and ..).symm
  refine ⟨applyDetection_frame .., fun f hf hp hc hl => ?known, fun hfree =>
    ⟨fun hroom => ?joins, fun older f younger hfull hlist hcleared holder => ?evicts, fun hfull hnone => ?drops⟩,
    fun x hx hzero => applyDetection_port_ne par p stamp d s hx hzero⟩
  case known =>
    have hu : u = _ := applyDetection_of_mem hlaw hf ((Finding.isAt_iff ..).mpr ⟨hp, hc, hl⟩)
    refine ⟨sighted par stamp d f, ?_, fun hstate => ?isolated, fun hstate => ?open_, fun hstate => ?cleared⟩
    · rw [hu]
      split
      · split <;> rfl
      · exact raiseNew_findings ..
      · rfl
      · rfl
    case isolated =>
      simp only [hstate] at hu
      exact ⟨by simp only [sighted, hstate], by rw [hu], by rw [hu]⟩
    case open_ =>
      have hsighted : sighted par stamp d f = { f with
          seen := min (f.seen + 1) 255
          clean := 0
          lastSeen := stamp
          magnitude := if d.magnitude.isSome then d.magnitude else f.magnitude
          state := if par.confirmN ≤ min (f.seen + 1) 255 then .confirmed else f.state } := by
        rw [← sightedState_eq hstate]
        obtain h | h := hstate <;> simp only [sighted, h]
      refine ⟨hsighted, ?_⟩
      obtain hstate | hstate := hstate
      · simp only [hstate, hsighted] at hu
        by_cases hconfirm : par.confirmN ≤ min (f.seen + 1) 255
        · rw [if_pos hconfirm, if_pos rfl] at hu
          rw [hu, if_pos (c := f.state = .suspect ∧ _) ⟨hstate, hconfirm⟩]
          exact ⟨rfl, congrArg PortState.pendingSet (port_raiseNotice_self .findingConfirmed owner _)⟩
        · rw [if_neg hconfirm, if_neg nofun] at hu
          rw [hu, if_neg (c := f.state = .suspect ∧ _) (fun h => hconfirm h.2), BitVec.or_zero]
          exact ⟨rfl, rfl⟩
      · simp only [hstate] at hu
        rw [hu, if_neg (c := f.state = .suspect ∧ _) (fun h => absurd (hstate.symm.trans h.1) nofun),
          BitVec.or_zero]
        exact ⟨rfl, rfl⟩
    case cleared =>
      simp only [hstate] at hu
      rw [hu]
      exact ⟨by simp only [sighted, hstate], hasks, raiseNew_pendingSet ..⟩
  case joins =>
    have hu : u = _ := applyDetection_of_room hfree (makeRoom_of_lt hroom)
    rw [hu]
    exact ⟨raiseNew_findings .., hasks, raiseNew_pendingSet ..⟩
  case evicts =>
    have hu : u = _ := applyDetection_of_room hfree
      (hlist ▸ makeRoom_of_cleared (hlist ▸ hfull) hcleared holder)
    rw [hu]
    exact ⟨raiseNew_findings .., hasks⟩
  case drops =>
    have hu : u = _ := applyDetection_of_no_room hfree (makeRoom_of_full hfull hnone)
    rw [hu]
    have hmask : ∀ x : Port, x = 0 ∨ x = owner →
        ((raiseAll .listFull [0, noticePort s p] s).port x).pendingSet =
          (s.port x).pendingSet ||| 0x080#12 := fun x hx => by
      refine (pendingSet_raiseNotice .listFull owner x (raiseNotice .listFull 0 s)).trans ?_
      rw [pendingSet_raiseNotice, BitVec.or_assoc]
      congr 1
      by_cases h0 : x = 0 <;> by_cases ho : x = owner
      · rw [if_pos h0, if_pos ho]; rfl
      · rw [if_pos h0, if_neg ho]; rfl
      · rw [if_neg h0, if_pos ho]; rfl
      · exact absurd hx (not_or.mpr ⟨h0, ho⟩)
    exact ⟨rfl, rfl, hmask 0 (.inl rfl), hmask owner (.inr rfl)⟩

/-! ### Confirmation requests (R108, R109) -/

theorem mergeable_iff {p : PairNo} {j : Job} : mergeable p j = true ↔
    j.kind = .confirm ∧ j.pair = some p ∧ j.state = .queued ∧ j.everActive = false := by
  simp [mergeable, and_assoc]

theorem takeConfirm_of_waiting {r : ConfirmRequest} {s : State}
    (h : ∃ j ∈ s.sched.jobs, mergeable r.pair j = true) :
    takeConfirm r s =
      s.setJobs (s.sched.jobs.map (fun j => if mergeable r.pair j then mergeConfirm r j else j)) := by
  rw [takeConfirm, if_pos (List.any_eq_true.mpr h)]

theorem takeConfirm_of_none_waiting {r : ConfirmRequest} {s : State}
    (h : ∀ j ∈ s.sched.jobs, ¬ mergeable r.pair j = true) :
    takeConfirm r s = if s.serviceSlotsUsed < 8 then
      s.addJob (Job.fresh .internal .confirm .urgent (some r.pair) (some (r.first, r.last)) r.q r.w)
      else s := by
  rw [takeConfirm, if_neg (by simpa using h)]
  rfl

theorem takeConfirm_frame (r : ConfirmRequest) (s : State) :
    let t := takeConfirm r s
    t = { s with sched := { s.sched with jobs := t.sched.jobs, lastNumber := t.sched.lastNumber } } := by
  unfold takeConfirm
  dsimp only
  repeat' split
  all_goals rfl

theorem mergeConfirm_of_range {r : ConfirmRequest} {j : Job} {a b : Nat} (h : j.range = some (a, b)) :
    mergeConfirm r j = { j with
      range := some (min a r.first, max b r.last)
      progress := min a r.first
      q := max j.q r.q
      w := max j.w r.w } := by
  simp only [mergeConfirm, h, Option.getD_some]

/-- Settles O33: a request merged into the waiting job, a new job, or a request not kept. -/
theorem confirmRequestIsMergedOrQueued : Obligations.ConfirmRequestIsMergedOrQueued := by
  intro par p k s _ t first last q w waits
  have hwaits : ∀ j, mergeable (confirmRequest par s p k).pair j = true ↔ waits j := fun j => mergeable_iff
  refine ⟨takeConfirm_frame _ s, fun ⟨j, hj, hwait⟩ => ?merged, fun hnone => ?fresh⟩
  case merged =>
    have ht : t = _ := takeConfirm_of_waiting (r := confirmRequest par s p k) ⟨j, hj, (hwaits j).mpr hwait⟩
    rw [ht]
    refine ⟨rfl, List.length_map .., fun i j hi => ?_⟩
    have hget : ∀ f : Job → Job, (s.sched.jobs.map f)[i]? = some (f j) := fun f => by
      rw [List.getElem?_map, hi, Option.map_some]
    refine ⟨fun hnot => (hget _).trans ?_, fun a b hwait hrange => (hget _).trans ?_⟩
    · rw [if_neg (mt (hwaits j).mp hnot)]
    · rw [if_pos ((hwaits j).mpr hwait), mergeConfirm_of_range hrange]
      rfl
  case fresh =>
    have ht : t = _ := takeConfirm_of_none_waiting (r := confirmRequest par s p k)
      fun j hj h => hnone j hj ((hwaits j).mp h)
    refine ⟨fun hslots => ?_, fun hslots => ?_⟩
    · rw [if_pos hslots] at ht
      rw [ht]
      exact ⟨rfl, rfl⟩
    · rw [ht, if_neg (Nat.not_lt.mpr hslots)]

/-! ### Clean observations (R105, R106) -/

theorem examined_iff {p : PairNo} {a b : Nat} {found : List Detection} {f : Finding} :
    examined p a b found f = true ↔ f.pair = p ∧ f.state ≠ .isolated ∧ a ≤ f.location ∧ f.location ≤ b ∧
      ∀ d ∈ found, ¬ (d.cls = f.cls ∧ d.location = f.location) := by
  simp [examined, and_assoc]

theorem observedClean_iff {stable : Nat} {records : List EchoRecord} {f : Finding} :
    observedClean stable records f = true ↔
      ∃ r, records.find? (fun r => r.position = f.location) = some r ∧ r.status = .valid ∧
        (f.cls = .drift → (r.dev.getD 0).natAbs ≤ stable) := by
  unfold observedClean
  cases records.find? (fun r => decide (r.position = f.location)) with
  | none => simp
  | some r => simp [Decidable.imp_iff_not_or]

theorem cleanEntry_confirmed_cleared {clearN : Nat} {f : Finding} (h : f.state = .confirmed) :
    (cleanEntry clearN f).any (fun g => g.state = .cleared) = decide (clearN ≤ min (f.clean + 1) 255) := by
  rw [cleanEntry, h, Option.any_some]
  split <;> simp [*]

/-- Settles O34: which findings leave, count or stay, and when FINDING_CLEARED is raised. -/
theorem cleanSightingsClearFindings : Obligations.CleanSightingsClearFindings := by
  intro par p a b records found s clean hclean t more
  have heq : (fun f => examined p a b found f && observedClean par.stable records f) = clean := by
    funext f
    rw [Bool.eq_iff_iff, Bool.and_eq_true, examined_iff, observedClean_iff, hclean]
    simp only [and_assoc]
  have ht : t = if s.findings.any (fun f => clean f && f.state = .confirmed &&
        (cleanEntry par.clearN f).any (fun g => g.state = .cleared)) then
      raiseNotice .findingCleared (noticePort s p) { s with
        findings := s.findings.filterMap (fun f => if clean f then cleanEntry par.clearN f else some f) }
    else { s with
      findings := s.findings.filterMap (fun f => if clean f then cleanEntry par.clearN f else some f) } := by
    rw [← heq]
    rfl
  have hentry : ∀ f : Finding, cleanEntry par.clearN f = match f.state with
      | .suspect => none
      | .confirmed => some { f with
          clean := more f, state := if par.clearN ≤ more f then .cleared else .confirmed }
      | .cleared => some { f with clean := more f }
      | .isolated => some f := fun f => by
    unfold cleanEntry
    cases f.state <;> rfl
  have hbecomes : s.findings.any (fun f => clean f && f.state = .confirmed &&
        (cleanEntry par.clearN f).any (fun g => g.state = .cleared)) = true ↔
      ∃ f ∈ s.findings, clean f = true ∧ f.state = .confirmed ∧ par.clearN ≤ more f := by
    rw [List.any_eq_true]
    refine exists_congr fun f => and_congr_right fun _ => ?_
    simp only [Bool.and_eq_true, decide_eq_true_eq, and_assoc]
    refine and_congr_right fun _ => and_congr_right fun hstate => ?_
    rw [cleanEntry_confirmed_cleared hstate, decide_eq_true_eq]
  refine ⟨?kept, fun hnot => ?silent, fun hcleared => ?told⟩
  case kept =>
    have hkept : t.findings = s.findings.filterMap
        (fun f => if clean f then cleanEntry par.clearN f else some f) := by
      rw [ht]
      split <;> rfl
    exact hkept.trans (List.filterMap_congr fun f _ =>
      congrArg (fun o => if clean f = true then o else some f) (hentry f))
  case silent =>
    rw [ht, if_neg]
    rw [hbecomes]
    rintro ⟨f, hf, hcl, hstate, hle⟩
    exact absurd hle (Nat.not_le.mpr (hnot f hf hcl hstate))
  case told =>
    rw [ht, if_pos (hbecomes.mpr hcleared)]
    exact congrArg PortState.pendingSet (port_raiseNotice_self .findingCleared (noticePort s p) _)

end Sys2Proof.Machine
end

section
/-! DISMISS and the expiry check, housings and ROUTE_OPEN. Settles O36 and O37. -/

namespace Sys2Proof.Machine

/-! ### DISMISS (R111) and the expiry check (R107) -/

theorem classOf_classCode (c : FindingClass) : classOf (classCode c) = some c := by
  cases c <;> rfl

theorem withPair_of_large {b : Byte} (h : 15 < b.toNat) (s : State) (k : PairNo → State × Resp) :
    withPair b s k = (s, plainResp .invalid []) := by
  rw [withPair, dif_neg (by omega)]
  rfl

section Dismiss

variable {port : Port} {b c : Byte} {s : State}

theorem reqDismiss_of_class {cls : FindingClass} {p : PairNo} (hcls : classCode cls = c.toNat)
    (hpair : b.toNat = p.val) (hmay : ownerOrStation s port p = true) (location : Byte) :
    reqDismiss port b c location s =
      if (s.pair p).state ≠ .routed then (s, plainResp .invalid (pairStateDetail s p))
      else if s.findings.any (fun f => f.isAt p cls location.toNat) then
        (dismiss p cls location.toNat s, plainResp .ok [])
      else (s, plainResp .noSuch []) := by
  simp only [reqDismiss, ← hcls, classOf_classCode, withPair_of_toNat hpair, hmay]
  rfl

theorem any_isAt_iff {p : PairNo} {cls : FindingClass} {k : Nat} : s.findings.any (fun f => f.isAt p cls k) = true ↔
    ∃ f ∈ s.findings, f.pair = p ∧ f.cls = cls ∧ f.location = k := by
  simp only [List.any_eq_true, Finding.isAt_iff]

theorem dismiss_eq (p : PairNo) (cls : FindingClass) (k : Nat) : dismiss p cls k s =
    { s with findings := s.findings.filter (fun f => ¬ (f.pair = p ∧ f.cls = cls ∧ f.location = k)) } := by
  have hsame : (fun f : Finding => !f.isAt p cls k) =
      fun f => decide ¬ (f.pair = p ∧ f.cls = cls ∧ f.location = k) := by
    funext f
    rw [Bool.eq_iff_iff, Bool.not_eq_true', Bool.eq_false_iff, ne_eq, Finding.isAt_iff, decide_eq_true_eq]
  rw [dismiss, hsame]

end Dismiss

theorem expired_eq (now ttl : Nat) (f : Finding) :
    (!expired now ttl f) = decide ¬ (f.state = .suspect ∧ f.lastSeen + ttl * 60000 < now) := by
  rw [expired, decide_not, Bool.decide_and]
  congr 2
  exact decide_eq_decide.mpr (by omega)

/-- Settles O36: DISMISS by its table, and the check at a whole second. -/
theorem dismissAndExpiryRemoveFindings : Obligations.DismissAndExpiryRemoveFindings := by
  refine ⟨fun port b c location s htake => ?dismiss, fun s hwhole => ?expiry⟩
  case dismiss =>
    intro refused
    refine ⟨fun hc => takeRequest_eq htake ?malformed, fun h1 h5 hb => takeRequest_eq htake ?invalid,
      fun p cls hpair hcls => ⟨fun howner hrole => takeRequest_eq htake ?denied, fun hmay => ?allowed⟩⟩
    case malformed => rw [reqDismiss, classOf_eq_none hc.symm]; rfl
    case invalid =>
      obtain ⟨cls, hcls⟩ := classOf_isSome h1 h5
      simp only [reqDismiss, hcls]
      exact withPair_of_large hb s _
    case denied =>
      have hcode := classOf_classCode cls
      rw [hcls] at hcode
      simp only [reqDismiss, hcode, withPair_of_toNat hpair, ownerOrStation_of_tenant howner hrole]
      rfl
    case allowed =>
      have hreq := reqDismiss_of_class hcls hpair (ownerOrStation_iff.mpr hmay) location
      refine ⟨fun hstate => takeRequest_eq htake (hreq.trans ?_), fun hstate => takeRequest_eq htake (hreq.trans ?_),
        fun hrouted => ⟨fun hnone => takeRequest_eq htake (hreq.trans ?_),
          fun hsome => takeRequest_eq htake (hreq.trans ?_)⟩⟩
      · rw [if_pos (hstate ▸ nofun), pairStateDetail, hstate]; rfl
      · rw [if_pos (hstate ▸ nofun), pairStateDetail, hstate]; rfl
      · rw [if_neg (not_not.mpr hrouted), if_neg]
        rw [any_isAt_iff]
        rintro ⟨f, hf, hat⟩
        exact hnone f hf hat
      · rw [if_neg (not_not.mpr hrouted), if_pos (any_isAt_iff.mpr hsome), dismiss_eq]
  case expiry =>
    show Host.Outcome.next (expiryState s) = _
    have hdue : expiryDue s = true := decide_eq_true hwhole
    rw [expiryState, if_pos hdue]
    simp only [expired_eq]

/-! ### Housings (R3) -/

theorem presenceByte_of {v : Byte} (h : v.toNat = 1 ∨ v.toNat = 2) :
    presenceByte v = some (if v.toNat = 2 then .present else .absent) := by
  unfold presenceByte
  obtain h | h := h <;> simp [h]

theorem housingAt_eq_some {pr : Pair} {k h : Nat} : pr.housingAt k = some h ↔
    1 ≤ k ∧ ∃ e, pr.route[k - 1]? = some e ∧ e.housing = h := by
  unfold Pair.housingAt
  split
  · next hk => simp [hk]
  · next hk => rw [Option.map_eq_some_iff, and_iff_right (Nat.one_le_iff_ne_zero.mpr hk)]

/-- A position found is the lowest of the housing. -/
theorem positionOf_eq_some {pr : Pair} {h k : Nat} (hk : pr.positionOf h = some k) :
    1 ≤ k ∧ pr.housingAt k = some h ∧ ∀ i < k, pr.housingAt i ≠ some h := by
  obtain ⟨i, hi, rfl⟩ := Option.map_eq_some_iff.mp hk
  obtain ⟨hlt, hat, hbelow⟩ := List.findIdx?_eq_some_iff_getElem.mp hi
  refine ⟨Nat.le_add_left 1 i, housingAt_eq_some.mpr ⟨Nat.le_add_left 1 i, pr.route[i],
    List.getElem?_eq_getElem hlt, of_decide_eq_true hat⟩, fun m hm hheld => ?_⟩
  obtain ⟨hm1, e, he, heh⟩ := housingAt_eq_some.mp hheld
  obtain ⟨hlt', hget⟩ := List.getElem?_eq_some_iff.mp he
  exact hbelow (m - 1) (by omega) (decide_eq_true (hget ▸ heh))

/-- The pair that stops an ABSENT write is the lowest whose route holds the housing (R3, log 33). -/
theorem heldBy_eq_some {s : State} {h : Nat} {p : PairNo} (hstate : (s.pair p).state ≠ .unrouted)
    (hheld : ∃ e ∈ (s.pair p).route, e.housing = h)
    (hfirst : ∀ q < p, (s.pair q).state ≠ .unrouted → ∀ e ∈ (s.pair q).route, e.housing ≠ h) :
    ∃ k, heldBy s h = some (p, k) ∧ (s.pair p).positionOf h = some k := by
  cases hheldBy : heldBy s h with
  | none =>
    obtain ⟨e, he, heh⟩ := hheld
    exact absurd heh (not_routed_of_heldBy_eq_none hheldBy p hstate e he)
  | some qk =>
    obtain ⟨below, q, above, hsplit, hq, hnone⟩ := List.findSome?_eq_some_iff.mp hheldBy
    split at hq
    · cases hq
    next hqstate =>
      obtain ⟨k, hk, rfl⟩ := Option.map_eq_some_iff.mp hq
      have hsorted : (below ++ q :: above).Pairwise (· < ·) := hsplit ▸ List.pairwise_lt_finRange 16
      obtain ⟨-, hsorted, -⟩ := List.pairwise_append.mp hsorted
      have hp : p ∈ below ++ q :: above := hsplit ▸ List.mem_finRange p
      obtain hp | rfl | hp : p ∈ below ∨ p = q ∨ p ∈ above := by simpa using hp
      · have hpnone := hnone p hp
        rw [if_neg hstate, Option.map_eq_none_iff] at hpnone
        have hthrough := (routesThrough_iff (s.pair p) h).mpr hheld
        rw [Pair.routesThrough, hpnone] at hthrough
        cases hthrough
      · exact ⟨k, rfl, hk⟩
      · have hqp := (List.pairwise_cons.mp hsorted).1 p hp
        obtain ⟨e, he, heh⟩ := (routesThrough_iff (s.pair q) h).mp (by rw [Pair.routesThrough, hk]; rfl)
        exact absurd heh (hfirst q hqp hqstate e he)

theorem heldBy_eq_none {s : State} {h : Nat}
    (hfree : ∀ p : PairNo, (s.pair p).state ≠ .unrouted → ∀ e ∈ (s.pair p).route, e.housing ≠ h) :
    heldBy s h = none := by
  refine List.findSome?_eq_none_iff.mpr fun p _ => ?_
  split
  · rfl
  · next hstate =>
    rw [Option.map_eq_none_iff, Pair.positionOf, Option.map_eq_none_iff, List.findIdx?_eq_none_iff]
    simpa using hfree p hstate

section WriteHousing

variable {port : Port} {h v : Byte} {s : State}

theorem reqWriteHousing_eq (hrole : (s.port port).role = .station) (h1 : 1 ≤ h.toNat) (h2 : h.toNat ≤ 192)
    (hv : v.toNat = 1 ∨ v.toNat = 2) : reqWriteHousing port h v s =
      match (if v.toNat = 2 then .present else .absent : Presence), (s.housing h.toNat).presence,
        heldBy s h.toNat with
      | .absent, .present, some (p, k) => (s, refuse .invalid (u8 p.val ++ u8 k))
      | _, _, _ => (s.setHousing h.toNat (withPresence (if v.toNat = 2 then .present else .absent)),
          plainResp .ok []) := by
  simp only [reqWriteHousing, presenceByte_of hv, stationOnly_of_station hrole, housingNumber_of_le h1 h2]
  rfl

end WriteHousing

theorem withPresence_eq (present : Prop) [Decidable present] (e : Housing) :
    withPresence (if present then .present else .absent) e =
      if present then { e with presence := .present }
      else if e.presence = .present then Housing.powerOn else e := by
  by_cases h : present
  · rw [if_pos h, if_pos h]
    rfl
  · rw [if_neg h, if_neg h]
    unfold withPresence
    cases e.presence <;> rfl

/-! ### ROUTE_OPEN (R8, R9) -/

theorem pairBusy_iff {s : State} {p : PairNo} :
    s.pairBusy p = true ↔ ∃ j ∈ s.sched.jobs, j.pair = some p ∧ j.state ≠ .ended := by
  simp [State.pairBusy]

theorem concerned_iff {s : State} {p : PairNo} :
    s.concerned p = true ↔ ∃ r ∈ s.channel.concur, r.pair = p ∨ r.pair = partner p := by
  simp [State.concerned]

theorem sigAt_emptySignatures (s : State) (p q : PairNo) (k : Nat) :
    (emptySignatures p s).sigAt q k = if q = p then SigEntry.powerOn else s.sigAt q k := by
  simp only [State.sigAt, emptySignatures, Fin.getElem_fin]
  rw [tableMap_get _ _ _ _ q.isLt]
  by_cases hq : q = p
  · rw [if_pos (by rw [hq]), if_pos hq, tableGet_replicate]
  · rw [if_neg (fun h => hq (Fin.ext h.symm)), if_neg hq]

theorem routeUse_eq (o chip drive : Byte) (quietBase : Half) :
    let n := max 11 (min o.toNat 15)
    routeUse o chip drive quietBase =
      (⟨n, min chip.toNat 4, drive.toNat⟩, max 4 (min quietBase.toNat (2 ^ n - 5))) := by
  have hpow : 2 ^ 11 ≤ 2 ^ max 11 (min o.toNat 15) := Nat.pow_le_pow_right (by norm_num) (le_max_left _ _)
  simp only [routeUse, clamp_zero, clamp_eq_max_min (show 11 ≤ 15 by norm_num)]
  rw [clamp_eq_max_min (by unfold seqLength; omega)]
  rfl

section RouteOpen

variable {port : Port} {b o chip drive : Byte} {quietBase : Half} {p : PairNo} {s : State}

theorem reqRouteOpen_busy (hrole : (s.port port).role = .station) (hpair : b.toNat = p.val)
    (hbusy : s.pairBusy p = true ∨ s.concerned p = true) :
    reqRouteOpen port b o chip drive quietBase s = (s, plainResp .busy []) := by
  rw [reqRouteOpen, stationOnly_of_station hrole, withPair_of_toNat hpair, if_pos (Bool.or_eq_true _ _ ▸ hbusy)]
  rfl

theorem reqRouteOpen_accepted (hrole : (s.port port).role = .station) (hpair : b.toNat = p.val)
    (hbusy : s.pairBusy p = false) (hconcerned : s.concerned p = false) :
    let u := routeUse o chip drive quietBase
    ∃ moved, reqRouteOpen port b o chip drive quietBase s =
      (openRoute p u s, reply .ok moved [] (routeCopy p u)) := by
  rw [reqRouteOpen, stationOnly_of_station hrole, withPair_of_toNat hpair, hbusy, hconcerned]
  exact ⟨_, rfl⟩

end RouteOpen

/-- Settles O37: WRITE_HOUSING by its table, and ROUTE_OPEN BUSY or accepted. -/
theorem housingIsWrittenAndRouteOpened : Obligations.HousingIsWrittenAndRouteOpened := by
  intro port s htake hrole
  refine ⟨fun h v hrange hv => takeRequest_eq htake ?invalid, fun h v h1 h2 hv => ⟨?stopped, fun hfree => ?written⟩,
    fun b o chip drive quietBase p hpair hbusy => takeRequest_eq htake ?busy,
    fun b o chip drive quietBase p hpair hjobs hrecords => ?opened⟩
  case invalid =>
    have hnot : housingNumber h = false := by
      rw [Bool.eq_false_iff, ne_eq, housingNumber_iff]
      omega
    simp only [reqWriteHousing, presenceByte_of hv, stationOnly_of_station hrole, hnot]
    rfl
  case stopped =>
    intro p hv1 hpresent hstate hheld hfirst
    obtain ⟨k, hheldBy, hk⟩ := heldBy_eq_some hstate hheld hfirst
    obtain ⟨hk1, hat, hbelow⟩ := positionOf_eq_some hk
    refine ⟨k, hk1, hat, hbelow, takeRequest_eq htake ?_⟩
    rw [reqWriteHousing_eq hrole h1 h2 hv, if_neg (by omega), hpresent, hheldBy]
    rfl
  case written =>
    refine ⟨s.setHousing h.toNat (withPresence (if v.toNat = 2 then .present else .absent)),
      takeRequest_eq htake ?_, rfl, fun h' h1' h2' => ?_⟩
    · rw [reqWriteHousing_eq hrole h1 h2 hv]
      split
      · next hv' hpresent hheld =>
        obtain hv2 | habsent | hfree := hfree
        · rw [if_pos hv2] at hv'
          cases hv'
        · rw [habsent] at hpresent
          cases hpresent
        · rw [heldBy_eq_none hfree] at hheld
          cases hheld
      · rfl
    · rw [State.housing_setHousing _ _ _ _ h1' h2' h1]
      by_cases hh : h' = h.toNat
      · rw [if_pos hh.symm, if_neg (not_not.mpr hh), withPresence_eq]
      · rw [if_neg (Ne.symm hh), if_pos hh]
  case busy => exact reqRouteOpen_busy hrole hpair (hbusy.imp pairBusy_iff.mpr concerned_iff.mpr)
  case opened =>
    intro n
    have hbusy : s.pairBusy p = false := by
      rw [Bool.eq_false_iff, ne_eq, pairBusy_iff]
      rintro ⟨j, hj, hp, hstate⟩
      exact hstate (hjobs j hj hp)
    have hconcerned : s.concerned p = false := by
      rw [Bool.eq_false_iff, ne_eq, concerned_iff]
      rintro ⟨r, hr, hp⟩
      exact hp.elim (hrecords r hr).1 (hrecords r hr).2
    obtain ⟨moved, hreq⟩ := reqRouteOpen_accepted (o := o) (chip := chip) (drive := drive) (quietBase := quietBase)
      hrole hpair hbusy hconcerned
    rw [routeUse_eq] at hreq
    refine ⟨_, _, takeRequest_eq htake hreq, rfl, rfl, fun q => ?_, fun q k => ?_, fun q => ?_⟩
    · refine (State.pair_setPair s p q _).trans ?_
      by_cases hq : q = p
      · rw [if_pos hq.symm, if_pos hq, hq]
      · rw [if_neg (Ne.symm hq), if_neg hq]
    · exact sigAt_emptySignatures _ p q k
    · refine (State.patrols_setPatrol _ p q _).trans ?_
      by_cases hq : q = p
      · rw [if_pos hq.symm, if_pos hq, hq]
        rfl
      · rw [if_neg (Ne.symm hq), if_neg hq]
        rfl

end Sys2Proof.Machine
end

section
/-! ROUTE_ENTRIES and ROUTE_CLOSE. Settles O38. -/

namespace Sys2Proof.Machine

/-! ### ROUTE_ENTRIES (R10) -/

theorem badEntry_eq_none {entries : List (Byte × Half)}
    (h : ∀ e ∈ entries, 1 ≤ e.1.toNat ∧ e.1.toNat ≤ 192) : badEntry entries = none := by
  refine List.findIdx?_eq_none_iff.mpr fun e he => ?_
  rw [housingNumber_of_le (h e he).1 (h e he).2]
  rfl

/-- The lags written are those given, but for those that lie past the last chip. -/
theorem entriesUsed_eq (L first : Nat) (entries : List (Byte × Half)) : entriesUsed L first entries =
    (entries.take (193 - first)).map (fun e => ⟨e.1.toNat, min e.2.toNat (L - 1)⟩) := by
  simp only [entriesUsed, clamp_zero]

theorem length_writeEntries {first : Nat} {used route : List RouteEntry} (h : first - 1 ≤ route.length) :
    (writeEntries first used route).length = max route.length (first - 1 + used.length) := by
  simp only [writeEntries, List.length_append, List.length_take, List.length_drop]
  omega

theorem getElem?_writeEntries {first : Nat} {used route : List RouteEntry} (h : first - 1 ≤ route.length)
    (i : Nat) : (writeEntries first used route)[i]? =
      if first - 1 ≤ i ∧ i < first - 1 + used.length then used[i - (first - 1)]? else route[i]? := by
  have hlength : (route.take (first - 1)).length = first - 1 := List.length_take_of_le h
  rw [writeEntries, List.append_assoc]
  by_cases hbelow : i < first - 1
  · rw [if_neg (by omega), List.getElem?_append_left (by omega), List.getElem?_take_of_lt hbelow]
  · rw [List.getElem?_append_right (by omega), hlength]
    by_cases hin : i < first - 1 + used.length
    · rw [if_pos (by omega), List.getElem?_append_left (by omega)]
    · rw [if_neg (by omega), List.getElem?_append_right (by omega), List.getElem?_drop]
      congr 1
      omega

theorem reqRouteEntries_eq {port : Port} {b first : Byte} {p : PairNo} {s : State}
    (hrole : (s.port port).role = .station) (hpair : b.toNat = p.val) (hedit : (s.pair p).state = .edit)
    (h1 : 1 ≤ first.toNat) (hn : first.toNat ≤ (s.pair p).n + 1) {entries : List (Byte × Half)}
    (hl1 : 1 ≤ entries.length) (hl48 : entries.length ≤ 48)
    (hgood : ∀ e ∈ entries, 1 ≤ e.1.toNat ∧ e.1.toNat ≤ 192) :
    let used := entriesUsed (seqLength (s.pair p).profile.order) first.toNat entries
    let route := writeEntries first.toNat used (s.pair p).route
    ∃ moved copy, reqRouteEntries port b first entries s =
      (s.setPair p (fun r => { r with route := route }), reply .ok moved (u8 route.length) copy) := by
  have hlength : ¬ (entries.length = 0 ∨ 48 < entries.length) := by omega
  have hfirst : ¬ (first.toNat < 1 ∨ (s.pair p).n + 1 < first.toNat) := by omega
  simp only [reqRouteEntries, if_neg hlength, stationOnly_of_station hrole, withPair_of_toNat hpair, hedit,
    if_neg hfirst, badEntry_eq_none hgood]
  exact ⟨_, _, rfl⟩

/-! ### Validation names the first fault (R11) -/

/-- The tests of the entry at place `i` of a route, after the entries below it. -/
def entryFault (present : Nat → Bool) (route : List RouteEntry) (i : Nat) (e : RouteEntry) : Option RouteFailure :=
  entryFailure present (route.take i) e

theorem positionFailure_cons (present : Nat → Bool) (below : List RouteEntry) (e : RouteEntry)
    (rest : List RouteEntry) : positionFailure present below (e :: rest) =
      match entryFault present (below ++ e :: rest) below.length e with
      | some f => some (f, below.length + 1)
      | none => positionFailure present (below ++ [e]) rest := by
  simp only [positionFailure, entryFault, List.take_left] <;> rfl

/-- The first entry that fails is the one reported. -/
theorem positionFailure_of_first {present : Nat → Bool} {f : RouteFailure} (rest : List RouteEntry) :
    ∀ (below : List RouteEntry) {j : Nat} {e : RouteEntry}, rest[j]? = some e →
      (∀ i < j, ∀ d, rest[i]? = some d → entryFault present (below ++ rest) (below.length + i) d = none) →
      entryFault present (below ++ rest) (below.length + j) e = some f →
      positionFailure present below rest = some (f, below.length + j + 1) := by
  induction rest with
  | nil => intro below j e he; cases he
  | cons d rest ih =>
    intro below j e he hbelow hfault
    rw [positionFailure_cons]
    cases j with
    | zero =>
      cases he
      have hnow : entryFault present (below ++ d :: rest) below.length d = some f := hfault
      rw [hnow]
    | succ j =>
      have hnow : entryFault present (below ++ d :: rest) below.length d = none :=
        hbelow 0 (Nat.succ_pos j) d rfl
      have hlength : ∀ i, (below ++ [d]).length + i = below.length + (i + 1) := fun i => by
        rw [List.length_append, List.length_singleton]
        omega
      have hlist : below ++ d :: rest = (below ++ [d]) ++ rest := by simp
      rw [hlist] at hbelow hfault
      have hrec := ih (below ++ [d]) (j := j) he
        (fun i hi d' hd' => by rw [hlength]; exact hbelow (i + 1) (by omega) d' hd')
        (by rw [hlength]; exact hfault)
      rw [hnow]
      exact hrec.trans (by rw [hlength])

theorem positionFailure_of_none {present : Nat → Bool} (rest : List RouteEntry) :
    ∀ (below : List RouteEntry),
      (∀ i d, rest[i]? = some d → entryFault present (below ++ rest) (below.length + i) d = none) →
      positionFailure present below rest = none := by
  induction rest with
  | nil => exact fun _ _ => rfl
  | cons d rest ih =>
    intro below hnone
    have hnow : entryFault present (below ++ d :: rest) below.length d = none := hnone 0 d rfl
    have hlist : below ++ d :: rest = (below ++ [d]) ++ rest := by simp
    rw [hlist] at hnone
    rw [positionFailure_cons, hnow]
    refine ih (below ++ [d]) fun i d' hd' => ?_
    have hlength : (below ++ [d]).length + i = below.length + (i + 1) := by
      rw [List.length_append, List.length_singleton]
      omega
    rw [hlength]
    exact hnone (i + 1) d' hd'

/-- The code of the first test that the entry at position `k` fails, 0 where it passes. -/
theorem entryFault_code {present : Nat → Bool} {route : List RouteEntry} {k : Nat} {e : RouteEntry}
    (hk : 1 ≤ k) (he : route[k - 1]? = some e) :
    ((entryFault present route (k - 1) e).map routeFailureCode).getD 0 =
      if present e.housing = false then 2
      else if (route.take (k - 1)).any (fun d => d.housing = e.housing) then 3
      else if 2 ≤ k ∧ (route[k - 2]?).any (fun d => e.lag ≤ d.lag) then 4 else 0 := by
  obtain ⟨hlt, -⟩ := List.getElem?_eq_some_iff.mp he
  have hlast : (route.take (k - 1)).getLast? = if 2 ≤ k then route[k - 2]? else none := by
    rw [List.getLast?_eq_getElem?, List.length_take_of_le hlt.le]
    split
    · rw [List.getElem?_take_of_lt (by omega), Nat.sub_sub]
    · rw [show k - 1 = 0 by omega]
      rfl
  unfold entryFault entryFailure
  rw [hlast]
  cases present e.housing with
  | false => rfl
  | true =>
    simp only [Bool.not_true, Bool.false_eq_true, if_false, reduceCtorEq]
    split
    · rfl
    · by_cases h2 : 2 ≤ k
      · simp only [h2, if_true, true_and]
        cases route[k - 2]? with
        | none => rfl
        | some d =>
          by_cases hlag : e.lag ≤ d.lag
          · simp [hlag, routeFailureCode]
          · simp [hlag]
      · simp [h2]

theorem entryFault_eq_none {present : Nat → Bool} {route : List RouteEntry} {i : Nat} {e : RouteEntry}
    (h : ((entryFault present route i e).map routeFailureCode).getD 0 = 0) :
    entryFault present route i e = none := by
  cases hf : entryFault present route i e with
  | none => rfl
  | some f =>
    rw [hf] at h
    cases f <;> cases h

theorem validateRoute_of_empty (present : Nat → Bool) {pr : Pair} (h : pr.n = 0) :
    validateRoute present pr = some (.emptyRoute, 0) := by
  rw [validateRoute, if_pos h]

theorem validateRoute_of_position {present : Nat → Bool} {pr : Pair} {f : RouteFailure × Nat}
    (hn : pr.n ≠ 0) (h : positionFailure present [] pr.route = some f) :
    validateRoute present pr = some f := by
  rw [validateRoute, if_neg hn, h]

/-- Where every position passes, the quiet lags are tried. -/
theorem validateRoute_of_passing {present : Nat → Bool} {pr : Pair} {last : RouteEntry}
    (hlast : pr.route.getLast? = some last) (h : positionFailure present [] pr.route = none) :
    validateRoute present pr =
      if pr.quietBase ≤ last.lag + 3 then some (.quietOverlap, pr.n)
      else if seqLength pr.profile.order - 1 < pr.quietBase + 3 then some (.quietRange, pr.n)
      else none := by
  have hn : pr.n ≠ 0 := fun h0 => by
    rw [List.eq_nil_of_length_eq_zero h0] at hlast
    cases hlast
  rw [List.getLast?_eq_getElem?] at hlast
  rw [validateRoute, if_neg hn, h, lagAt_of_getElem? (Nat.one_le_iff_ne_zero.mpr hn) hlast]
  rfl

/-! ### ROUTE_CLOSE (R11, R12) -/

theorem reqRouteClose_eq {port : Port} {b : Byte} {p : PairNo} {s : State} (hrole : (s.port port).role = .station)
    (hpair : b.toNat = p.val) (hedit : (s.pair p).state = .edit) : reqRouteClose port b s =
      match validateRoute (housingPresent s) (s.pair p) with
      | some f => (s, plainResp .invalid (u8 (routeFailureCode f.1) ++ u8 f.2))
      | none => (closeRoute p s, plainResp .ok (u8 (s.pair p).n)) := by
  simp only [reqRouteClose, stationOnly_of_station hrole, withPair_of_toNat hpair, hedit]
  rfl

/-- Settles O38: the entries written, and ROUTE_CLOSE on a valid route and by the first test that fails. -/
theorem routeIsBuiltAndClosed : Obligations.RouteIsBuiltAndClosed := by
  intro port b p s htake hrole hpair hedit pr L
  refine ⟨fun first entries h1 hn hl1 hl48 hgood => ?entries, ?close⟩
  case entries =>
    intro written
    obtain ⟨moved, copy, hreq⟩ := reqRouteEntries_eq hrole hpair hedit h1 hn hl1 hl48 hgood
    rw [entriesUsed_eq] at hreq
    let route := writeEntries first.toNat written pr.route
    let t := s.setPair p (fun r => { r with route := route })
    have hroute : (t.pair p).route = route := by rw [State.pair_setPair, if_pos rfl]
    have hcount : (t.pair p).n = route.length := congrArg List.length hroute
    have hfirst : first.toNat - 1 ≤ pr.route.length := Nat.sub_le_iff_le_add.mpr hn
    refine ⟨_, t, takeRequest_eq htake hreq, rfl, ?_, ?_, ?_, fun i hi => ?_⟩
    · rw [hcount]
      exact reply_body_take .ok moved (u8 _) copy
    · rw [hroute]
    · rw [hcount]
      exact length_writeEntries hfirst
    · rw [hroute]
      exact getElem?_writeEntries hfirst i
  case close =>
    intro valid
    have hreq := reqRouteClose_eq hrole hpair hedit
    have hvalid : validateRoute (housingPresent s) pr = none ↔ valid := by
      rw [validateRoute_eq_none_iff]
      simp only [housingPresent, decide_eq_true_eq]
      rfl
    have hrefused : ∀ {f : RouteFailure × Nat}, validateRoute (housingPresent s) pr = some f →
        exec (.routeClose port b) s = .next (holdResponse port (plainResp .invalid
          [BitVec.ofNat 8 (routeFailureCode f.1), BitVec.ofNat 8 f.2]) s) := fun h =>
      takeRequest_eq htake (hreq.trans (by rw [h]; rfl))
    refine ⟨fun h => takeRequest_eq htake (hreq.trans ?_), ?_⟩
    · rw [hvalid.mpr h]
      rfl
    intro refused failing passes
    have hcode : ∀ {k e}, 1 ≤ k → pr.route[k - 1]? = some e →
        ((entryFault (housingPresent s) pr.route (k - 1) e).map routeFailureCode).getD 0 = failing k e := by
      intro k e hk he
      rw [entryFault_code hk he]
      simp only [housingPresent, decide_eq_false_iff_not]
      rfl
    have hpass : ∀ {k}, 1 ≤ k → passes k → ∀ e, pr.route[k - 1]? = some e →
        entryFault (housingPresent s) pr.route (k - 1) e = none := fun hk hpasses e he =>
      entryFault_eq_none ((hcode hk he).trans (hpasses e he))
    refine ⟨fun h => ?_, fun h => hrefused (validateRoute_of_empty _ h), fun k e hk he hbelow hfails => ?_,
      fun last hlast hall => ?_⟩
    · obtain ⟨f, hf⟩ := Option.ne_none_iff_exists'.mp (mt hvalid.mp h)
      exact ⟨_, _, hrefused hf⟩
    · obtain ⟨hlt, -⟩ := List.getElem?_eq_some_iff.mp he
      obtain ⟨f, hf⟩ : ∃ f, entryFault (housingPresent s) pr.route (k - 1) e = some f := by
        refine Option.ne_none_iff_exists'.mp fun hnone => hfails ?_
        rw [← hcode hk he, hnone]
        rfl
      have hposition : positionFailure (housingPresent s) [] pr.route = some (f, k) := by
        refine (positionFailure_of_first pr.route [] he (fun i hi d hd => ?_)
          (by rw [List.length_nil, Nat.zero_add]; exact hf)).trans ?_
        · rw [List.length_nil, Nat.zero_add]
          exact hpass (k := i + 1) (by omega) (hbelow (i + 1) (by omega) (by omega)) d hd
        · rw [List.length_nil, Nat.zero_add, Nat.sub_add_cancel hk]
      have hfcode : routeFailureCode f = failing k e := by
        rw [← hcode hk he, hf]
        rfl
      rw [← hfcode]
      exact hrefused (validateRoute_of_position (by unfold Pair.n; omega) hposition)
    · have hnone : positionFailure (housingPresent s) [] pr.route = none := by
        refine positionFailure_of_none pr.route [] fun i d hd => ?_
        obtain ⟨hlt, -⟩ := List.getElem?_eq_some_iff.mp hd
        rw [List.length_nil, Nat.zero_add]
        exact hpass (k := i + 1) (by omega) (hall (i + 1) (by omega) hlt) d hd
      have hquiet := validateRoute_of_passing hlast hnone
      refine ⟨fun hover => hrefused (hquiet.trans (if_pos hover)), fun hover hrange =>
        hrefused (hquiet.trans ((if_neg (by omega)).trans (if_pos ?_)))⟩
      have hL : seqLength pr.profile.order = L := rfl
      omega

end Sys2Proof.Machine
end

section
/-! ASSIGN. Settles O39. -/

namespace Sys2Proof.Machine

/-! ### Whose consent lapses (R14, R165) -/

theorem sharedEffect_iff {op : Opcode} : sharedEffect op = true ↔ op = .selectPump ∨ op = .trimGain := by
  cases op <;> decide

theorem consentCovers_eq_false {o : Option Port} {j : Job} : consentCovers o j = false ↔
    ∃ new, o = some new ∧ j.requester ≠ .port new ∧
      ∀ c, j.cmd = some c → ¬ (c.basis = .given ∧ c.askedPort = some new) := by
  unfold consentCovers
  cases o with
  | none => simp
  | some new => cases j.cmd <;> simp

theorem inExchange_iff {s : State} {n : Nat} : inExchange s n = true ↔
    s.channel.exchange.phase ≠ .idle ∧ s.channel.exchange.job = n := by
  simp [inExchange]

theorem sharedWordSending_iff {s : State} {p : PairNo} : sharedWordSending s p = true ↔
    s.channel.exchange.phase = .sending ∧ s.channel.exchange.word ≠ .nopPrefix ∧
      ∃ j ∈ s.sched.jobs, j.number = s.channel.exchange.job ∧ j.pair = some (partner p) ∧
        ∃ c, j.cmd = some c ∧ sharedEffect c.opcode = true := by
  simp only [sharedWordSending, Bool.and_eq_true, decide_eq_true_eq, List.any_eq_true, and_assoc, ne_eq]
  refine and_congr_right fun _ => and_congr_right fun _ => exists_congr fun j => and_congr_right fun _ =>
    and_congr_right fun _ => and_congr_right fun _ => ?_
  cases j.cmd <;> simp

/-! ### What the lapses leave -/

/-- Only the jobs, the result lists and the ports differ. -/
def EndsOnly (s t : State) : Prop :=
  t = { s with
    sched := { s.sched with jobs := t.sched.jobs, results := t.sched.results }
    ports := t.ports }

theorem EndsOnly.trans {s t u : State} (h : EndsOnly s t) (h' : EndsOnly t u) : EndsOnly s u := by
  rw [EndsOnly] at h h'
  rw [h', h]
  rfl

theorem endJob_endsOnly (n : Nat) (o : JobOutcome) (s : State) : EndsOnly s (endJob n o s) := by
  cases hjob : s.job? n with
  | none => rw [endJob_of_none o hjob]; rfl
  | some j =>
    cases hr : j.requester with
    | internal => rw [endJob_of_internal o hjob hr]; rfl
    | port p => rw [endJob_of_port o hjob hr]; rfl

theorem lapseJob_endsOnly (j : Job) (s : State) : EndsOnly s (lapseJob j s) := by
  unfold lapseJob
  dsimp only
  split
  · rfl
  · exact EndsOnly.trans (t := s.setCmd j.number _) rfl (endJob_endsOnly ..)

theorem lapsedState_endsOnly (p : PairNo) (o : Option Port) (s : State) :
    EndsOnly (setOwner p o s) (lapsedState p o s) :=
  List.foldlRecOn (motive := EndsOnly (setOwner p o s)) _ _ rfl fun _ ht j _ => ht.trans (lapseJob_endsOnly j _)

/-- A job of this number stands in a slot, and all of this number have this requester. -/
def NumberHeld (k : Job) (s : State) : Prop :=
  (∃ j ∈ s.sched.jobs, j.number = k.number) ∧ ∀ j ∈ s.sched.jobs, j.number = k.number → j.requester = k.requester

theorem NumberHeld.job? {k : Job} {s : State} (h : NumberHeld k s) :
    ∃ j, s.job? k.number = some j ∧ j.requester = k.requester := by
  obtain ⟨⟨i, hi, hn⟩, hall⟩ := h
  cases hfound : s.job? k.number with
  | none => exact absurd hn (by simpa using List.find?_eq_none.mp hfound i hi)
  | some j => exact ⟨j, rfl, hall j (job?_mem hfound).1 (job?_mem hfound).2⟩

theorem NumberHeld.map {k : Job} {s t : State} {f : Job → Job} (h : NumberHeld k s)
    (hjobs : t.sched.jobs = s.sched.jobs.map f)
    (hf : ∀ j, (f j).number = j.number ∧ (f j).requester = j.requester) : NumberHeld k t := by
  obtain ⟨⟨i, hi, hn⟩, hall⟩ := h
  refine ⟨⟨f i, hjobs ▸ List.mem_map_of_mem hi, (hf i).1.trans hn⟩, fun j hj hjn => ?_⟩
  rw [hjobs] at hj
  obtain ⟨j', hj', rfl⟩ := List.mem_map.mp hj
  exact (hf j').2.trans (hall j' hj' ((hf j').1.symm.trans hjn))

theorem lapsed_number_requester (k : Job) (b : Bool) (i : Job) :
    (if i.number = k.number then i.lapsed b else i).number = i.number ∧
      (if i.number = k.number then i.lapsed b else i).requester = i.requester := by
  split
  · exact ⟨Job.lapsed_number .., Job.lapsed_requester ..⟩
  · exact ⟨rfl, rfl⟩

/-- A port after a JOB_ENDED notice. -/
def PortState.toldOfEnd (t : PortState) : PortState := { t with pendingSet := t.pendingSet ||| 0x001#12 }

theorem PortState.toldOfEnd_toldOfEnd (t : PortState) : t.toldOfEnd.toldOfEnd = t.toldOfEnd := by
  simp [PortState.toldOfEnd, BitVec.or_assoc]

/-- One lapse tells the requester of a job that it ends, and no other port. -/
theorem lapseJob_port {k : Job} {s : State} {r : Port} (hheld : NumberHeld k s) (hr : k.requester = .port r)
    (q : Port) : (lapseJob k s).port q =
      if inExchange s k.number = false ∧ r = q then (s.port q).toldOfEnd else s.port q := by
  have hmid : NumberHeld k (s.setCmd k.number (fun c => { c with basis := .lapsed })) :=
    hheld.map rfl fun j => by split <;> exact ⟨rfl, rfl⟩
  obtain ⟨j, hjob, hjr⟩ := hmid.job?
  rw [hr] at hjr
  have hin : inExchange (s.setCmd k.number (fun c => { c with basis := .lapsed })) k.number
      = inExchange s k.number := rfl
  unfold lapseJob
  dsimp only
  rw [hin]
  cases inExchange s k.number with
  | true => rfl
  | false =>
    rw [if_neg nofun]
    by_cases hq : r = q
    · subst hq
      rw [if_pos ⟨rfl, rfl⟩, port_endJob_self .declined hjob hjr]
      rfl
    · rw [if_neg (fun h => hq h.2), port_endJob_ne .declined hjob hjr (Ne.symm hq)]
      rfl

theorem lapseJob_results {k : Job} {s : State} {r : Port} (hheld : NumberHeld k s) (hr : k.requester = .port r)
    {q : Port} (hq : inExchange s k.number = true ∨ r ≠ q) :
    (lapseJob k s).sched.results[q] = s.sched.results[q] := by
  have hmid : NumberHeld k (s.setCmd k.number (fun c => { c with basis := .lapsed })) :=
    hheld.map rfl fun j => by split <;> exact ⟨rfl, rfl⟩
  obtain ⟨j, hjob, hjr⟩ := hmid.job?
  rw [hr] at hjr
  have hin : inExchange (s.setCmd k.number (fun c => { c with basis := .lapsed })) k.number
      = inExchange s k.number := rfl
  unfold lapseJob
  dsimp only
  rw [hin]
  obtain hrun | hne := hq
  · rw [if_pos hrun]
    rfl
  · split
    · rfl
    · rw [results_endJob .declined hjob hjr, if_neg hne]
      rfl

/-- The ports and the lists after several lapses: a port is told where one of its jobs ends. -/
theorem foldl_lapseJob_port (q : Port) (l : List Job) : ∀ s : State,
    (∀ k ∈ l, NumberHeld k s ∧ ∃ r, k.requester = .port r) →
    ((∃ k ∈ l, inExchange s k.number = false ∧ k.requester = .port q) →
      (l.foldl (fun s j => lapseJob j s) s).port q = (s.port q).toldOfEnd) ∧
    ((∀ k ∈ l, inExchange s k.number = true ∨ k.requester ≠ .port q) →
      (l.foldl (fun s j => lapseJob j s) s).port q = s.port q ∧
      (l.foldl (fun s j => lapseJob j s) s).sched.results[q] = s.sched.results[q]) := by
  induction l with
  | nil => exact fun s _ => ⟨fun ⟨_, hk, _⟩ => absurd hk List.not_mem_nil, fun _ => ⟨rfl, rfl⟩⟩
  | cons k l ih =>
    intro s hl
    obtain ⟨hheld, r, hr⟩ := hl k List.mem_cons_self
    have hjobs := lapseJob_jobs (k := k) (s := s) fun j hj hn => by
      rw [hheld.2 j hj hn, hr]
      nofun
    have hin : ∀ n, inExchange (lapseJob k s) n = inExchange s n := fun n => by
      rw [inExchange, inExchange, lapseJob_channel]
    have hport := lapseJob_port hheld hr q
    obtain ⟨htold, hsilent⟩ := ih (lapseJob k s) fun k' hk' =>
      ⟨(hl k' (List.mem_cons_of_mem _ hk')).1.map hjobs (lapsed_number_requester k _),
        (hl k' (List.mem_cons_of_mem _ hk')).2⟩
    simp only [hin] at htold hsilent
    have hsame : r = q ↔ k.requester = .port q := by rw [hr, Requester.port.injEq]
    rw [List.foldl_cons]
    refine ⟨fun ⟨k', hk', hend, hreq⟩ => ?_, fun hnone => ?_⟩
    · by_cases hrest : ∃ k ∈ l, inExchange s k.number = false ∧ k.requester = .port q
      · rw [htold hrest, hport]
        split
        · exact PortState.toldOfEnd_toldOfEnd _
        · rfl
      · obtain rfl : k' = k := by
          refine (List.mem_cons.mp hk').resolve_right fun hk' => hrest ⟨k', hk', hend, hreq⟩
        have hquiet : ∀ k ∈ l, inExchange s k.number = true ∨ k.requester ≠ .port q := fun k hk => by
          by_contra hboth
          obtain ⟨hend, hreq⟩ := not_or.mp hboth
          exact hrest ⟨k, hk, Bool.eq_false_iff.mpr hend, not_not.mp hreq⟩
        rw [(hsilent hquiet).1, hport, if_pos ⟨hend, hsame.mpr hreq⟩]
    · have hk := hnone k List.mem_cons_self
      obtain ⟨hp, hres⟩ := hsilent fun k' hk' => hnone k' (List.mem_cons_of_mem _ hk')
      rw [hp, hres, hport, lapseJob_results hheld hr (hk.imp_right (mt hsame.mp)), if_neg]
      · exact ⟨rfl, rfl⟩
      · rintro ⟨hend, hreq⟩
        obtain h | h := hk
        · rw [hend] at h
          cases h
        · exact h (hsame.mp hreq)

/-! ### The request (R14) -/

theorem ownerField_of_port (o : Option Port) : ownerField (o.map (fun x => BitVec.ofNat 8 x.val)) = some o := by
  cases o with
  | none => rfl
  | some x => revert x; decide

section Assign

variable {port : Port} {b : Byte} {p : PairNo} {o : Option Port} {s : State}

theorem reqAssign_eq (hrole : (s.port port).role = .station) (hpair : b.toNat = p.val) :
    reqAssign port b (o.map (fun x => BitVec.ofNat 8 x.val)) s =
      if s.pairBusy p = true ∨ s.concerned p = true ∨ sharedWordSending s p = true then
        (s, plainResp .busy [])
      else if (s.pair p).owner = o then (s, plainResp .ok [])
      else (arbitrate (lapsedState p o s), plainResp .ok []) := by
  simp only [reqAssign, stationOnly_of_station hrole, withPair_of_toNat hpair, ownerField_of_port,
    Bool.or_eq_true, or_assoc]
  rfl

end Assign

/-- Settles O39: ASSIGN BUSY, idle, or writing the owner and lapsing the consents it withdraws. -/
theorem assignWritesOwnerAndLapsesConsent : Obligations.AssignWritesOwnerAndLapsesConsent := by
  intro port b p o s htake hrole hpair field x shared busy lapses exchanging
  have hreq := reqAssign_eq (o := o) hrole hpair
  have hshared : ∀ {c : CommandFields}, sharedEffect c.opcode = true ↔ shared c := sharedEffect_iff
  have hbusy : (s.pairBusy p = true ∨ s.concerned p = true ∨ sharedWordSending s p = true) ↔ busy := by
    rw [pairBusy_iff, concerned_iff, sharedWordSending_iff]
    simp only [hshared]
    rfl
  have hlapses : ∀ j ∈ s.sched.jobs, j ∈ lapsing p o s ↔ lapses j := fun j hj => by
    rw [mem_lapsing, and_iff_right hj, consentBearing_iff, consentCovers_eq_false]
    simp only [and_assoc, hshared]
    rfl
  have hexchanging : ∀ j : Job, inExchange s j.number = true ↔ exchanging j := fun j => inExchange_iff
  refine ⟨fun h => takeRequest_eq htake (hreq.trans (if_pos (hbusy.mpr h))), fun hnot =>
    ⟨fun hsame => takeRequest_eq htake (hreq.trans ?same), fun hne hlaw => ?written⟩⟩
  case same => rw [if_neg (mt hbusy.mp hnot), if_pos hsame.symm]
  case written =>
    have hjobs := lapsedState_jobs hlaw p o
    have hget : ∀ {i : Nat} {j : Job}, s.sched.jobs[i]? = some j → (lapsedState p o s).sched.jobs[i]? =
        some (if j ∈ lapsing p o s then j.lapsed (inExchange s j.number) else j) := fun hi => by
      rw [hjobs, List.getElem?_map, hi, Option.map_some]
    refine ⟨lapsedState p o s, takeRequest_eq htake (hreq.trans ?_), lapsedState_endsOnly p o s,
      by rw [hjobs, List.length_map], fun i j hi => ⟨fun hj => ?_, fun c hj hc => ⟨fun hrun => ?_, fun hrun => ?_⟩⟩,
      fun q => ?ports⟩
    · rw [if_neg (mt hbusy.mp hnot), if_neg (Ne.symm hne)]
    · rw [hget hi, if_neg (mt (hlapses j (List.mem_of_getElem? hi)).mp hj)]
    · rw [hget hi, if_pos ((hlapses j (List.mem_of_getElem? hi)).mpr hj), (hexchanging j).mpr hrun]
      simp only [Job.lapsed, hc, if_true, Option.map_some]
    · rw [hget hi, if_pos ((hlapses j (List.mem_of_getElem? hi)).mpr hj),
        Bool.eq_false_iff.mpr (mt (hexchanging j).mp hrun)]
      simp only [Job.lapsed, hc, if_false, Option.map_some, Job.endedWith, Bool.false_eq_true]
    case ports =>
      have hheld : ∀ k ∈ lapsing p o s, NumberHeld k (setOwner p o s) ∧ ∃ r, k.requester = .port r := fun k hk => by
        obtain ⟨hks, hbearing, -⟩ := mem_lapsing.mp hk
        obtain ⟨hkind, -⟩ := consentBearing_iff.mp hbearing
        have hlawk := (hlaw.2.2.1 k hks).2
        rw [hkind] at hlawk
        refine ⟨⟨⟨k, hks, rfl⟩, fun j hj hn => by rw [hlaw.eq_of_number hj hks hn]⟩, ?_⟩
        cases hr : k.requester with
        | internal => exact absurd hr hlawk
        | port r => exact ⟨r, rfl⟩
      obtain ⟨htold, hsilent⟩ := foldl_lapseJob_port q (lapsing p o s) (setOwner p o s) hheld
      refine ⟨fun ⟨j, hj, hl, hrun, hr⟩ => htold ⟨j, (hlapses j hj).mpr hl, ?_, hr⟩, fun hnone => hsilent fun k hk => ?_⟩
      · exact Bool.eq_false_iff.mpr (mt (hexchanging j).mp hrun)
      · have hks := (mem_lapsing.mp hk).1
        exact (hnone k hks ((hlapses k hks).mp hk)).imp_left (hexchanging k).mpr

end Sys2Proof.Machine
end

section
/-! The dark offset and the synthetic definition. Settles O40 and O41. -/

namespace Sys2Proof.Machine

/-! ### SET_DARK_MODE (R47) -/

theorem reqSetDarkModeManual_eq {port : Port} {v : Half} {s : State} (hrole : (s.port port).role = .station) :
    reqSetDarkModeManual port v s =
      ({ s with intake := { s.intake with offset := min v.toNat 16383, darkState := .manual } },
        reply .ok (decide (min v.toNat 16383 ≠ v.toNat))
          (darkBody { s.intake with offset := min v.toNat 16383, darkState := .manual })
          (u8 1 ++ u16 (min v.toNat 16383))) := by
  rw [reqSetDarkModeManual, stationOnly_of_station hrole]
  simp only [clamp_zero]
  rfl

theorem releaseOffset_eq (i : Intake) : releaseOffset i = { i with
    darkState := if i.darkState ≠ .manual then i.darkState
      else if i.everCal then .calibrated else .uncalibrated } := by
  obtain ⟨_, darkState, _, _, _, _⟩ := i
  cases darkState <;> rfl

/-! ### The decision of a calibration (R44, R45) -/

/-- What a calibration leaves before its job ends: the offset decided, the result told, DARK left. -/
def calibrationDecided (j : Job) (a : DarkAcc) (s : State) : State :=
  let r := decideDark s.intake a
  let i := intakeAfter r a s.intake
  let t := if r = .rejected then rejectDark j (setIntake i s) else setIntake i s
  giveOrder .endDark (t.setJob j.number (fun j => { j with dark := some (darkReport r a i) }))

theorem decideCalibration_eq (j : Job) (a : DarkAcc) (s : State) :
    decideCalibration j a s = arbitrate (endJob j.number .complete (calibrationDecided j a s)) := rfl

theorem giveOrder_endDark_of_dark {s : State} (h : s.seq.state = .dark) : giveOrder .endDark s = enterRest s := by
  simp only [giveOrder, h]

theorem samplingDone_eq_some {s : State} {a : DarkAcc} (hstate : s.seq.state = .dark)
    (hwork : s.seq.work = .sampling) (hacc : s.intake.acc = some a) (hcount : a.count = 2 ^ s.intake.dd) :
    samplingDone s = some a := by
  rw [samplingDone, if_pos ⟨hstate, hwork⟩, hacc, Option.bind_some, if_pos hcount]

theorem decideDark_eq (i : Intake) (a : DarkAcc) : decideDark i a =
    if i.darkState = .manual then .held else if 2 ^ (i.dd - 6) < a.clips then .rejected else .accepted := rfl

/-- Only an accepted calibration moves the offset. -/
theorem intakeAfter_decideDark (i : Intake) (a : DarkAcc) : intakeAfter (decideDark i a) a i =
    if i.darkState = .manual ∨ 2 ^ (i.dd - 6) < a.clips then i
    else { i with
      offset := (a.sum + 2 ^ i.dd / 2) / 2 ^ i.dd
      darkState := .calibrated
      everCal := true } := by
  rw [decideDark_eq]
  by_cases hmanual : i.darkState = .manual
  · rw [if_pos hmanual, if_pos (.inl hmanual)]
    rfl
  · by_cases hclipped : 2 ^ (i.dd - 6) < a.clips
    · rw [if_neg hmanual, if_pos hclipped, if_pos (.inr hclipped)]
      rfl
    · rw [if_neg hmanual, if_neg hclipped, if_neg (not_or.mpr ⟨hmanual, hclipped⟩)]
      rfl

theorem darkReport_decideDark (i i' : Intake) (a : DarkAcc) : darkReport (decideDark i a) a i' =
    { result := if i.darkState = .manual then .held
        else if 2 ^ (i.dd - 6) < a.clips then .rejected else .accepted
      offset := i'.offset
      clips := if i.darkState = .manual then none else some a.clips } := by
  rw [decideDark_eq]
  by_cases hmanual : i.darkState = .manual
  · simp only [if_pos hmanual, darkReport]
  · by_cases hclipped : 2 ^ (i.dd - 6) < a.clips
    · simp only [if_neg hmanual, if_pos hclipped, darkReport]
    · simp only [if_neg hmanual, if_neg hclipped, darkReport]

theorem decideDark_eq_rejected {i : Intake} {a : DarkAcc} : decideDark i a = .rejected ↔
    i.darkState ≠ .manual ∧ 2 ^ (i.dd - 6) < a.clips := by
  rw [decideDark_eq]
  by_cases hmanual : i.darkState = .manual
  · simp [hmanual]
  · by_cases hclipped : 2 ^ (i.dd - 6) < a.clips <;> simp [hmanual, hclipped]

/-- The state after the decision, whether a rejection is told or not. -/
theorem calibrationDecided_eq {j : Job} {a : DarkAcc} {s : State} (hstate : s.seq.state = .dark) :
    ∃ t : State, calibrationDecided j a s = enterRest (t.setJob j.number (fun k =>
        { k with dark := some (darkReport (decideDark s.intake a) a (intakeAfter (decideDark s.intake a) a s.intake)) })) ∧
      t.sched.jobs = s.sched.jobs ∧ t.seq = s.seq ∧
      t.intake = intakeAfter (decideDark s.intake a) a s.intake ∧ t.sig = s.sig ∧ t.findings = s.findings ∧
      t.lineMap = s.lineMap ∧ t.corr = s.corr ∧ t.channel = s.channel ∧
      (decideDark s.intake a = .rejected →
        t.port 0 = { s.port 0 with pendingSet := (s.port 0).pendingSet ||| 0x100#12 } ∧
        t.sched.faultLog = (logFault { kind := .darkRejected, time := s.lineTime, job := some j.number
                                       requester := some j.requester, pair := none } s).sched.faultLog) ∧
      (decideDark s.intake a ≠ .rejected → t.ports = s.ports ∧ t.sched.faultLog = s.sched.faultLog) := by
  by_cases hrejected : decideDark s.intake a = .rejected
  · refine ⟨rejectDark j (setIntake (intakeAfter (decideDark s.intake a) a s.intake) s), ?_, rfl, rfl, rfl, rfl, rfl,
      rfl, rfl, rfl, fun _ => ⟨port_raiseNotice_self .darkFailed 0 _, rfl⟩, fun h => absurd hrejected h⟩
    rw [calibrationDecided, if_pos hrejected]
    exact giveOrder_endDark_of_dark hstate
  · refine ⟨setIntake (intakeAfter (decideDark s.intake a) a s.intake) s, ?_, rfl, rfl, rfl, rfl, rfl, rfl, rfl, rfl,
      fun h => absurd h hrejected, fun _ => ⟨rfl, rfl⟩⟩
    rw [calibrationDecided, if_neg hrejected]
    exact giveOrder_endDark_of_dark hstate

theorem logFault_of_none {r : FaultRecord} {s : State} (h : s.sched.faultLog.record = none) :
    (logFault r s).sched.faultLog = { s.sched.faultLog with record := some r } := by
  simp only [logFault, h]

theorem logFault_of_ne_none {r : FaultRecord} {s : State} (h : s.sched.faultLog.record ≠ none) :
    (logFault r s).sched.faultLog = { s.sched.faultLog with overrun := true } := by
  obtain ⟨r', hr'⟩ := Option.ne_none_iff_exists'.mp h
  simp only [logFault, hr']

/-- Settles O40: SET_DARK_MODE in both forms, and the decision of a calibration. -/
theorem darkOffsetIsSetAndCalibrated : Obligations.DarkOffsetIsSetAndCalibrated := by
  refine ⟨fun port v s htake hrole => ⟨?manual, ?auto⟩, fun s a j hlaw hstate hwork hacc hcount hactive hkind => ?decided⟩
  case manual =>
    refine ⟨_, _, takeRequest_eq htake (reqSetDarkModeManual_eq hrole), rfl, rfl, ?_⟩
    exact decide_eq_true_iff.trans min_ne_self
  case auto =>
    refine ⟨darkBody (releaseOffset s.intake), takeRequest_eq htake ?_⟩
    rw [reqSetDarkModeAuto, stationOnly_of_station hrole, ← releaseOffset_eq]
    rfl
  case decided =>
    intro i clipped i'
    obtain ⟨t, ht, htjobs, htseq, htintake, htsig, htfindings, htmap, htcorr, htchannel, htold, hsilent⟩ :=
      calibrationDecided_eq (j := j) (a := a) hstate
    have hi' : intakeAfter (decideDark s.intake a) a s.intake = i' := intakeAfter_decideDark s.intake a
    have hfound : t.job? j.number = some j := by
      rw [State.job?, htjobs]
      exact hlaw.job?_eq (active?_mem hactive).1
    have hexec : exec .darkSamplingEnd s = .next (decideCalibration j a s) := by
      show Host.Outcome.next (darkEndState s) = _
      simp only [darkEndState, samplingDone_eq_some hstate hwork hacc hcount, hactive, hkind, if_true]
    refine ⟨calibrationDecided j a s, _, hexec.trans (by rw [decideCalibration_eq]), ?_, ?_,
      (congrArg (fun u : State => u.job? j.number) ht).trans (job?_setJob_self hfound fun _ => rfl), rfl,
      congrArg some ((darkReport_decideDark ..).trans (by rw [hi'])), ?_, ?_, ?_, ?_, ?_, ?_⟩
    · rw [ht, ← hi', ← htintake]
      rfl
    · rw [ht, ← htseq]
      rfl
    · rw [ht, ← htsig]
      rfl
    · rw [ht, ← htfindings]
      rfl
    · rw [ht, ← htmap]
      rfl
    · rw [ht, ← htcorr]
      rfl
    · rw [ht, ← htchannel]
      rfl
    · have hports : (calibrationDecided j a s).ports = t.ports := by rw [ht]; rfl
      have hlog : (calibrationDecided j a s).sched.faultLog = t.sched.faultLog := by rw [ht]; rfl
      by_cases hrejected : decideDark s.intake a = .rejected
      · rw [if_pos (decideDark_eq_rejected.mp hrejected), hlog]
        obtain ⟨hport, hfault⟩ := htold hrejected
        refine ⟨?_, fun hnone => ?_, fun hsome => ?_⟩
        · rw [State.port, hports]
          exact congrArg PortState.pendingSet hport
        · rw [hfault, logFault_of_none hnone]
        · rw [hfault, logFault_of_ne_none hsome]
      · rw [if_neg (mt decideDark_eq_rejected.mpr hrejected), hports, hlog]
        exact hsilent hrejected

/-! ### SYNTH_DEFINE (R182) -/

theorem modeByte_of_code {mode : Byte} {m : NoiseMode} (h : noiseModeCode m = mode.toNat) :
    modeByte mode = some m := by
  unfold modeByte
  cases m <;> simp [← h, noiseModeCode]

/-- The definition as used, in the terms of R182. -/
theorem synthUsed_eq (o : Byte) (quietBase dc noise seed : Half) (m : NoiseMode) (echoes : List (Half × Half)) :
    let n := max 11 (min o.toNat 15)
    synthUsed o quietBase dc noise seed m echoes =
      { order := n, quietBase := max 4 (min quietBase.toNat (2 ^ n - 5)), dc := min dc.toNat 16383
        noise := min noise.toNat 4095, seed := max 1 seed.toNat, mode := m
        echoes := echoes.map (fun e => ⟨min e.1.toNat (2 ^ n - 2), min e.2.toNat 8191⟩) } := by
  have hpow : 2 ^ 11 ≤ 2 ^ max 11 (min o.toNat 15) := Nat.pow_le_pow_right (by norm_num) (le_max_left _ _)
  have hseed : clamp 1 65535 seed.toNat = max 1 seed.toNat := by
    rw [clamp_eq_max_min (by norm_num), Nat.min_eq_left (by omega)]
  simp only [synthUsed, clamp_zero, clamp_eq_max_min (show 11 ≤ 15 by norm_num), hseed]
  rw [clamp_eq_max_min (by unfold seqLength; omega)]
  rfl

/-- No echo is named exactly where the lags rise. -/
theorem lagFailure_eq_none_iff : ∀ (i : Nat) (l : List SynthEcho), lagFailure i l = none ↔
    List.IsChain (fun a b : SynthEcho => a.lag < b.lag) l
  | _, [] => by simp [lagFailure]
  | _, [_] => by simp [lagFailure]
  | i, a :: b :: rest => by
    rw [lagFailure, List.isChain_cons_cons, ← lagFailure_eq_none_iff (i + 1) (b :: rest)]
    split
    · next h => simp [h]
    · next h => simp [Nat.not_le.mp h]

theorem le_of_getLast? {l : List Nat} (h : l.Pairwise (· < ·)) {last x : Nat} (hlast : l.getLast? = some last)
    (hx : x ∈ l) : x ≤ last := by
  obtain ⟨front, rfl⟩ := List.getLast?_eq_some_iff.mp hlast
  obtain ⟨-, -, hbelow⟩ := List.pairwise_append.mp h
  obtain hfront | hself := List.mem_append.mp hx
  · exact (hbelow x hfront last (List.mem_singleton_self _)).le
  · exact (List.mem_singleton.mp hself).le

theorem synthFailure_eq_none_iff {d : SynthDef} (hne : d.echoes ≠ []) : synthFailure d = none ↔
    (d.echoes.map SynthEcho.lag).Pairwise (· < ·) ∧ ∀ e ∈ d.echoes, e.lag + 3 < d.quietBase := by
  have hrise : lagFailure 0 d.echoes = none ↔ (d.echoes.map SynthEcho.lag).Pairwise (· < ·) := by
    rw [lagFailure_eq_none_iff, List.isChain_iff_pairwise, List.pairwise_map]
  unfold synthFailure
  cases hlags : lagFailure 0 d.echoes with
  | some i =>
    refine iff_of_false nofun fun h => ?_
    rw [hrise.mpr h.1] at hlags
    cases hlags
  | none =>
    have hsorted := hrise.mp hlags
    rw [and_iff_right hsorted]
    have hlast : d.echoes.getLast? = some (d.echoes.getLast hne) := List.getLast?_eq_getLast_of_ne_nil hne
    have hbelow : (∀ e ∈ d.echoes, e.lag + 3 < d.quietBase) ↔ (d.echoes.getLast hne).lag + 3 < d.quietBase := by
      refine ⟨fun h => h _ (List.getLast_mem hne), fun h e he => ?_⟩
      have hle := le_of_getLast? hsorted (List.getLast?_map.trans (congrArg _ hlast))
        (List.mem_map_of_mem (f := SynthEcho.lag) he)
      omega
    simp only [hlast, Option.map_some, Option.getD_some]
    rw [hbelow]
    split
    · next hover => exact iff_of_false nofun (Nat.not_lt.mpr hover)
    · next hover => exact iff_of_true rfl (Nat.not_le.mp hover)

theorem synthBusy_iff {s : State} : synthBusy s = true ↔ ∃ j ∈ s.sched.jobs, j.kind = .synth ∧ j.state ≠ .ended := by
  simp [synthBusy]

theorem reqSynthDefine_eq {port : Port} {o mode : Byte} {quietBase dc noise seed : Half} {m : NoiseMode}
    {echoes : List (Half × Half)} {s : State} (hrole : (s.port port).role = .station)
    (hmode : noiseModeCode m = mode.toNat) (h1 : 1 ≤ echoes.length) (h8 : echoes.length ≤ 8)
    {d : SynthDef} (hd : synthUsed o quietBase dc noise seed m echoes = d) :
    ∃ moved, reqSynthDefine port o quietBase dc noise seed mode echoes s =
      match synthFailure d with
      | some i => (s, plainResp .invalid (u8 i))
      | none =>
        if synthBusy s then (s, plainResp .busy [])
        else (holdDefinition d s, reply .ok moved (encodeSynth d) (encodeSynth d)) := by
  have hlength : ¬ (echoes.length = 0 ∨ 8 < echoes.length) := by omega
  simp only [reqSynthDefine, modeByte_of_code hmode, if_neg hlength, stationOnly_of_station hrole, hd]
  exact ⟨_, rfl⟩

/-- Settles O41: a definition held, BUSY, or INVALID. -/
theorem synthDefinitionIsHeld : Obligations.SynthDefinitionIsHeld := by
  intro port o mode quietBase dc noise seed m echoes s htake hrole hmode h1 h8 n d valid busy
  obtain ⟨moved, hreq⟩ := reqSynthDefine_eq (o := o) (quietBase := quietBase) (dc := dc) (noise := noise)
    (seed := seed) hrole hmode h1 h8 (d := d) (synthUsed_eq ..)
  have hne : d.echoes ≠ [] := by
    rw [ne_eq, List.map_eq_nil_iff]
    rintro rfl
    cases h1
  have hvalid : synthFailure d = none ↔ valid := synthFailure_eq_none_iff hne
  have hbusy : synthBusy s = true ↔ busy := synthBusy_iff
  refine ⟨fun hv hb => ⟨reply .ok moved (encodeSynth d) (encodeSynth d),
      takeRequest_eq htake (hreq.trans ?held), rfl⟩,
    fun hv hb => takeRequest_eq htake (hreq.trans ?busy), fun hv => ?invalid⟩
  case held => rw [hvalid.mpr hv]; exact if_neg (mt hbusy.mp hb)
  case busy => rw [hvalid.mpr hv]; exact if_pos (hbusy.mpr hb)
  case invalid =>
    obtain ⟨i, hi⟩ := Option.ne_none_iff_exists'.mp (mt hvalid.mp hv)
    exact ⟨BitVec.ofNat 8 i, takeRequest_eq htake (hreq.trans (by rw [hi]; rfl))⟩

end Sys2Proof.Machine
end

section
/-! The settle end. Settles O42. -/

namespace Sys2Proof.Machine

/-! ### The check at a settle end (R24) -/

section Settle

variable {fb : BitVec 5} {s : State}

theorem settleEndState_of_early (h : s.lineTime < s.seq.settleEnd) : settleEndState fb s = s := by
  rw [settleEndState, settleDue, if_neg (fun hdue => absurd hdue.2 (Nat.not_le.mpr h))]

theorem settleDue_of_due {o : Order} (hstate : s.seq.state = .settling) (hend : s.seq.settleEnd ≤ s.lineTime)
    (hgoal : s.seq.goal = some o) : settleDue s = some o := by
  rw [settleDue, if_pos ⟨hstate, hend⟩, hgoal]

theorem feedbackOk_iff {q : Sequencer} : feedbackOk q fb = true ↔ fb.toNat = q.position ∨ q.faultHold = true := by
  simp [feedbackOk]

theorem settleEndState_of_match {o : Order} (hdue : settleDue s = some o) (hok : feedbackOk s.seq fb = true) :
    settleEndState fb s = afterSettle (settleInto o s) := by
  simp only [settleEndState, hdue, hok, if_true]

/-- The driver adds nothing where no run was entered. -/
theorem afterSettle_of_not_filling (h : s.seq.state ≠ .filling) : afterSettle s = s := by
  unfold afterSettle
  split
  · split
    · rw [if_neg (by simp [h])]
    · rfl
  · rfl

theorem afterSettle_of_started
    (h : ∀ j c, s.active? = some j → j.cmd = some c → c.wordStarted = true) : afterSettle s = s := by
  unfold afterSettle
  split
  · next j hj =>
    split
    · next p c _ hc => rw [if_neg (by simp [h j c hj hc])]
    · rfl
  · rfl

/-- A run entered on the pair of a COMMAND job before its first word sends that word (R142). -/
theorem afterSettle_of_unstarted {j : Job} {c : CommandFields} {p : PairNo} {prof : Profile}
    (hactive : s.active? = some j) (hcmd : j.cmd = some c) (hpair : j.pair = some p)
    (hstarted : c.wordStarted = false) (hstate : s.seq.state = .filling)
    (hcurrent : s.seq.current = some (p, prof)) : afterSettle s = sendFirst j s := by
  simp only [afterSettle, hactive, hpair, hcmd, hstarted, runsOn, hstate, hcurrent]
  exact if_pos (by simp)

end Settle

/-! ### The first word (R142, R149) -/

theorem giveOrder_sendWord_of_filling {s : State} {p : PairNo} {prof : Profile}
    (hstate : s.seq.state = .filling) (hcurrent : s.seq.current = some (p, prof)) (prof' : Profile)
    (bits : List Bool) : giveOrder (.sendWord p prof' bits) s = enterTone p prof' bits s := by
  simp only [giveOrder, hstate, hcurrent, if_true]

/-- The word a toggle calls for first: the leading NOP where it is UNKNOWN (R149). -/
def firstWord (toggle : Option Bool) : CmdWord := if toggle = none then .nopPrefix else .word1

/-- The toggle bit of that word: the opposite of the one recorded (R149). -/
def firstBit (toggle : Option Bool) : Bool :=
  match toggle with
  | some b => !b
  | none => false

theorem sendFirst_eq {j : Job} {p : PairNo} {c : CommandFields} (hpair : j.pair = some p)
    (hcmd : j.cmd = some c) (s : State) :
    let toggle := s.toggleOf c.housing (pairGroup p)
    sendFirst j s = startWord j (firstWord toggle) (firstBit toggle) 1 s := by
  have hjob : jobToggle j s = s.toggleOf c.housing (pairGroup p) := by simp only [jobToggle, hpair, hcmd]
  rw [sendFirst, hjob]
  cases s.toggleOf c.housing (pairGroup p) <;> rfl

/-- The synthetic line as DARK_CHIPS leaves it: the noise register reloaded in FIXED mode (R184). -/
def SynthLine.restarted (y : SynthLine) : SynthLine := { y with
  noise := match y.defn with
    | some d => if d.mode = .fixed then BitVec.ofNat 16 d.seed else y.noise
    | none => y.noise }

theorem enterDark_darkChips (n : Nat) (s : State) : enterDark (.darkChips n) s = { s with
    seq := restartGen n { s.seq with
      state := .dark
      current := none
      goal := none
      running := false
      filled := false
      work := .chips }
    intake := { s.intake with acc := none }
    synth := s.synth.restarted } := by
  have hline : ∀ y : SynthLine, (match y.defn with
      | some d => if d.mode = .fixed then { y with noise := BitVec.ofNat 16 d.seed } else y
      | none => y) = y.restarted := by
    rintro ⟨defn, noise⟩
    cases defn with
    | none => rfl
    | some d => simp only [SynthLine.restarted]; split <;> rfl
  exact congrArg (fun y => { enterDark (.darkChips n) s with synth := y }) (hline s.synth)

/-- Settles O42: the state that each order leads to, and the first word of a COMMAND job. -/
theorem settleEntersOrderedState : Obligations.SettleEntersOrderedState := by
  intro fb s hstate
  refine ⟨fun hearly => congrArg Host.Outcome.next (settleEndState_of_early hearly), fun hend hfb => ?due⟩
  case due =>
    intro filling
    have hexec : ∀ {o}, s.seq.goal = some o → exec (.settleEnd fb) s = .next (afterSettle (settleInto o s)) :=
      fun hgoal => congrArg Host.Outcome.next
        (settleEndState_of_match (settleDue_of_due hstate hend hgoal) (feedbackOk_iff.mpr hfb))
    refine ⟨fun p prof hgoal => ⟨fun hstarted => ?run, fun j c hactive hcmd hpair hstarted => ?word⟩,
      fun hgoal => ?sample, fun p prof bits hgoal => ?send, fun n noise hgoal hnoise => ?chips, fun hgoal => ?rest⟩
    case run => exact (hexec hgoal).trans (by rw [afterSettle_of_started (s := settleInto (.runPair p prof) s) hstarted]; rfl)
    case word =>
      intro toggle word bit
      have hsend : afterSettle (settleInto (.runPair p prof) s) = startWord j word bit 1 (enterFilling p prof s) :=
        (afterSettle_of_unstarted (s := enterFilling p prof s) hactive hcmd hpair hstarted rfl rfl).trans
          (sendFirst_eq hpair hcmd (enterFilling p prof s))
      rw [startWord_eq word bit 1 _ hpair hcmd, giveOrder_sendWord_of_filling rfl rfl] at hsend
      refine ⟨_, (hexec hgoal).trans (by rw [hsend]), rfl, rfl, rfl, rfl, rfl, rfl, rfl, rfl, rfl,
        List.map_congr_left fun k _ => ?_, rfl⟩
      rw [ite_not]
      rfl
    case sample =>
      rw [hexec hgoal, afterSettle_of_not_filling (show SeqState.dark ≠ .filling from nofun)]
      rfl
    case send =>
      rw [hexec hgoal, afterSettle_of_not_filling (show SeqState.tone ≠ .filling from nofun)]
      rfl
    case chips =>
      rw [hexec hgoal, afterSettle_of_not_filling (show SeqState.dark ≠ .filling from nofun), hnoise]
      show Host.Outcome.next (enterDark (.darkChips n) s) = _
      rw [enterDark_darkChips]
      rfl
    case rest =>
      refine (hexec hgoal).trans ?_
      rw [afterSettle_of_not_filling]
      · rfl
      · show restState s.seq ≠ .filling
        unfold restState
        split <;> nofun

end Sys2Proof.Machine
end

section
/-! The boundaries of a run. Settles O45. -/

namespace Sys2Proof.Machine

/-! ### Which boundary stands (R20, R27, R58) -/

section Boundary

variable {s : State}

theorem boundaryDue_iff {q : Sequencer} : boundaryDue q = true ↔ q.running = true ∧ q.boundaryTaken = false ∧
    0 < q.runChips ∧ q.gen = BitVec.ofNat 15 (2 ^ q.genOrder - 1) := by
  simp only [boundaryDue, Bool.and_eq_true, Bool.not_eq_true', decide_eq_true_eq, and_assoc]
  rfl

theorem boundaryKind_of_not_due (h : boundaryDue s.seq = false) : boundaryKind s = none := by
  rw [boundaryKind, if_neg (by rw [h]; nofun)]

theorem boundaryKind_of_filling (hdue : boundaryDue s.seq = true) (h : isFilling s.seq = true) :
    boundaryKind s = some .fillEnd := by
  rw [boundaryKind, if_pos hdue, if_pos h]

theorem boundaryKind_of_accumulate {rec : PassRecord} (hdue : boundaryDue s.seq = true)
    (h : isFilling s.seq = false) (hstate : s.corr.state = .accumulate) (hpass : s.corr.pass = some rec) :
    boundaryKind s = some (if rec.periodsLeft ≤ 1 then .accumulationEnd else .plain) := by
  simp only [boundaryKind, if_pos hdue, h, hstate, hpass, Bool.false_eq_true, if_false]

theorem boundaryKind_of_armed (hdue : boundaryDue s.seq = true) (h : isFilling s.seq = false)
    (hstate : s.corr.state = .armed) : boundaryKind s = some .plain := by
  simp only [boundaryKind, if_pos hdue, h, hstate, Bool.false_eq_true, if_false]

theorem isFilling_of_filling {q : Sequencer} (h : q.state = .filling) : isFilling q = true := by
  simp [isFilling, h]

theorem isFilling_of_chips {q : Sequencer} (hstate : q.state = .dark) (hwork : q.work = .chips)
    (hfilled : q.filled = false) : isFilling q = true := by
  simp [isFilling, hstate, hwork, hfilled]

theorem isFilling_of_steady {q : Sequencer} (h : q.state = .steady) : isFilling q = false := by
  simp [isFilling, h]

theorem isFilling_of_filled {q : Sequencer} (hstate : q.state = .dark) (hfilled : q.filled = true) :
    isFilling q = false := by
  simp [isFilling, hstate, hfilled]

/-- With no boundary due, none of the five events finds its own. -/
theorem boundary_events_of_none (h : boundaryKind s = none) (fb : BitVec 5) :
    fillEndState s = s ∧ periodBoundaryState s = s ∧ accumulationEndState fb s = s ∧ slotStartState s = s ∧
      slotResultState s = s := by
  have hpass : endingPass s = none := by rw [endingPass, h, if_neg nofun]
  have hslot : ∀ b, slotAtBoundary b s = none := fun b => by rw [slotAtBoundary, h, if_neg nofun]
  refine ⟨?_, ?_, ?_, ?_, ?_⟩
  · rw [fillEndState, h, if_neg nofun]
  · rw [periodBoundaryState, h, if_neg nofun]
  · rw [accumulationEndState, hpass]
  · rw [slotStartState, hslot]
  · rw [slotResultState, hslot]

/-! ### Passes that wait (R57) -/

theorem startsPass_on_pair {p : PairNo} {prof : Profile} {rec : PassRecord} (harmed : s.corr.state = .armed)
    (hpass : s.corr.pass = some rec) (hpair : rec.pair = some p) (hstate : s.seq.state = .steady)
    (hcurrent : s.seq.current = some (p, prof)) : startsPass s = true := by
  simp [startsPass, harmed, hpass, hpair, hstate, hcurrent]

theorem startsPass_synthetic {rec : PassRecord} (harmed : s.corr.state = .armed) (hpass : s.corr.pass = some rec)
    (hpair : rec.pair = none) (hstate : s.seq.state = .dark) (hwork : s.seq.work = .chips)
    (hfilled : s.seq.filled = true) : startsPass s = true := by
  simp [startsPass, harmed, hpass, hpair, hstate, hwork, hfilled]

theorem startPass_of_starts (h : startsPass s = true) :
    startPass s = { s with corr := { s.corr with state := .accumulate } } := if_pos h

theorem startPass_of_not_armed (h : s.corr.state ≠ .armed) : startPass s = s := by
  rw [startPass, if_neg]
  simp [startsPass, h]

theorem endFill_of_filling (h : s.seq.state = .filling) :
    endFill s = { s with seq := { s.seq with state := .steady } } := if_pos h

theorem endFill_of_dark (h : s.seq.state = .dark) :
    endFill s = { s with seq := { s.seq with filled := true } } := by
  rw [endFill, if_neg (by rw [h]; nofun)]

theorem fillEndState_of_due (h : boundaryKind s = some .fillEnd) :
    fillEndState s = startPass (endFill (tookBoundary s)) := if_pos h

theorem accumulationEndState_of_match {fb : BitVec 5} {rec : PassRecord} (h : endingPass s = some rec)
    (hok : feedbackOk s.seq fb = true) :
    accumulationEndState fb s = evaluateAndGoOn rec (tookBoundary s) := by
  have hok' : feedbackOk (tookBoundary s).seq fb = true := hok
  simp only [accumulationEndState, h, hok', if_true]

end Boundary

/-- Settles O45: the fill's end, the start of a pass, its periods, and its end. -/
theorem boundariesRunPass : Obligations.BoundariesRunPass := by
  intro s fb
  refine ⟨fun hnone => ?none, fun hrun htaken hchips hgen => ?due, ?waiting⟩
  case none =>
    have hdue : boundaryDue s.seq = false := by
      rw [Bool.eq_false_iff, ne_eq, boundaryDue_iff]
      rintro ⟨hrun, htaken, hchips, hgen⟩
      obtain h | h | h | h := hnone
      · exact absurd (hrun.symm.trans h) nofun
      · exact absurd (htaken.symm.trans h) nofun
      · omega
      · exact h hgen
    obtain ⟨hfill, hperiod, hend, hstart, hresult⟩ := boundary_events_of_none (boundaryKind_of_not_due hdue) fb
    exact ⟨congrArg Host.Outcome.next hfill, congrArg Host.Outcome.next hperiod, congrArg Host.Outcome.next hend,
      congrArg Host.Outcome.next hstart, congrArg Host.Outcome.next hresult⟩
  case due =>
    intro taken
    have hdue : boundaryDue s.seq = true := boundaryDue_iff.mpr ⟨hrun, htaken, hchips, hgen⟩
    refine ⟨fun p prof rec hstate hcurrent hpass hpair harmed => ?fillArmed, fun hstate hnot => ?fill,
      fun rec hstate hwork hfilled harmed hpass hpair => ?fillChips, fun rec hsteady hacc hpass => ?count⟩
    case fillArmed =>
      refine congrArg Host.Outcome.next
        ((fillEndState_of_due (boundaryKind_of_filling hdue (isFilling_of_filling hstate))).trans ?_)
      rw [endFill_of_filling (s := tookBoundary s) hstate]
      refine startPass_of_starts ?_
      exact startsPass_on_pair harmed hpass hpair rfl hcurrent
    case fill =>
      refine congrArg Host.Outcome.next
        ((fillEndState_of_due (boundaryKind_of_filling hdue (isFilling_of_filling hstate))).trans ?_)
      rw [endFill_of_filling (s := tookBoundary s) hstate]
      exact startPass_of_not_armed hnot
    case fillChips =>
      refine congrArg Host.Outcome.next
        ((fillEndState_of_due (boundaryKind_of_filling hdue (isFilling_of_chips hstate hwork hfilled))).trans ?_)
      rw [endFill_of_dark (s := tookBoundary s) hstate]
      refine startPass_of_starts ?_
      exact startsPass_synthetic harmed hpass hpair hstate hwork rfl
    case count =>
      have hnot : isFilling s.seq = false := hsteady.elim isFilling_of_steady fun h => isFilling_of_filled h.1 h.2
      have hkind := boundaryKind_of_accumulate hdue hnot hacc hpass
      refine ⟨fun htwo => congrArg Host.Outcome.next ?_, fun hone hfb => congrArg Host.Outcome.next ?_⟩
      · rw [if_neg (by omega)] at hkind
        have harmed : ¬ (tookBoundary s).corr.state = .armed := by
          show s.corr.state ≠ .armed
          rw [hacc]
          nofun
        simp only [periodBoundaryState, if_pos hkind, if_neg harmed]
        simp only [countPeriod, tookBoundary, setCorr, takeBoundary, hacc, hpass, Option.map_some]
        rfl
      · rw [if_pos hone] at hkind
        exact accumulationEndState_of_match (by rw [endingPass, if_pos hkind, hpass]) (feedbackOk_iff.mpr hfb)
  case waiting =>
    intro p prof rec hstate hcurrent harmed hpass hpair hdue
    have hkind := boundaryKind_of_armed hdue (isFilling_of_steady hstate) harmed
    have harmed' : (tookBoundary s).corr.state = .armed := harmed
    refine congrArg Host.Outcome.next ?_
    simp only [periodBoundaryState, if_pos hkind, if_pos harmed']
    exact startPass_of_starts (s := tookBoundary s) (startsPass_on_pair harmed hpass hpair hstate hcurrent)

end Sys2Proof.Machine
end

section
/-! Switch faults. Settles O44. -/

namespace Sys2Proof.Machine

/-! ### What every fault does (R30, R33) -/

/-- The pair position that the switch stands on, none for the dark position. -/
def faultPair (q : Sequencer) : Option PairNo := if h : q.position < 16 then some ⟨q.position, h⟩ else none

/-- The record that a switch fault offers to the log. -/
def faultRecord (s : State) : FaultRecord :=
  ⟨.switchFault, s.lineTime, s.active?.map Job.number, s.active?.map Job.requester, faultPair s.seq⟩

/-- The notice to the port whose job is ACTIVE. -/
def tellRequester (r : Option Requester) (s : State) : State :=
  match r with
  | some (.port p) => raiseNotice .switchFault p s
  | some .internal => s
  | none => s

section Fault

variable (s : State)

/-- A fault before its notices: the log and the hold. -/
def faultLogged : State :=
  { logFault (faultRecord s) s with seq := { s.seq with faultHold := true } }

theorem takeFault_eq : takeFault s =
    tellRequester (s.active?.map Job.requester) (raiseNotice .switchFault 0 (faultLogged s)) := rfl

theorem takeFault_frame : takeFault s = { s with
    seq := { s.seq with faultHold := true }
    ports := (takeFault s).ports
    sched := { s.sched with faultLog := (takeFault s).sched.faultLog } } := by
  unfold takeFault
  dsimp only
  split <;> rfl

theorem takeFault_faultLog : (takeFault s).sched.faultLog = (logFault (faultRecord s) s).sched.faultLog := by
  unfold takeFault
  dsimp only
  split <;> rfl

theorem takeFault_tookBoundary : takeFault (tookBoundary s) = tookBoundary (takeFault s) := by
  have hactive : (tookBoundary s).active? = s.active? := rfl
  unfold takeFault
  dsimp only
  rw [hactive]
  split <;> rfl

theorem endingPass_takeFault : endingPass (takeFault s) = endingPass s := by
  have hkind : boundaryKind (takeFault s) = boundaryKind s := by
    simp only [boundaryKind, takeFault_seq, takeFault_corr]
    rfl
  rw [endingPass, endingPass, hkind, takeFault_corr]

/-- A port after the SWITCH_FAULT notice. -/
def PortState.toldOfFault (t : PortState) : PortState := { t with pendingSet := t.pendingSet ||| 0x200#12 }

theorem PortState.toldOfFault_toldOfFault (t : PortState) : t.toldOfFault.toldOfFault = t.toldOfFault := by
  simp [PortState.toldOfFault, BitVec.or_assoc]

theorem port_raiseNotice_switchFault (p q : Port) :
    (raiseNotice .switchFault p s).port q = if q = p then (s.port q).toldOfFault else s.port q := by
  by_cases hq : q = p
  · rw [if_pos hq, hq]
    exact port_raiseNotice_self .switchFault p s
  · rw [if_neg hq]
    exact port_raiseNotice_ne .switchFault hq s

/-- Port 0 and the port whose job is ACTIVE are told, and no other. -/
theorem takeFault_port (q : Port) : (takeFault s).port q =
    if q = 0 ∨ s.active?.map Job.requester = some (.port q) then (s.port q).toldOfFault else s.port q := by
  rw [takeFault_eq]
  cases s.active?.map Job.requester with
  | none =>
    refine (port_raiseNotice_switchFault ..).trans ?_
    simp only [reduceCtorEq, or_false]
    rfl
  | some r =>
    cases r with
    | internal =>
      refine (port_raiseNotice_switchFault ..).trans ?_
      simp only [reduceCtorEq, Option.some.injEq, or_false]
      rfl
    | port r =>
      refine (port_raiseNotice_switchFault ..).trans ?_
      rw [port_raiseNotice_switchFault]
      have hsame : some (Requester.port r) = some (.port q) ↔ q = r := by simp [eq_comm]
      by_cases hzero : q = 0 <;> by_cases hreq : q = r
      · rw [if_pos hreq, if_pos hzero, if_pos (.inl hzero)]
        exact PortState.toldOfFault_toldOfFault _
      · rw [if_neg hreq, if_pos hzero, if_pos (.inl hzero)]
        rfl
      · rw [if_pos hreq, if_neg hzero, if_pos (.inr (hsame.mpr hreq))]
        rfl
      · rw [if_neg hreq, if_neg hzero, if_neg (not_or.mpr ⟨hzero, mt hsame.mp hreq⟩)]
        rfl

/-! ### A fault on a pair position (R30, R135) -/

/-- A fault on a pair before the ACTIVE job is touched: SWITCH_FAULT, the pass discarded. -/
def faultedPair : State := { takeFault s with
  seq := { s.seq with state := .switchFault, faultHold := true, current := none, goal := none, running := false }
  corr := Correlator.idleReset }

theorem faultedPair_active? : (faultedPair s).active? = s.active? := by
  rw [faultedPair, takeFault_frame]
  rfl

theorem faultedPair_job? (n : Nat) : (faultedPair s).job? n = s.job? n := by
  rw [faultedPair, takeFault_frame]
  rfl

theorem faultedPair_frame : faultedPair s = { s with
    seq := (faultedPair s).seq
    corr := (faultedPair s).corr
    ports := (takeFault s).ports
    sched := { s.sched with faultLog := (takeFault s).sched.faultLog } } := by
  rw [faultedPair, takeFault_frame]

theorem faultedPair_eq : dropPass { takeFault s with seq := { (takeFault s).seq with
    state := .switchFault, current := none, goal := none, running := false } } = faultedPair s := by
  rw [takeFault_seq]
  rfl

theorem faultOnPair_of_active {s : State} {j : Job} (h : s.active? = some j) :
    faultOnPair s = faultJob j (faultedPair s) := by
  unfold faultOnPair
  dsimp only
  rw [faultedPair_eq, faultedPair_active?, h]

theorem faultOnPair_of_none {s : State} (h : s.active? = none) : faultOnPair s = faultedPair s := by
  unfold faultOnPair
  dsimp only
  rw [faultedPair_eq, faultedPair_active?, h]

theorem faultJob_endsOnly (j : Job) : EndsOnly s (faultJob j s) := by
  unfold faultJob
  split
  · exact endJob_endsOnly ..
  · rfl

theorem faultOnPair_endsOnly : EndsOnly (faultedPair s) (faultOnPair s) := by
  cases h : s.active? with
  | some j => rw [faultOnPair_of_active h]; exact faultJob_endsOnly ..
  | none => rw [faultOnPair_of_none h]; rfl

end Fault

/-- Fields that the end of a job leaves alone. -/
theorem EndsOnly.fields {s t : State} (h : EndsOnly s t) : t.seq = s.seq ∧ t.corr = s.corr ∧
    t.sched.faultLog = s.sched.faultLog ∧ t.sched.stats = s.sched.stats := by
  rw [EndsOnly] at h
  rw [h]
  exact ⟨rfl, rfl, rfl, rfl⟩

section Fails

variable {fb : BitVec 5} {s : State}

theorem feedbackOk_eq_false (hfb : fb.toNat ≠ s.seq.position) (hhold : s.seq.faultHold = false) :
    feedbackOk s.seq fb = false := by
  simp [feedbackOk, hfb, hhold]

theorem settleEndState_of_fault {o : Order} (hdue : settleDue s = some o) (hok : feedbackOk s.seq fb = false) :
    settleEndState fb s = if s.seq.position < 16 then arbitrate (faultOnPair s)
      else settleInto o (takeFault s) := by
  simp only [settleEndState, hdue, hok, Bool.false_eq_true, if_false]

theorem accumulationEndState_of_fault {rec : PassRecord} (h : endingPass s = some rec)
    (hok : feedbackOk s.seq fb = false) :
    accumulationEndState fb s = if s.seq.position < 16 then arbitrate (faultOnPair (tookBoundary s))
      else evaluateAndGoOn rec (takeFault (tookBoundary s)) := by
  have hok' : feedbackOk (tookBoundary s).seq fb = false := hok
  simp only [accumulationEndState, h, hok', Bool.false_eq_true, if_false]
  rfl

end Fails

/-- Dark work is no run on a pair, so the driver adds nothing to its settle end. -/
theorem afterSettle_settleInto_of_isDark {o : Order} (h : o.isDark = true) (s : State) :
    afterSettle (settleInto o s) = settleInto o s := by
  have hrest : restState s.seq ≠ .filling := by
    unfold restState
    split <;> nofun
  refine afterSettle_of_not_filling ?_
  cases o with
  | runPair _ _ => cases h
  | sendWord _ _ _ => cases h
  | darkSample => exact (show SeqState.dark ≠ .filling from nofun)
  | darkChips n => exact (show SeqState.dark ≠ .filling from nofun)
  | endDark => exact hrest

/-- Settles O44: a fault on a pair position, and one on the dark position. -/
theorem switchFaultSuspendsWork : Obligations.SwitchFaultSuspendsWork := by
  intro fb s hfb hhold logged asks
  have hok := feedbackOk_eq_false hfb hhold
  have hlogged : ∀ {u : State} {pair}, u.sched.faultLog = (takeFault s).sched.faultLog → faultPair s.seq = pair →
      logged u pair := fun {u pair} hlog hpair => by
    rw [takeFault_faultLog] at hlog
    refine ⟨fun hnone => ?_, fun hsome => ?_⟩
    · rw [hlog, logFault_of_none hnone, faultRecord, hpair]
    · rw [hlog, logFault_of_ne_none hsome]
  have hport : ∀ q : Port, (asks q → (takeFault s).port q = (s.port q).toldOfFault) ∧
      (¬ asks q → (takeFault s).port q = s.port q) := fun q =>
    ⟨fun h => (takeFault_port s q).trans (if_pos h), fun h => (takeFault_port s q).trans (if_neg h)⟩
  refine ⟨fun p hp => ?pair, fun hdark => ?dark⟩
  case pair =>
    intro u
    have hlt : s.seq.position < 16 := hp ▸ p.isLt
    have hfaultPair : faultPair s.seq = some p := by
      rw [faultPair, dif_pos hlt]
      exact congrArg some (Fin.ext hp)
    obtain ⟨hseq, hcorr, hlog, hstats⟩ := (faultOnPair_endsOnly s).fields
    have hbase := faultedPair_frame s
    refine ⟨⟨fun hstate hgoal hend => ?_, fun rec hrec => ?_⟩, hseq, hcorr, hlogged ?_ hfaultPair,
      faultOnPair_sig s, faultOnPair_findings s, ?_, faultOnPair_lineMap s, faultOnPair_intake s,
      faultOnPair_channel s, fun hnone => ?suspended, fun j r hactive hcancel hr hfound => ?cancelled⟩
    · obtain ⟨o, ho⟩ := Option.ne_none_iff_exists'.mp hgoal
      exact congrArg Host.Outcome.next
        ((settleEndState_of_fault (settleDue_of_due hstate hend ho) hok).trans (if_pos hlt))
    · exact congrArg Host.Outcome.next ((accumulationEndState_of_fault hrec hok).trans (if_pos hlt))
    · rw [hlog, hbase]
    · rw [hstats, hbase]
    case suspended =>
      cases hactive : s.active? with
      | none =>
        have hu : u = faultedPair s := faultOnPair_of_none hactive
        rw [hu]
        exact ⟨by rw [hbase], by rw [hbase], hport⟩
      | some j =>
        have hu : u = suspendJob j.number (faultedPair s) :=
          (faultOnPair_of_active hactive).trans (if_neg (by rw [hnone j hactive]; nofun))
        rw [hu]
        exact ⟨by rw [hbase]; rfl, by rw [hbase]; rfl, hport⟩
    case cancelled =>
      have hu : u = endJob j.number .cancelled (faultedPair s) :=
        (faultOnPair_of_active hactive).trans (if_pos hcancel)
      have hfound' : (faultedPair s).job? j.number = some j := (faultedPair_job? s _).trans hfound
      have hports : ∀ q, (faultedPair s).port q = (takeFault s).port q := fun _ => rfl
      refine ⟨?_, fun q => ⟨?_, fun hq => ?_⟩⟩
      · rw [hu, endJob_of_port .cancelled hfound' hr, hbase]
        rfl
      · rintro rfl
        have hasks : asks q := .inr (by rw [hactive, Option.map_some, hr])
        rw [hu, port_endJob_self .cancelled hfound' hr, hports, (hport q).1 hasks, PortState.toldOfFault,
          BitVec.or_assoc]
        rfl
      · have hne := (port_endJob_ne .cancelled hfound' hr hq).trans (hports q)
        rw [hu, hne, results_endJob .cancelled hfound' hr, if_neg (Ne.symm hq)]
        refine ⟨(hport q).1, (hport q).2, ?_⟩
        rw [hbase]
  case dark =>
    have hnot : ¬ s.seq.position < 16 := by omega
    have hfaultPair : faultPair s.seq = none := dif_neg hnot
    have hok' : feedbackOk (takeFault s).seq fb = true := feedbackOk_iff.mpr (.inr (by rw [takeFault_seq]))
    refine ⟨takeFault s, takeFault_frame s, hlogged rfl hfaultPair, hport, fun o hstate hgoal hisDark hend => ?_,
      fun rec hrec => ?_⟩
    · have hdue := settleDue_of_due hstate hend hgoal
      have hdue' : settleDue (takeFault s) = some o := by
        rw [settleDue, takeFault_seq, takeFault_lineTime]
        exact hdue
      refine congrArg Host.Outcome.next ?_
      rw [settleEndState_of_fault hdue hok, if_neg hnot, settleEndState_of_match hdue' hok',
        afterSettle_settleInto_of_isDark hisDark]
    · refine congrArg Host.Outcome.next ?_
      rw [accumulationEndState_of_fault hrec hok, if_neg hnot,
        accumulationEndState_of_match ((endingPass_takeFault s).trans hrec) hok', takeFault_tookBoundary]

end Sys2Proof.Machine
end

section
/-! The job driver after an evaluation (R124). -/

namespace Sys2Proof.Machine

theorem urgentEligible_iff (s : State) : s.urgentEligible = true ↔
    ∃ k ∈ s.sched.jobs, k.cls = .urgent ∧ eligible s.seq.faultHold k = true := by
  simp only [State.urgentEligible, State.eligibleJobs, List.any_eq_true, List.mem_filter, decide_eq_true_eq]
  exact ⟨fun ⟨k, ⟨hk, he⟩, hu⟩ => ⟨k, hk, hu, he⟩, fun ⟨k, hk, hu, he⟩ => ⟨k, ⟨hk, he⟩, hu⟩⟩

theorem otherEligible_iff (s : State) (n : Nat) : otherEligible s n = true ↔
    ∃ k ∈ s.sched.jobs, k.number ≠ n ∧ eligible s.seq.faultHold k = true := by
  simp only [otherEligible, State.eligibleJobs, List.any_eq_true, List.mem_filter, decide_eq_true_eq]
  exact ⟨fun ⟨k, ⟨hk, he⟩, hu⟩ => ⟨k, hk, hu, he⟩, fun ⟨k, hk, hu, he⟩ => ⟨k, ⟨hk, he⟩, hu⟩⟩

theorem workDone_iff_of_range {j : Job} {r : Nat × Nat} (h : j.range = some r) :
    workDone j = true ↔ r.2 < j.progress := by simp [workDone, h]

theorem endAtPassEnd_of_not_synth {j : Job} (h : j.kind ≠ .synth) (o : JobOutcome) (s : State) :
    endAtPassEnd j o s = arbitrate (endJob j.number o s) := by rw [endAtPassEnd, if_neg h]

theorem endAtPassEnd_of_synth {j : Job} {s : State} (h : j.kind = .synth) (hd : s.seq.state = .dark)
    (o : JobOutcome) : endAtPassEnd j o s = arbitrate (endJob j.number o (enterRest s)) := by
  rw [endAtPassEnd, if_pos h, giveOrder_endDark_of_dark hd]

section
variable {rec : PassRecord} {s : State} {j : Job} (hj : s.job? rec.job = some j)
include hj

/-- Case 1: a cancel that waited for the end of the pass (log 32). -/
theorem afterPass_of_cancelPending (hc : j.cancelPending = true) :
    afterPass rec s = endAtPassEnd j .cancelled s := by
  simp only [afterPass, hj, hc, if_true]

/-- Case 2: the job's work is done, and a COMMAND job's is done with its one verify pass. -/
theorem afterPass_of_done (hc : j.cancelPending = false) (hd : j.kind = .command ∨ workDone j = true) :
    afterPass rec s = endAtPassEnd j .complete s := by
  simp only [afterPass, hj, hc, Bool.false_eq_true, if_false, if_pos hd]

variable (hc : j.cancelPending = false) (hd : ¬ (j.kind = .command ∨ workDone j = true))
include hc hd

/-- Cases 3 and 4: a ROUTINE job yields to an URGENT one, and at the end of its slice to any other. -/
theorem afterPass_of_yield (hr : j.cls = .routine)
    (hy : s.urgentEligible = true ∨
      (rec.params.slice ≤ j.passes ∧ otherEligible s j.number = true)) :
    afterPass rec s = arbitrate (suspendJob j.number s) := by
  simp only [afterPass, hj, hc, Bool.false_eq_true, if_false, if_neg hd]
  by_cases hu : s.urgentEligible = true
  · rw [if_pos ⟨hr, hu⟩]
  · rw [if_neg (fun h => hu h.2), if_pos ⟨hr, hy.resolve_left hu⟩]

/-- Case 5 within a slice: the next pass. -/
theorem afterPass_of_within_slice
    (hw : j.cls = .urgent ∨ (¬ s.urgentEligible = true ∧ j.passes < rec.params.slice)) :
    afterPass rec s = runPass j s := by
  simp only [afterPass, hj, hc, Bool.false_eq_true, if_false, if_neg hd]
  have hslice : ¬ (j.cls = .routine ∧ rec.params.slice ≤ j.passes) := by
    rintro ⟨hr, hs⟩
    rcases hw with hu | ⟨-, hlt⟩
    · rw [hu] at hr; cases hr
    · omega
  have hurgent : ¬ (j.cls = .routine ∧ s.urgentEligible = true) := by
    rintro ⟨hr, hs⟩
    rcases hw with hu | ⟨hn, -⟩
    · rw [hu] at hr; cases hr
    · exact hn hs
  rw [if_neg hurgent, if_neg (fun h => hslice ⟨h.1, h.2.1⟩), if_neg hslice]

/-- Case 5 at the end of a slice nothing else wants: a new slice. -/
theorem afterPass_of_new_slice (hr : j.cls = .routine) (hu : ¬ s.urgentEligible = true)
    (hs : rec.params.slice ≤ j.passes) (ho : ¬ otherEligible s j.number = true) :
    afterPass rec s = runPass j (s.setJob j.number (fun k => { k with passes := 0 })) := by
  simp only [afterPass, hj, hc, Bool.false_eq_true, if_false, if_neg hd]
  rw [if_neg (fun h => hu h.2), if_neg (fun h => ho h.2.2), if_pos ⟨hr, hs⟩]

end

/-- Settles O48: the cases of R124 in their order. -/
theorem driverGoesOnAfterPass : Obligations.DriverGoesOnAfterPass := by
  unfold Obligations.DriverGoesOnAfterPass
  intro rec s j hj n rest ends others urgent
  have hends : ∀ o, afterPass rec s = endAtPassEnd j o s → ends o := fun o h =>
    ⟨fun hk => h.trans (endAtPassEnd_of_not_synth hk o s),
      fun hk hd => h.trans (endAtPassEnd_of_synth hk hd o)⟩
  refine ⟨fun hc => hends _ (afterPass_of_cancelPending hj hc), fun hc =>
    ⟨fun hk => hends _ (afterPass_of_done hj hc (.inl hk)), fun r hr => ⟨fun hlt =>
      hends _ (afterPass_of_done hj hc (.inr ((workDone_iff_of_range hr).mpr hlt))), fun hk hle => ?_⟩⟩⟩
  have hgoes : ¬ (j.kind = .command ∨ workDone j = true) := by
    rw [workDone_iff_of_range hr]
    rintro (h | h)
    · exact hk h
    · omega
  have hu : s.urgentEligible = true ↔ urgent := urgentEligible_iff s
  have ho : otherEligible s j.number = true ↔ others := otherEligible_iff s j.number
  refine ⟨fun hcls h => ?urgent, fun hcls _ hs h => ?slice, fun h => ?within, fun hcls h hs hn => ?again⟩
  case urgent => exact afterPass_of_yield hj hc hgoes hcls (.inl (hu.mpr h))
  case slice => exact afterPass_of_yield hj hc hgoes hcls (.inr ⟨hs, ho.mpr h⟩)
  case within =>
    exact afterPass_of_within_slice hj hc hgoes (h.imp id fun ⟨hn, hlt⟩ => ⟨fun e => hn (hu.mp e), hlt⟩)
  case again =>
    exact afterPass_of_new_slice hj hc hgoes hcls (fun e => h (hu.mp e)) hs (fun e => hn (ho.mp e))

end Sys2Proof.Machine
end

section
/-! The use of a sample (R21, R36 to R38, R43, R58, R74). -/

namespace Sys2Proof.Machine

theorem isClip_iff (raw : Nat) : isClip raw = true ↔ raw = 0 ∨ raw = 16383 := by simp [isClip]

theorem countClip_eq (raw : Nat) (r : PassRecord) : countClip raw r =
    { r with clips := if raw = 0 ∨ raw = 16383 then min (r.clips + 1) 65535 else r.clips } := by
  unfold countClip
  by_cases h : isClip raw = true
  · rw [if_pos h, if_pos ((isClip_iff raw).mp h), saturating]
  · rw [if_neg h, if_neg (fun e => h ((isClip_iff raw).mpr e))]

theorem addDark_eq (raw : Nat) (a : DarkAcc) : addDark raw a =
    ⟨a.count + 1, a.sum + raw, if raw = 0 ∨ raw = 16383 then a.clips + 1 else a.clips⟩ := by
  unfold addDark
  by_cases h : isClip raw = true
  · rw [if_pos ((isClip_iff raw).mp h), h]; rfl
  · rw [if_neg (fun e => h ((isClip_iff raw).mpr e)), Bool.eq_false_iff.mpr h]; rfl

/-! ### The cells -/

theorem applySample_of_idle {c : Cell} (h : c.role = .idle) (ring : BitVec 32768) (at_ : Nat) (x : Int) :
    applySample ring at_ x c = c := by simp only [applySample, h]

theorem applySample_of_ne_idle {c : Cell} (h : c.role ≠ .idle) (ring : BitVec 32768) (at_ : Nat) (x : Int) :
    applySample ring at_ x c = { c with acc := c.acc + x * chipSign (ringBack ring at_ c.lag) } := by
  cases hr : c.role with
  | idle => exact absurd hr h
  | echo => simp only [applySample, hr]
  | quiet => simp only [applySample, hr]

theorem accumulate_getElem (ring : BitVec 32768) (at_ : Nat) (x : Int) (cells : Vector Cell 64) (i : Fin 64) :
    (accumulate ring at_ x cells)[i] = if (cells[i]).role = .idle then cells[i]
      else { cells[i] with acc := (cells[i]).acc + x * chipSign (ringBack ring at_ (cells[i]).lag) } := by
  have hmap : (accumulate ring at_ x cells)[i] = applySample ring at_ x cells[i] := by
    simp only [accumulate, Fin.getElem_fin, Vector.getElem_map]
  rw [hmap]
  by_cases h : (cells[i]).role = .idle
  · rw [if_pos h, applySample_of_idle h]
  · rw [if_neg h, applySample_of_ne_idle h]

/-! ### The Correlator's part -/

theorem takeSample_of_accumulate {c : Correlator} {r : PassRecord} (h : c.state = .accumulate)
    (hr : c.pass = some r) (raw : Nat) (ring : BitVec 32768) (at_ : Nat) :
    takeSample raw ring at_ c = { c with
      pass := some (countClip raw r)
      cells := accumulate ring at_ ((raw : Int) - r.offset) c.cells } := by
  simp only [takeSample, h, hr]

theorem takeSample_of_slot {c : Correlator} {su : SlotSetup} (h : c.state = .slot) (hu : c.slot = some su)
    (raw : Nat) (ring : BitVec 32768) (at_ : Nat) :
    takeSample raw ring at_ c = if su.periodsLeft.isSome then
      { c with cells := accumulate ring at_ ((raw : Int) - su.offset) c.cells } else c := by
  simp only [takeSample, h, hu]

theorem takeSample_of_other {c : Correlator} (ha : c.state ≠ .accumulate) (hs : c.state ≠ .slot)
    (raw : Nat) (ring : BitVec 32768) (at_ : Nat) : takeSample raw ring at_ c = c := by
  cases h : c.state with
  | accumulate => exact absurd h ha
  | slot => exact absurd h hs
  | idle => simp only [takeSample, h]
  | armed => simp only [takeSample, h]
  | evaluate => simp only [takeSample, h]

/-! ### The strobe -/

theorem strobeState_of_chips {s : State} (hrun : chipsRun s.seq = true) (hdue : boundaryDue s.seq = false)
    (adc : BitVec 14) : strobeState adc s = chipStrobe adc s := by
  simp only [strobeState, hrun, hdue, if_true, Bool.false_eq_true, if_false]

theorem strobeState_of_sampling {s : State} (hst : s.seq.state = .dark) (hw : s.seq.work = .sampling)
    (adc : BitVec 14) : strobeState adc s = { s with intake := darkSample adc.toNat s.intake } := by
  have hrun : ¬ chipsRun s.seq = true := by simp [chipsRun, hst, hw]
  rw [strobeState, if_neg hrun, if_pos ⟨hst, hw⟩]

theorem strobeState_of_silent {s : State} (h : s.seq.state = .parked ∨ s.seq.state = .settling ∨
    s.seq.state = .tone ∨ s.seq.state = .switchFault) (adc : BitVec 14) : strobeState adc s = s := by
  have hrun : ¬ chipsRun s.seq = true := by rcases h with h | h | h | h <;> simp [chipsRun, h]
  have hdark : s.seq.state ≠ .dark := by rcases h with h | h | h | h <;> simp [h]
  rw [strobeState, if_neg hrun, if_neg (fun e => hdark e.1)]

theorem rawSample_of_ne_dark {s : State} (h : s.seq.state ≠ .dark) (adc : BitVec 14) (ring : BitVec 32768)
    (at_ : Nat) : rawSample adc ring at_ s = (adc.toNat, s.synth) := by
  cases hst : s.seq.state with
  | dark => exact absurd hst h
  | parked | settling | filling | steady | tone | switchFault => simp only [rawSample, hst]

theorem rawSample_of_dark {s : State} {d : SynthDef} (h : s.seq.state = .dark) (hd : s.synth.defn = some d)
    (adc : BitVec 14) (ring : BitVec 32768) (at_ : Nat) : rawSample adc ring at_ s =
      (synthSample d (noiseStep s.synth.noise) ring at_, { s.synth with noise := noiseStep s.synth.noise }) := by
  simp only [rawSample, h, hd]

/-- The chip sent enters the ring at the write position and nothing else of the ring moves (R21). -/
theorem sendChip_ring {q : Sequencer} (h : q.wp < 32768) (i : Nat) : (sendChip q).ring.getLsbD i =
    if i = q.wp then q.gen.getLsbD (q.genOrder - 1) else q.ring.getLsbD i := by
  have hread := ringRead_ringWrite q.ring q.wp i (chipOut q.genOrder q.gen) h
  simp only [ringRead, eq_comm (a := q.wp)] at hread
  exact hread

/-- The sum of the echoes whose chip is 1 (R183). -/
theorem echoSum_eq (d : SynthDef) (ring : BitVec 32768) (at_ : Nat) :
    (echoSum d ring at_ : Int) =
      (d.echoes.map (fun e => if ringBack ring at_ e.lag then (e.amp : Int) else 0)).sum := by
  rw [echoSum, Nat.cast_list_sum, List.map_map]
  congr 1
  refine List.map_congr_left fun e _ => ?_
  cases h : ringBack ring at_ e.lag <;> simp [h]

theorem synthSample_eq (d : SynthDef) (noise : BitVec 16) (ring : BitVec 32768) (at_ : Nat) :
    (synthSample d noise ring at_ : Int) =
      max 0 (min 16383 ((d.dc : Int) + (echoSum d ring at_ : Int) + noiseTerm noise d.noise)) := by
  rw [synthSample, clamp_zero]; omega

/-- Settles O49: each strobe by the state of the sequencer and of the Correlator. -/
theorem samplesGoToOneUse : Obligations.SamplesGoToOneUse := by
  unfold Obligations.SamplesGoToOneUse
  refine ⟨?tick, ?dark, ?silent, ?pair, ?synth⟩
  case tick => exact fun s => rfl
  case dark =>
    intro adc s a hst hw ha hlt clips
    show Host.Outcome.next (strobeState adc s) = _
    rw [strobeState_of_sampling hst hw]
    simp only [darkSample, ha, Option.map_some, if_pos hlt, addDark_eq]
    rfl
  case silent => exact fun adc s h => congrArg Host.Outcome.next (strobeState_of_silent h adc)
  case pair =>
    intro adc s hst hrun hdue hwp chip
    have hdark : s.seq.state ≠ .dark := by rcases hst with h | h <;> simp [h]
    have hchips : chipsRun s.seq = true := by rcases hst with h | h <;> simp [chipsRun, hrun, h]
    refine ⟨{ s with
        seq := sendChip s.seq
        corr := takeSample adc.toNat (sendChip s.seq).ring s.seq.wp s.corr },
      congrArg Host.Outcome.next ?_, rfl, rfl, fun i _ => sendChip_ring hwp i, fun ha hs =>
        takeSample_of_other ha hs _ _ _, fun rec ha hr => ?_, fun su hs hu => ⟨fun hn => ?_, fun hn => ?_⟩⟩
    · rw [strobeState_of_chips hchips hdue]
      simp only [chipStrobe, rawSample_of_ne_dark hdark]
    · simp only [takeSample_of_accumulate ha hr, countClip_eq]
      exact ⟨trivial, trivial, fun i => accumulate_getElem _ _ _ _ i⟩
    · simp only [takeSample_of_slot hs hu, hn, Option.isSome_none, Bool.false_eq_true, if_false]
    · simp only [takeSample_of_slot hs hu, if_pos (Option.isSome_iff_ne_none.mpr hn)]
      exact ⟨trivial, fun i => accumulate_getElem _ _ _ _ i⟩
  case synth =>
    intro adc s d hst hw hrun hdue hd chip
    have hchips : chipsRun s.seq = true := by simp [chipsRun, hrun, hst, hw]
    refine ⟨{ s with
        seq := sendChip s.seq
        synth := { s.synth with noise := noiseStep s.synth.noise }
        corr := takeSample (synthSample d (noiseStep s.synth.noise) (sendChip s.seq).ring s.seq.wp)
          (sendChip s.seq).ring s.seq.wp s.corr },
      congrArg Host.Outcome.next ?_, rfl, rfl, fun hwp i _ => sendChip_ring hwp i, rfl, fun ha hs =>
        takeSample_of_other ha hs _ _ _, ?_⟩
    · rw [strobeState_of_chips hchips hdue]
      simp only [chipStrobe]
      rw [rawSample_of_dark hst hd]
    · intro rec ha hr back light raw
      have hraw : (synthSample d (noiseStep s.synth.noise) (sendChip s.seq).ring s.seq.wp : Int) = raw := by
        rw [synthSample_eq, echoSum_eq]; rfl
      have hclip : (raw = 0 ∨ raw = 16383) ↔
          (synthSample d (noiseStep s.synth.noise) (sendChip s.seq).ring s.seq.wp = 0 ∨
            synthSample d (noiseStep s.synth.noise) (sendChip s.seq).ring s.seq.wp = 16383) := by
        rw [← hraw]; omega
      simp only [takeSample_of_accumulate ha hr, countClip_eq, hclip, true_and]
      intro i hi
      rw [accumulate_getElem, if_neg hi, hraw]
      rfl

end Sys2Proof.Machine
end

section
/-! The word end and the reply slots (R28, R73 to R75, R144). -/

namespace Sys2Proof.Machine

theorem wordDue_iff (s : State) : wordDue s = true ↔
    s.seq.state = .tone ∧ s.seq.toneStart + 192 ≤ s.lineTime := by
  simp only [wordDue, Bool.and_eq_true, decide_eq_true_eq]
  exact Iff.rfl

/-- The word end of a job whose housing is on its pair's route (R73). -/
theorem enterReply_of_job {s : State} {p : PairNo} {j : Job} {c : CommandFields} {k lag : Nat}
    (hx : s.channel.exchange.phase = .sending) (hj : s.job? s.channel.exchange.job = some j)
    (hp : j.pair = some p) (hc : j.cmd = some c) (hk : (s.pair p).positionOf c.housing = some k)
    (hl : (s.pair p).lagAt k = some lag) :
    enterReply s =
      let chip := chipUs (s.pair p).profile.chipCode
      { s with
        channel := { s.channel with exchange := { s.channel.exchange with
          phase := .reply
          wordEnd := s.lineTime
          slots := []
          endChip := lag + (3000000 + 10 * c.slotUnits * 16000) / chip } }
        corr := { Correlator.idleReset with
          state := .slot
          slot := some ⟨lag, k, j.w, c.r, (s.pair p).profile.order, chip, (s.pair p).quietBase,
            c.slotUnits, s.intake.offset, s.params, 0, none⟩ } } := by
  have hset : slotSetup s p j c = ⟨lag, k, j.w, c.r, (s.pair p).profile.order,
      chipUs (s.pair p).profile.chipCode, (s.pair p).quietBase, c.slotUnits, s.intake.offset, s.params, 0,
      none⟩ := by
    simp only [slotSetup, hk, hl, Option.getD_some]
  simp only [enterReply, hx, if_true, hj, hp, hc, hset]
  rfl

theorem afterWord_of_current {s : State} {p : PairNo} {prof : Profile} (h : s.seq.current = some (p, prof))
    (hh : s.seq.held = none) : afterWord s = enterFilling p prof s := by
  simp only [afterWord, h, hh]

/-! ### Which boundary of a slot it is -/

theorem boundaryKind_of_slot {s : State} {su : SlotSetup} (hdue : boundaryDue s.seq = true)
    (hf : isFilling s.seq = false) (hc : s.corr.state = .slot) (hu : s.corr.slot = some su) :
    boundaryKind s = some (slotBoundary s.seq su) := by
  simp only [boundaryKind, hdue, if_true, hf, Bool.false_eq_true, if_false, hc, hu]

theorem slotBoundary_of_none {su : SlotSetup} (h : su.periodsLeft = none) (q : Sequencer) :
    slotBoundary q su =
      if su.lag + (3000000 + su.slot * su.slotUnits * 16000) / su.chipUs ≤ q.runChips then .slotStart
      else .plain := by
  simp only [slotBoundary, h]
  rfl

theorem slotBoundary_of_some {su : SlotSetup} {left : Nat} (h : su.periodsLeft = some left)
    (q : Sequencer) : slotBoundary q su = if left ≤ 1 then .slotResult else .plain := by
  simp only [slotBoundary, h]

theorem slotStartState_of_early {s : State} (h : boundaryKind s ≠ some .slotStart) :
    slotStartState s = s := by
  simp only [slotStartState, slotAtBoundary, if_neg h]

theorem slotStartState_of_due {s : State} {su : SlotSetup} (h : boundaryKind s = some .slotStart)
    (hu : s.corr.slot = some su) : slotStartState s =
      setCorr { s.corr with
        slot := some { su with periodsLeft := some (2 ^ su.r) }
        cells := slotCells su } (tookBoundary s) := by
  simp only [slotStartState, slotAtBoundary, if_pos h, hu]

theorem slotResultState_of_due {s : State} {su : SlotSetup} (h : boundaryKind s = some .slotResult)
    (hu : s.corr.slot = some su) : slotResultState s =
      let heard := addSlot (slotOutcome su s.corr.cells) (tookBoundary s)
      if su.slot < 9 then
        setCorr { s.corr with slot := some { su with slot := su.slot + 1, periodsLeft := none } } heard
      else decideWord su.params.retryMax (dropPass heard) := by
  simp only [slotResultState, slotAtBoundary, if_pos h, hu]
  rfl

theorem periodBoundaryState_of_slot {s : State} {su : SlotSetup} (h : boundaryKind s = some .plain)
    (hc : s.corr.state = .slot) (hu : s.corr.slot = some su) : periodBoundaryState s =
      setCorr { s.corr with slot := some { su with periodsLeft := su.periodsLeft.map (fun k => k - 1) } }
        (tookBoundary s) := by
  have harmed : (tookBoundary s).corr.state ≠ .armed := by
    show s.corr.state ≠ .armed
    rw [hc]; exact nofun
  have hcount : countPeriod s.corr = { s.corr with
      slot := some { su with periodsLeft := su.periodsLeft.map (fun k => k - 1) } } := by
    simp only [countPeriod, hc, hu, Option.map_some]
  rw [periodBoundaryState, if_pos h, if_neg harmed]
  exact congrArg (fun u => setCorr u (tookBoundary s)) hcount

/-- Settles O50: the word end, and each event of a slot by the boundary that stands. -/
theorem wordIsSentAndAnswered : Obligations.WordIsSentAndAnswered := by
  unfold Obligations.WordIsSentAndAnswered
  refine ⟨?word, ?slots⟩
  case word =>
    intro s p prof j c k lag hst hcur hheld hx hj hp hc hk hl
    refine ⟨fun hlt => congrArg Host.Outcome.next ?early, fun hle => congrArg Host.Outcome.next ?due⟩
    case early => exact if_neg (fun h => by have := ((wordDue_iff s).mp h).2; omega)
    case due =>
      rw [wordEndState, if_pos ((wordDue_iff s).mpr ⟨hst, hle⟩), enterReply_of_job hx hj hp hc hk hl]
      exact afterWord_of_current hcur hheld
  case slots =>
    intro s su hdue hst hcs hu due taken
    have hkind : boundaryKind s = some (slotBoundary s.seq su) :=
      boundaryKind_of_slot hdue (by simp [isFilling, hst]) hcs hu
    refine ⟨fun hn hlt => ?early, fun hn hle => ?start, fun hn hlt => ?wait, fun left hs h2 => ?count,
      fun left hs h1 => ?result⟩
    case early =>
      rw [slotBoundary_of_none hn, if_neg (by omega)] at hkind
      exact congrArg Host.Outcome.next (slotStartState_of_early (by rw [hkind]; exact nofun))
    case start =>
      rw [slotBoundary_of_none hn, if_pos hle] at hkind
      exact congrArg Host.Outcome.next (slotStartState_of_due hkind hu)
    case wait =>
      rw [slotBoundary_of_none hn, if_neg (by omega)] at hkind
      have hsame : { s.corr with
          slot := some { su with periodsLeft := su.periodsLeft.map (fun k => k - 1) } } = s.corr := by
        have : { su with periodsLeft := su.periodsLeft.map (fun k => k - 1) } = su := by
          rw [hn, Option.map_none, ← hn]
        rw [this, ← hu]
      have hstep := periodBoundaryState_of_slot hkind hcs hu
      rw [hsame] at hstep
      exact congrArg Host.Outcome.next hstep
    case count =>
      rw [slotBoundary_of_some hs, if_neg (by omega)] at hkind
      have hstep := periodBoundaryState_of_slot hkind hcs hu
      rw [hs] at hstep
      exact congrArg Host.Outcome.next hstep
    case result =>
      rw [slotBoundary_of_some hs, if_pos h1] at hkind
      intro x heard
      have hstep := slotResultState_of_due hkind hu
      refine ⟨fun hlt => congrArg Host.Outcome.next ?_, fun hge => congrArg Host.Outcome.next ?_⟩
      · exact hstep.trans (if_pos hlt)
      · exact hstep.trans (if_neg (by omega))

end Sys2Proof.Machine
end

section
/-! What a completed command changes (R90, R110, R152 to R154). -/

namespace Sys2Proof.Machine

/-! ### Relearning and isolation on one pair -/

theorem relearnAndIsolate_eq {s : State} {p : PairNo} {h k : Nat} (hk : (s.pair p).positionOf h = some k) :
    relearnAndIsolate h p s = isolate p k (relearnRange p k (s.pair p).n s) := by
  simp only [relearnAndIsolate, hk, Option.getD_some]

theorem sigAt_relearnAndIsolate {s : State} {p : PairNo} {h k : Nat}
    (hk : (s.pair p).positionOf h = some k) (q : PairNo) {i : Nat} (h1 : 1 ≤ i) (h2 : i ≤ 192) :
    (relearnAndIsolate h p s).sigAt q i =
      if q = p ∧ k ≤ i ∧ i ≤ (s.pair p).n then relearnEntry (s.sigAt q i) else s.sigAt q i := by
  rw [relearnAndIsolate_eq hk]
  exact sigAt_relearnRange (positionOf_eq_some hk).1 h1 h2 s

theorem findings_relearnAndIsolate {s : State} {p : PairNo} {h k : Nat}
    (hk : (s.pair p).positionOf h = some k) :
    (relearnAndIsolate h p s).findings = s.findings.map (isolateEntry p k) := by
  rw [relearnAndIsolate_eq hk]
  exact congrArg (List.map (isolateEntry p k)) (relearnRange_findings ..)

theorem le_n_of_positionOf {pr : Pair} {h k : Nat} (hk : pr.positionOf h = some k) : k ≤ pr.n := by
  obtain ⟨i, hi, rfl⟩ := Option.map_eq_some_iff.mp hk
  exact (List.findIdx?_eq_some_iff_getElem.mp hi).1

theorem partner_ne (p : PairNo) : partner p ≠ p := by revert p; decide

theorem housing_congr {s t : State} (h : t.lineMap = s.lineMap) (k : Nat) : t.housing k = s.housing k := by
  rw [State.housing, h, State.housing]

theorem pair_congr {s t : State} (h : t.lineMap = s.lineMap) (p : PairNo) : t.pair p = s.pair p := by
  rw [State.pair, h, State.pair]

/-! ### SELECT_PUMP and TRIM_GAIN (R152) -/

/-- The housing's pump as SELECT_PUMP leaves it; TRIM_GAIN writes no field. -/
def pumpWritten (p : PairNo) (c : CommandFields) (s : State) : State :=
  if c.opcode = .selectPump then
    s.setHousing c.housing (fun e =>
      { e with pump := tableMap e.pump (pairGroup p) (fun _ => pumpOf c.argument.toNat) })
  else s

theorem pumpWritten_pair (p : PairNo) (c : CommandFields) (s : State) (q : PairNo) :
    (pumpWritten p c s).pair q = s.pair q := by unfold pumpWritten; split <;> rfl

theorem pumpWritten_sigAt (p : PairNo) (c : CommandFields) (s : State) (q : PairNo) (i : Nat) :
    (pumpWritten p c s).sigAt q i = s.sigAt q i := by unfold pumpWritten; split <;> rfl

theorem pumpWritten_findings (p : PairNo) (c : CommandFields) (s : State) :
    (pumpWritten p c s).findings = s.findings := by unfold pumpWritten; split <;> rfl

theorem pumpWritten_pump {p : PairNo} {c : CommandFields} {s : State} (h : c.opcode = .selectPump)
    (h1 : 1 ≤ c.housing) (h2 : c.housing ≤ 192) :
    tableGet ((pumpWritten p c s).housing c.housing).pump (pairGroup p) .unknown =
      pumpOf c.argument.toNat := by
  rw [pumpWritten, if_pos h, State.housing_setHousing _ _ _ _ h1 h2 h1, if_pos rfl,
    tableGet_tableMap _ _ _ _ _ (by unfold pairGroup; omega), if_pos rfl]

/-- Each pair concerned is relearned and isolated from the housing on. -/
theorem completeShared_eq (p : PairNo) (c : CommandFields) (s : State) : completeShared p c s =
    (pairsConcerned (pumpWritten p c s) p c.housing).foldl
      (fun t q => relearnAndIsolate c.housing q t) (pumpWritten p c s) := rfl

section
variable {p : PairNo} {c : CommandFields} {s : State} {k : Nat}

/-- The partner pair is concerned as well. -/
theorem completeShared_of_partner (hp : (s.pair p).state = .routed)
    (hk : (s.pair p).positionOf c.housing = some k) (hq : (s.pair (partner p)).state = .routed)
    (hthrough : (s.pair (partner p)).routesThrough c.housing = true) :
    completeShared p c s =
      relearnAndIsolate c.housing (partner p) (relearnAndIsolate c.housing p (pumpWritten p c s)) := by
  have hthere : (s.pair p).routesThrough c.housing = true := by rw [Pair.routesThrough, hk]; rfl
  have hpairs : pairsConcerned (pumpWritten p c s) p c.housing = [p, partner p] := by
    simp [pairsConcerned, pumpWritten_pair, hp, hq, hthere, hthrough]
  rw [completeShared_eq, hpairs]
  rfl

/-- The pair alone is concerned. -/
theorem completeShared_of_alone (hp : (s.pair p).state = .routed)
    (hk : (s.pair p).positionOf c.housing = some k)
    (hq : ¬ ((s.pair (partner p)).state = .routed ∧
      (s.pair (partner p)).routesThrough c.housing = true)) :
    completeShared p c s = relearnAndIsolate c.housing p (pumpWritten p c s) := by
  have hthere : (s.pair p).routesThrough c.housing = true := by rw [Pair.routesThrough, hk]; rfl
  have hpairs : pairsConcerned (pumpWritten p c s) p c.housing = [p] := by
    simp only [not_and, Bool.not_eq_true] at hq
    simpa [pairsConcerned, pumpWritten_pair, hp, hthere, List.filter_cons] using hq
  rw [completeShared_eq, hpairs]
  rfl

theorem completeShared_lineMap (p : PairNo) (c : CommandFields) (s : State) :
    (completeShared p c s).lineMap = (pumpWritten p c s).lineMap :=
  List.foldlRecOn (motive := fun t : State => t.lineMap = (pumpWritten p c s).lineMap) _ _ rfl
    fun _ ht _ _ => (relearnAndIsolate_lineMap ..).trans ht

theorem relearnAndIsolate_pumpWritten_sigAt (hk : (s.pair p).positionOf c.housing = some k) (q : PairNo)
    {i : Nat} (h1 : 1 ≤ i) (h2 : i ≤ 192) :
    (relearnAndIsolate c.housing p (pumpWritten p c s)).sigAt q i =
      if q = p ∧ k ≤ i ∧ i ≤ (s.pair p).n then relearnEntry (s.sigAt q i) else s.sigAt q i := by
  have hk' : ((pumpWritten p c s).pair p).positionOf c.housing = some k := by rw [pumpWritten_pair, hk]
  rw [sigAt_relearnAndIsolate hk' q h1 h2, pumpWritten_pair, pumpWritten_sigAt]

theorem relearnAndIsolate_pumpWritten_findings (hk : (s.pair p).positionOf c.housing = some k) :
    (relearnAndIsolate c.housing p (pumpWritten p c s)).findings = s.findings.map (isolateEntry p k) := by
  have hk' : ((pumpWritten p c s).pair p).positionOf c.housing = some k := by rw [pumpWritten_pair, hk]
  rw [findings_relearnAndIsolate hk', pumpWritten_findings]

theorem relearnAndIsolate_pumpWritten_pair (q : PairNo) :
    (relearnAndIsolate c.housing p (pumpWritten p c s)).pair q = s.pair q :=
  (pair_congr (relearnAndIsolate_lineMap ..) q).trans (pumpWritten_pair ..)

theorem completeShared_sigAt (hp : (s.pair p).state = .routed)
    (hk : (s.pair p).positionOf c.housing = some k) (q : PairNo) {i : Nat} (h1 : 1 ≤ i) (h2 : i ≤ 192) :
    (completeShared p c s).sigAt q i =
      if q = p ∧ k ≤ i ∧ i ≤ (s.pair p).n then relearnEntry (s.sigAt p i)
      else if q = partner p ∧ (s.pair q).state = .routed ∧ i ≤ (s.pair q).n ∧
        (∃ k', (s.pair q).positionOf c.housing = some k' ∧ k' ≤ i) then relearnEntry (s.sigAt q i)
      else s.sigAt q i := by
  by_cases hq : (s.pair (partner p)).state = .routed ∧ (s.pair (partner p)).routesThrough c.housing = true
  · obtain ⟨k', hk'⟩ := Option.isSome_iff_exists.mp hq.2
    rw [completeShared_of_partner hp hk hq.1 hq.2, sigAt_relearnAndIsolate
      (by rw [relearnAndIsolate_pumpWritten_pair]; exact hk') q h1 h2, relearnAndIsolate_pumpWritten_pair,
      relearnAndIsolate_pumpWritten_sigAt hk q h1 h2]
    by_cases hqp : q = p
    · subst hqp
      simp [(partner_ne _).symm]
    · by_cases hqq : q = partner p
      · subst hqq
        simp [hqp, hq.1, hk', and_comm]
      · simp [hqp, hqq]
  · rw [completeShared_of_alone hp hk hq, relearnAndIsolate_pumpWritten_sigAt hk q h1 h2]
    have hnone : ¬ (q = partner p ∧ (s.pair q).state = .routed ∧ i ≤ (s.pair q).n ∧
        (∃ k', (s.pair q).positionOf c.housing = some k' ∧ k' ≤ i)) := by
      rintro ⟨rfl, hr, -, k', hk', -⟩
      exact hq ⟨hr, by rw [Pair.routesThrough, hk']; rfl⟩
    rw [if_neg hnone]
    by_cases hqp : q = p
    · rw [hqp]
    · simp only [hqp, false_and, if_false]

end

/-! ### MUTE and UNMUTE (R153) -/

/-- The entries a MUTE or UNMUTE returns to learning: from the housing's position on where it acts outbound,
else that position's where it acts on the return. -/
def muteRelearned (p : PairNo) (arg : BitVec 16) (k : Nat) (s : State) : State :=
  if arg.getLsbD 0 then relearnRange p k (s.pair p).n s
  else if arg.getLsbD 1 then relearnRange p k k s else s

theorem muteRelearned_frame (p : PairNo) (arg : BitVec 16) (k : Nat) (s : State) :
    (muteRelearned p arg k s).lineMap = s.lineMap ∧ (muteRelearned p arg k s).findings = s.findings := by
  unfold muteRelearned
  split
  · exact ⟨relearnRange_lineMap .., relearnRange_findings ..⟩
  · split
    · exact ⟨relearnRange_lineMap .., relearnRange_findings ..⟩
    · exact ⟨rfl, rfl⟩

theorem sigAt_muteRelearned {p : PairNo} {arg : BitVec 16} {k : Nat} {s : State} (hk : 1 ≤ k)
    (hkn : k ≤ (s.pair p).n) (q : PairNo) {i : Nat} (h1 : 1 ≤ i) (h2 : i ≤ 192) :
    (muteRelearned p arg k s).sigAt q i =
      if q = p ∧ ((arg.getLsbD 0 = true ∧ k ≤ i ∧ i ≤ (s.pair p).n) ∨ (arg.getLsbD 1 = true ∧ i = k)) then
        relearnEntry (s.sigAt p i)
      else s.sigAt q i := by
  have hp : ∀ {a b : Nat}, (if q = p ∧ a ≤ i ∧ i ≤ b then relearnEntry (s.sigAt q i) else s.sigAt q i) =
      if q = p ∧ a ≤ i ∧ i ≤ b then relearnEntry (s.sigAt p i) else s.sigAt q i := by
    intro a b
    by_cases h : q = p
    · rw [h]
    · simp only [h, false_and, if_false]
  unfold muteRelearned
  by_cases h0 : arg.getLsbD 0 = true
  · rw [if_pos h0, sigAt_relearnRange hk h1 h2, hp]
    exact if_congr (and_congr_right fun _ => by simp only [h0, true_and]; omega) rfl rfl
  · rw [if_neg h0]
    by_cases h1' : arg.getLsbD 1 = true
    · rw [if_pos h1', sigAt_relearnRange hk h1 h2, hp]
      exact if_congr (and_congr_right fun _ => by simp only [h0, h1', Bool.false_eq_true, false_and, false_or, true_and]; omega) rfl rfl
    · rw [if_neg h1', if_neg (by simp only [h0, h1', Bool.false_eq_true, false_and, or_self, and_false, not_false_eq_true])]

section
variable (p : PairNo) (c : CommandFields) (s : State)

/-- The position of a command's housing on a route; 0 where it is not on it. -/
def positionFor (p : PairNo) (c : CommandFields) (s : State) : Nat := ((s.pair p).positionOf c.housing).getD 0

theorem completeMute_eq (m : Bool) : completeMute p c m s =
    let r := muteRelearned p c.argument (positionFor p c s)
      (s.setHousing c.housing (writeMutes p c.argument m))
    if m then isolate p (positionFor p c s) r else r := rfl

theorem completeMute_lineMap (m : Bool) : (completeMute p c m s).lineMap =
    (s.setHousing c.housing (writeMutes p c.argument m)).lineMap := by
  rw [completeMute_eq]
  cases m <;> exact (muteRelearned_frame ..).1

/-- The loopback selection that SET_LOOPBACK writes (R154). -/
def loopbackWritten (p : PairNo) (c : CommandFields) (s : State) : State :=
  s.setHousing c.housing (fun e =>
    { e with loopback := tableMap e.loopback p.val (fun _ => some (Fin.ofNat 8 c.argument.toNat)) })

theorem completeLoopback_eq : completeLoopback p c s =
    relearnRange p (positionFor p c s) (positionFor p c s) (loopbackWritten p c s) := rfl

end

section
variable {p : PairNo} {c : CommandFields} {s : State} {k : Nat} (hk : (s.pair p).positionOf c.housing = some k)
include hk

theorem positionFor_eq : positionFor p c s = k := by rw [positionFor, hk, Option.getD_some]

theorem completeMute_findings (m : Bool) : (completeMute p c m s).findings =
    if m then s.findings.map (isolateEntry p k) else s.findings := by
  rw [completeMute_eq, positionFor_eq hk]
  cases m with
  | false => exact (muteRelearned_frame ..).2
  | true => exact congrArg (List.map (isolateEntry p k)) (muteRelearned_frame ..).2

theorem completeMute_sigAt (m : Bool) (q : PairNo) {i : Nat} (h1 : 1 ≤ i) (h2 : i ≤ 192) :
    (completeMute p c m s).sigAt q i =
      if q = p ∧ ((c.argument.getLsbD 0 = true ∧ k ≤ i ∧ i ≤ (s.pair p).n) ∨
        (c.argument.getLsbD 1 = true ∧ i = k)) then relearnEntry (s.sigAt p i) else s.sigAt q i := by
  rw [completeMute_eq, positionFor_eq hk]
  have hsig := sigAt_muteRelearned (arg := c.argument)
    (s := s.setHousing c.housing (writeMutes p c.argument m)) (positionOf_eq_some hk).1
    (le_n_of_positionOf hk) q h1 h2
  cases m <;> exact hsig

end

/-- The fields a MUTE or UNMUTE writes. -/
theorem writeMutes_mutes (p : PairNo) (arg : BitVec 16) (m : Bool) (e : Housing) :
    tableGet (writeMutes p arg m e).outMute p.val false =
      (if arg.getLsbD 0 then m else tableGet e.outMute p.val false) ∧
    tableGet (writeMutes p arg m e).retMute p.val false =
      (if arg.getLsbD 1 then m else tableGet e.retMute p.val false) := by
  have hset : ∀ v : Vector Bool 16, tableGet (tableMap v p.val (fun _ => m)) p.val false = m := fun v => by
    rw [tableGet_tableMap _ _ _ _ _ p.isLt, if_pos rfl]
  constructor
  · by_cases h : arg.getLsbD 0 = true
    · simp only [writeMutes, if_pos h, hset]
    · simp only [writeMutes, if_neg h]
  · by_cases h : arg.getLsbD 1 = true
    · simp only [writeMutes, if_pos h, hset]
    · simp only [writeMutes, if_neg h]

theorem completeCommand_of_shared {c : CommandFields} (h : sharedEffect c.opcode = true) (p : PairNo)
    (s : State) : completeCommand p c s = completeShared p c s := by
  cases hop : c.opcode <;> simp_all [sharedEffect, completeCommand]

theorem completeCommand_of_mute {c : CommandFields} {m : Bool}
    (h : c.opcode = if m then Opcode.mute else .unmute) (p : PairNo) (s : State) :
    completeCommand p c s = completeMute p c m s := by
  cases m with
  | true => rw [if_pos rfl] at h; simp only [completeCommand, h]
  | false => rw [if_neg Bool.false_ne_true] at h; simp only [completeCommand, h]

/-- Settles O52: each completed command by its opcode. -/
theorem completedCommandChangesMap : Obligations.CompletedCommandChangesMap := by
  unfold Obligations.CompletedCommandChangesMap
  intro p c s k hp hk h1 h2 hn hnq t relearned isolated
  have hsame : SameMap s t := SameMap.completeCommand p c s
  refine ⟨completeCommand_sched .., completeCommand_seq .., Vector.ext fun i hi => hsame.pair ⟨i, hi⟩,
    fun hshared => ?shared, fun hop v hv harg => ?pump, fun m hop => ?mute, fun hop => ?loop,
    fun hop => ?none⟩
  case shared =>
    have ht : t = completeShared p c s := completeCommand_of_shared hshared p s
    rw [ht]
    refine ⟨fun q i hi hi' => completeShared_sigAt hp hk q hi hi', fun k' hq hk' => ?both, fun hq => ?alone⟩
    case both =>
      rw [completeShared_of_partner hp hk hq (by rw [Pair.routesThrough, hk']; rfl),
        findings_relearnAndIsolate (by rw [relearnAndIsolate_pumpWritten_pair]; exact hk'),
        relearnAndIsolate_pumpWritten_findings hk, List.map_map]
      rfl
    case alone =>
      rw [completeShared_of_alone hp hk (fun h => hq h.1), relearnAndIsolate_pumpWritten_findings hk]
      rfl
  case pump =>
    have ht : t = completeShared p c s := completeCommand_of_shared (by rw [hop]; rfl) p s
    have hpumps : ∀ v ∈ [(1, PumpSel.primary), (2, .spare), (3, .both)], pumpOf v.1 = v.2 := by decide
    rw [ht, housing_congr (completeShared_lineMap p c s), pumpWritten_pump hop h1 h2, harg]
    exact hpumps v hv
  case mute =>
    have ht : t = completeMute p c m s := completeCommand_of_mute hop p s
    have hhousing : t.housing c.housing = writeMutes p c.argument m (s.housing c.housing) := by
      rw [ht, housing_congr (completeMute_lineMap p c s m), State.housing_setHousing _ _ _ _ h1 h2 h1, if_pos rfl]
    obtain ⟨hout, hret⟩ := writeMutes_mutes p c.argument m (s.housing c.housing)
    rw [hhousing]
    refine ⟨hout, hret, ?_, fun q i hi hi' => ?_⟩
    · rw [ht]; exact completeMute_findings hk m
    · rw [ht]; exact completeMute_sigAt hk m q hi hi'
  case loop =>
    have ht : t = relearnRange p k k (loopbackWritten p c s) := by
      rw [← positionFor_eq hk, ← completeLoopback_eq]
      simp only [t, completeCommand, hop]
    rw [ht]
    refine ⟨?_, relearnRange_findings .., fun q i hi hi' => ?_⟩
    · rw [housing_congr (relearnRange_lineMap ..), loopbackWritten, State.housing_setHousing _ _ _ _ h1 h2 h1, if_pos rfl,
        tableGet_tableMap _ _ _ _ _ p.isLt, if_pos rfl]
    · rw [sigAt_relearnRange (positionOf_eq_some hk).1 hi hi']
      by_cases h : q = p ∧ i = k
      · obtain ⟨rfl, rfl⟩ := h
        rw [if_pos ⟨rfl, le_rfl, le_rfl⟩, if_pos ⟨rfl, rfl⟩]
        rfl
      · rw [if_neg (fun e => h ⟨e.1, by omega⟩), if_neg h]
        rfl
  case none => rcases hop with h | h | h <;> exact by simp only [t, completeCommand, h]

end Sys2Proof.Machine
end

section
/-! The decision of a word and the end of an exchange (R134, R145 to R151, R155, R157, R165). -/

namespace Sys2Proof.Machine

/-! ### The outcome (R145 to R148) -/

theorem judgeWord_retry_iff (w : CmdWord) (toggle : Bool) (reply : Option Reply) :
    judgeWord w toggle reply = .retry ↔ ∀ r, reply = some r → r.a = false ∨ r.t ≠ toggle := by
  cases reply with
  | none => simp [judgeWord]
  | some r =>
    cases ha : r.a with
    | false => simp [judgeWord, ha]
    | true =>
      by_cases ht : r.t = toggle
      · simp only [judgeWord, ha, ht, Option.some.injEq, forall_eq', ne_eq, not_true_eq_false, if_false,
          Bool.not_true, Bool.false_eq_true, Bool.true_eq_false, or_self, iff_false]
        split
        · exact nofun
        · split <;> exact nofun
      · simp [judgeWord, ha, ht]

theorem judgeWord_ne_exhausted (w : CmdWord) (toggle : Bool) (reply : Option Reply) :
    judgeWord w toggle reply ≠ .exhausted := by
  unfold judgeWord
  repeat' split
  all_goals exact nofun

theorem judgeWord_refused_iff (w : CmdWord) (toggle : Bool) (reply : Option Reply) :
    judgeWord w toggle reply = .refused ↔
      ∃ r, reply = some r ∧ r.a = true ∧ r.t = toggle ∧ r.c = false ∧ w ≠ .nopPrefix := by
  cases reply with
  | none => simp [judgeWord]
  | some r =>
    cases ha : r.a with
    | false => simp [judgeWord, ha]
    | true =>
      by_cases ht : r.t = toggle
      · by_cases hw : w = .nopPrefix
        · simp [judgeWord, ha, ht, hw]
        · cases hc : r.c <;> simp [judgeWord, ha, ht, hw, hc]
      · simp [judgeWord, ha, ht]

theorem spendTries_of_ne_retry {o : WordOutcome} (h : o ≠ .retry) (m n : Nat) : spendTries m n o = o :=
  if_neg fun e => h e.1

theorem spendTries_retry (m n : Nat) :
    spendTries m n .retry = if m + 1 ≤ n then .exhausted else .retry := by simp [spendTries]

section
variable (retryMax : Nat) (s : State)

theorem wordOutcome_unresolved_iff : wordOutcome retryMax s = .retry ∨ wordOutcome retryMax s = .exhausted ↔
    ∀ r, readReply s.channel.exchange.slots = some r → r.a = false ∨ r.t ≠ s.channel.exchange.toggle := by
  rw [← judgeWord_retry_iff s.channel.exchange.word, wordOutcome]
  by_cases h : judgeWord s.channel.exchange.word s.channel.exchange.toggle
      (readReply s.channel.exchange.slots) = .retry
  · rw [h, spendTries_retry]
    split <;> simp
  · rw [spendTries_of_ne_retry h]
    exact or_iff_left (judgeWord_ne_exhausted _ _ _)

theorem lt_of_wordOutcome_exhausted (h : wordOutcome retryMax s = .exhausted) :
    retryMax < s.channel.exchange.tries := by
  by_contra hle
  have hjudged : spendTries retryMax s.channel.exchange.tries
      (judgeWord s.channel.exchange.word s.channel.exchange.toggle (readReply s.channel.exchange.slots)) =
      judgeWord _ _ _ := if_neg fun e => by omega
  exact judgeWord_ne_exhausted _ _ _ (hjudged.symm.trans h)

theorem le_of_wordOutcome_retry (h : wordOutcome retryMax s = .retry) :
    s.channel.exchange.tries ≤ retryMax := by
  by_contra hlt
  unfold wordOutcome spendTries at h
  split at h
  · cases h
  · next hn => exact hn ⟨h, by omega⟩

theorem wordOutcome_refused_iff : wordOutcome retryMax s = .refused ↔
    ∃ r, readReply s.channel.exchange.slots = some r ∧ r.a = true ∧ r.t = s.channel.exchange.toggle ∧
      r.c = false ∧ s.channel.exchange.word ≠ .nopPrefix := by
  rw [← judgeWord_refused_iff, wordOutcome]
  by_cases h : judgeWord s.channel.exchange.word s.channel.exchange.toggle
      (readReply s.channel.exchange.slots) = .retry
  · rw [h, spendTries_retry]
    split <;> simp
  · rw [spendTries_of_ne_retry h]

end

theorem stepAfter_eq (w : CmdWord) (op : Opcode) : stepAfter w op =
    if w = .nopPrefix then .word .word1
    else if w = .word1 ∧ op = .trimGain then .word .word2 else .verify := by
  cases w with
  | nopPrefix => rfl
  | word1 => by_cases h : op = .trimGain <;> simp [stepAfter, h]
  | word2 => rfl

theorem CommandFields.decided_eq (o : WordOutcome) (w : CmdWord) (r : Option Reply) (c : CommandFields) :
    c.decided o w r = { c with
      reply := noteReply w r c.reply
      next := if o = .succeeded then stepAfter w c.opcode else c.next
      completed := if o = .succeeded then decide (stepAfter w c.opcode = .verify) else c.completed } := by
  cases o <;> rfl

/-! ### The toggle of a housing (R1, R149) -/

/-- A write of other fields of a housing leaves every toggle. -/
theorem toggleOf_setHousing {f : Housing → Housing} (hf : ∀ e, (f e).toggle = e.toggle) (s : State)
    (h k g : Nat) : (s.setHousing h f).toggleOf k g = s.toggleOf k g := by
  have htoggle : ((s.setHousing h f).housing k).toggle = (s.housing k).toggle := by
    simp only [State.housing, State.setHousing]
    by_cases hk : k - 1 < 192
    · rw [tableGet_tableMap _ _ _ _ _ hk]
      split
      · exact hf _
      · rfl
    · rw [tableGet_of_le _ _ _ (by omega), tableGet_of_le _ _ _ (by omega)]
  rw [State.toggleOf, htoggle, State.toggleOf]

theorem toggleOf_setToggle {h g : Nat} (h1 : 1 ≤ h) (h2 : h ≤ 192) (hg : g < 8) (s : State)
    (t : Option Bool) : (s.setToggle h g t).toggleOf h g = t := by
  rw [State.toggleOf, State.setToggle, State.housing_setHousing _ _ _ _ h1 h2 h1, if_pos rfl,
    tableGet_tableMap _ _ _ _ _ hg, if_pos rfl]

theorem toggleOf_congr {s t : State} (h : t.lineMap = s.lineMap) (k g : Nat) :
    t.toggleOf k g = s.toggleOf k g := by rw [State.toggleOf, housing_congr h, State.toggleOf]

/-- A completed command writes no toggle. -/
theorem toggleOf_completeCommand (p : PairNo) (c : CommandFields) (s : State) (k g : Nat) :
    (completeCommand p c s).toggleOf k g = s.toggleOf k g := by
  have hshared : (completeShared p c s).toggleOf k g = s.toggleOf k g := by
    rw [toggleOf_congr (completeShared_lineMap p c s), pumpWritten]
    split
    · exact toggleOf_setHousing (by intro; rfl) ..
    · rfl
  have hmute : ∀ m, (completeMute p c m s).toggleOf k g = s.toggleOf k g := fun m =>
    (toggleOf_congr (completeMute_lineMap p c s m) k g).trans (toggleOf_setHousing (by intro; rfl) ..)
  have hloop : (completeLoopback p c s).toggleOf k g = s.toggleOf k g := by
    rw [completeLoopback_eq]
    exact (toggleOf_congr (relearnRange_lineMap ..) k g).trans (toggleOf_setHousing (by intro; rfl) ..)
  unfold completeCommand
  cases c.opcode with
  | selectPump | trimGain => exact hshared
  | mute => exact hmute true
  | unmute => exact hmute false
  | setLoopback => exact hloop
  | nop | queryPumps | queryTemp => rfl

/-! ### What a completed command reads (R152 to R154) -/

/-- The Line Map, the Signature Table and the finding list are the same. -/
def TablesAgree (s t : State) : Prop := s.lineMap = t.lineMap ∧ s.sig = t.sig ∧ s.findings = t.findings

namespace TablesAgree

variable {s t : State}

theorem setHousing (h : TablesAgree s t) (k : Nat) (f : Housing → Housing) :
    TablesAgree (s.setHousing k f) (t.setHousing k f) := by
  obtain ⟨hmap, hsig, hfind⟩ := h
  exact ⟨by simp only [State.setHousing, hmap], hsig, hfind⟩

theorem setSig (h : TablesAgree s t) (p : PairNo) (k : Nat) (f : SigEntry → SigEntry) :
    TablesAgree (s.setSig p k f) (t.setSig p k f) := by
  obtain ⟨hmap, hsig, hfind⟩ := h
  exact ⟨hmap, by simp only [State.setSig, hsig], hfind⟩

theorem isolate (h : TablesAgree s t) (p : PairNo) (k : Nat) :
    TablesAgree (Machine.isolate p k s) (Machine.isolate p k t) :=
  ⟨h.1, h.2.1, congrArg (List.map (isolateEntry p k)) h.2.2⟩

theorem relearnRange (h : TablesAgree s t) (p : PairNo) (a b : Nat) :
    TablesAgree (Machine.relearnRange p a b s) (Machine.relearnRange p a b t) :=
  List.foldl_rel h fun k _ _ _ hagree => hagree.setSig p k _

theorem pair (h : TablesAgree s t) (p : PairNo) : s.pair p = t.pair p := pair_congr h.1 p

theorem relearnAndIsolate (h : TablesAgree s t) (k : Nat) (p : PairNo) :
    TablesAgree (Machine.relearnAndIsolate k p s) (Machine.relearnAndIsolate k p t) := by
  unfold Machine.relearnAndIsolate
  rw [h.pair p]
  exact (h.relearnRange _ _ _).isolate _ _

theorem completeShared (h : TablesAgree s t) (p : PairNo) (c : CommandFields) :
    TablesAgree (Machine.completeShared p c s) (Machine.completeShared p c t) := by
  have hpump : TablesAgree (pumpWritten p c s) (pumpWritten p c t) := by
    unfold pumpWritten
    split
    · exact h.setHousing _ _
    · exact h
  have hpairs : pairsConcerned (pumpWritten p c s) p c.housing =
      pairsConcerned (pumpWritten p c t) p c.housing := by
    simp only [pairsConcerned, hpump.pair]
  rw [completeShared_eq, completeShared_eq, hpairs]
  exact List.foldl_rel hpump fun r _ _ _ hagree => hagree.relearnAndIsolate _ r

theorem positionFor (h : TablesAgree s t) (p : PairNo) (c : CommandFields) :
    Machine.positionFor p c s = Machine.positionFor p c t := by
  rw [Machine.positionFor, h.pair p, Machine.positionFor]

theorem completeMute (h : TablesAgree s t) (p : PairNo) (c : CommandFields) (m : Bool) :
    TablesAgree (Machine.completeMute p c m s) (Machine.completeMute p c m t) := by
  have hwritten := h.setHousing c.housing (writeMutes p c.argument m)
  have hrelearned : TablesAgree
      (muteRelearned p c.argument (Machine.positionFor p c t)
        (s.setHousing c.housing (writeMutes p c.argument m)))
      (muteRelearned p c.argument (Machine.positionFor p c t)
        (t.setHousing c.housing (writeMutes p c.argument m))) := by
    unfold muteRelearned
    rw [hwritten.pair p]
    split
    · exact hwritten.relearnRange _ _ _
    · split
      · exact hwritten.relearnRange _ _ _
      · exact hwritten
  rw [completeMute_eq, completeMute_eq, h.positionFor p c]
  cases m with
  | false => exact hrelearned
  | true => exact hrelearned.isolate _ _

theorem completeLoopback (h : TablesAgree s t) (p : PairNo) (c : CommandFields) :
    TablesAgree (Machine.completeLoopback p c s) (Machine.completeLoopback p c t) := by
  rw [completeLoopback_eq, completeLoopback_eq, h.positionFor p c]
  exact (h.setHousing _ _).relearnRange _ _ _

/-- A completed command reads and writes these tables alone. -/
theorem completeCommand (h : TablesAgree s t) (p : PairNo) (c : CommandFields) :
    TablesAgree (Machine.completeCommand p c s) (Machine.completeCommand p c t) := by
  unfold Machine.completeCommand
  cases c.opcode with
  | selectPump | trimGain => exact h.completeShared p c
  | mute => exact h.completeMute p c true
  | unmute => exact h.completeMute p c false
  | setLoopback => exact h.completeLoopback p c
  | nop | queryPumps | queryTemp => exact h

end TablesAgree

/-! ### The decision, by its outcome -/

theorem writeJobToggle_eq {j : Job} {p : PairNo} {c : CommandFields} (hp : j.pair = some p)
    (hc : j.cmd = some c) (t : Option Bool) (s : State) :
    writeJobToggle j t s = s.setToggle c.housing (pairGroup p) t := by
  simp only [writeJobToggle, hp, hc]

section
variable {retryMax : Nat} {s : State} {j : Job} {p : PairNo} {c : CommandFields}
  (hj : s.job? s.channel.exchange.job = some j) (hp : j.pair = some p) (hc : j.cmd = some c)
include hj hp hc

theorem decideWord_of_retry (ho : wordOutcome retryMax s = .retry) :
    decideWord retryMax s = notedWord retryMax j s := by
  rw [decideWord_of_job retryMax hj hp hc, ho]
  rfl

theorem decideWord_of_exhausted (ho : wordOutcome retryMax s = .exhausted) : decideWord retryMax s =
    bumpStat .replyFails p ((notedWord retryMax j s).setToggle c.housing (pairGroup p) none) := by
  rw [decideWord_of_job retryMax hj hp hc, ho, ← writeJobToggle_eq hp hc]
  rfl

theorem decideWord_of_refused (ho : wordOutcome retryMax s = .refused) : decideWord retryMax s =
    (notedWord retryMax j s).setToggle c.housing (pairGroup p) (some s.channel.exchange.toggle) := by
  rw [decideWord_of_job retryMax hj hp hc, ho, ← writeJobToggle_eq hp hc]
  rfl

theorem decideWord_of_succeeded (ho : wordOutcome retryMax s = .succeeded) : decideWord retryMax s =
    let agreed := ((notedWord retryMax j s).setToggle c.housing (pairGroup p)
      (some s.channel.exchange.toggle)).setCmd j.number (advanceCommand s.channel.exchange.word)
    if stepAfter s.channel.exchange.word c.opcode = .verify then completeCommand p c agreed else agreed := by
  rw [decideWord_of_job retryMax hj hp hc, ho, ← writeJobToggle_eq hp hc]
  rfl

/-- Of the scheduler's state a decision writes the statistics and the jobs. -/
theorem decideWord_sched : (decideWord retryMax s).sched = { s.sched with
    stats := (decideWord retryMax s).sched.stats
    jobs := (decideWord retryMax s).sched.jobs } := by
  cases ho : wordOutcome retryMax s with
  | retry => rw [decideWord_of_retry hj hp hc ho]; rfl
  | exhausted => rw [decideWord_of_exhausted hj hp hc ho, bumpStat_sched]; rfl
  | refused => rw [decideWord_of_refused hj hp hc ho]; rfl
  | succeeded =>
    rw [decideWord_of_succeeded hj hp hc ho]
    dsimp only
    split
    · rw [completeCommand_sched]; rfl
    · rfl

theorem decideWord_toggleOf (h1 : 1 ≤ c.housing) (h2 : c.housing ≤ 192) :
    (decideWord retryMax s).toggleOf c.housing (pairGroup p) =
      match wordOutcome retryMax s with
      | .retry => s.toggleOf c.housing (pairGroup p)
      | .exhausted => none
      | .refused | .succeeded => some s.channel.exchange.toggle := by
  have hg : pairGroup p < 8 := by unfold pairGroup; omega
  cases ho : wordOutcome retryMax s with
  | retry => rw [decideWord_of_retry hj hp hc ho]; rfl
  | exhausted =>
    rw [decideWord_of_exhausted hj hp hc ho, toggleOf_congr (bumpStat_lineMap ..)]
    exact toggleOf_setToggle h1 h2 hg _ _
  | refused =>
    rw [decideWord_of_refused hj hp hc ho]
    exact toggleOf_setToggle h1 h2 hg _ _
  | succeeded =>
    have hagreed := toggleOf_setToggle h1 h2 hg (notedWord retryMax j s) (some s.channel.exchange.toggle)
    rw [decideWord_of_succeeded hj hp hc ho]
    dsimp only
    split
    · rw [toggleOf_completeCommand]; exact hagreed
    · exact hagreed

theorem decideWord_stats_ports (ho : wordOutcome retryMax s ≠ .exhausted) :
    (decideWord retryMax s).sched.stats = s.sched.stats ∧ (decideWord retryMax s).ports = s.ports := by
  cases h : wordOutcome retryMax s with
  | retry => rw [decideWord_of_retry hj hp hc h]; exact ⟨rfl, rfl⟩
  | exhausted => exact absurd h ho
  | refused => rw [decideWord_of_refused hj hp hc h]; exact ⟨rfl, rfl⟩
  | succeeded =>
    rw [decideWord_of_succeeded hj hp hc h]
    dsimp only
    split
    · rw [completeCommand_sched, completeCommand_ports]; exact ⟨rfl, rfl⟩
    · exact ⟨rfl, rfl⟩

theorem decideWord_tables (ho : wordOutcome retryMax s ≠ .succeeded) :
    (decideWord retryMax s).sig = s.sig ∧ (decideWord retryMax s).findings = s.findings ∧
      (decideWord retryMax s).lineMap.pairs = s.lineMap.pairs := by
  cases h : wordOutcome retryMax s with
  | retry => rw [decideWord_of_retry hj hp hc h]; exact ⟨rfl, rfl, rfl⟩
  | exhausted =>
    rw [decideWord_of_exhausted hj hp hc h, bumpStat_sig, bumpStat_findings, bumpStat_lineMap]
    exact ⟨rfl, rfl, rfl⟩
  | refused => rw [decideWord_of_refused hj hp hc h]; exact ⟨rfl, rfl, rfl⟩
  | succeeded => exact absurd h ho

theorem decideWord_tables_of_succeeded (ho : wordOutcome retryMax s = .succeeded) :
    let agreed := s.setToggle c.housing (pairGroup p) (some s.channel.exchange.toggle)
    TablesAgree (decideWord retryMax s)
      (if stepAfter s.channel.exchange.word c.opcode = .verify then completeCommand p c agreed
        else agreed) := by
  have hagreed : TablesAgree
      (((notedWord retryMax j s).setToggle c.housing (pairGroup p)
        (some s.channel.exchange.toggle)).setCmd j.number (advanceCommand s.channel.exchange.word))
      (s.setToggle c.housing (pairGroup p) (some s.channel.exchange.toggle)) := ⟨rfl, rfl, rfl⟩
  rw [decideWord_of_succeeded hj hp hc ho]
  dsimp only
  split
  · exact hagreed.completeCommand p c
  · exact hagreed

end

/-- A decision leaves line time, the parameters, the sequencer, the intake, the Correlator, the synthetic line
and the queue. -/
theorem decideWord_frame (retryMax : Nat) (s : State) : decideWord retryMax s = { s with
    channel := (decideWord retryMax s).channel
    sched := (decideWord retryMax s).sched
    lineMap := (decideWord retryMax s).lineMap
    sig := (decideWord retryMax s).sig
    findings := (decideWord retryMax s).findings
    ports := (decideWord retryMax s).ports } := by
  rw [← decideWord_lineTime s retryMax, ← decideWord_params s retryMax, ← decideWord_seq s retryMax,
    ← decideWord_intake s retryMax, ← decideWord_corr s retryMax, ← decideWord_synth s retryMax,
    ← decideWord_pending s retryMax]

theorem decideWord_exhausted {retryMax : Nat} {s : State} {j : Job} {p : PairNo} {c : CommandFields}
    (hj : s.job? s.channel.exchange.job = some j) (hp : j.pair = some p) (hc : j.cmd = some c)
    (ho : wordOutcome retryMax s = .exhausted) :
    (decideWord retryMax s).sched.stats[p] = { s.sched.stats[p] with
      replyFails := min ((s.sched.stats[p]).replyFails + 1) 255 } ∧
    ∀ y : Port, ((decideWord retryMax s).port y).pendingSet = (s.port y).pendingSet |||
      (if (s.sched.stats[p]).replyFails = 127 ∧ y = ((s.pair p).owner).getD 0 then 0x040#12
        else 0#12) := by
  rw [decideWord_of_exhausted hj hp hc ho]
  exact ⟨bumpStat_stats .., fun y => bumpStat_pendingSet ..⟩

/-! ### The exchange end -/

section
variable {s : State} {j : Job} {c : CommandFields}

theorem exchangeEndState_of_not_due (h : s.seq.running = false ∨
    s.seq.runChips < s.channel.exchange.endChip ∨ s.channel.exchange.phase ≠ .decided) :
    exchangeEndState s = s := by
  refine if_neg fun hdue => ?_
  simp only [exchangeDue, Bool.and_eq_true, decide_eq_true_eq] at hdue
  obtain ⟨⟨hphase, hrun⟩, hchips⟩ := hdue
  rcases h with h | h | h
  · rw [h] at hrun; cases hrun
  · omega
  · exact h hphase

theorem exchangeEndState_of_due (hj : s.job? s.channel.exchange.job = some j) (hc : j.cmd = some c)
    (hrun : s.seq.running = true) (hchips : s.channel.exchange.endChip ≤ s.seq.runChips)
    (hphase : s.channel.exchange.phase = .decided) :
    exchangeEndState s = afterExchange j c s.channel.exchange (s.setExchange Exchange.none) := by
  have hdue : exchangeDue s = true := by
    simp only [exchangeDue, hrun, hphase, hchips, decide_true, Bool.and_self]
  have hfree : (s.setExchange Exchange.none).job? s.channel.exchange.job = some j := hj
  rw [exchangeEndState, if_pos hdue]
  simp only [hfree, hc]

/-- A cancel or a lapse ends the job (R157, R165). -/
theorem afterExchange_of_stopped {out : JobOutcome}
    (h : (j.cancelPending = true ∧ out = .cancelled) ∨
      (j.cancelPending = false ∧ c.basis = .lapsed ∧ c.completed = false ∧ out = .declined)) (x : Exchange)
    (u : State) : afterExchange j c x u = endUnresolved j x.outcome out u := by
  rcases h with ⟨hcancel, rfl⟩ | ⟨hcancel, hbasis, hdone, rfl⟩
  · rw [afterExchange, if_pos hcancel]
  · rw [afterExchange, if_neg (by rw [hcancel]; exact Bool.false_ne_true), if_pos ⟨hbasis, hdone⟩]

theorem endUnresolved_of_resolved {o : Option WordOutcome} (h : o = some .succeeded ∨ o = some .refused)
    (j : Job) (out : JobOutcome) (u : State) :
    endUnresolved j o out u = arbitrate (endJob j.number out u) := by
  rcases h with rfl | rfl <;> rfl

theorem endUnresolved_of_unresolved {o : Option WordOutcome} {p : PairNo}
    (h : o = some .retry ∨ o = some .exhausted) (hp : j.pair = some p) (hc : j.cmd = some c)
    (out : JobOutcome) (u : State) : endUnresolved j o out u =
      arbitrate (endJob j.number out (u.setToggle c.housing (pairGroup p) none)) := by
  rw [endUnresolved, if_pos h, writeJobToggle_eq hp hc]

/-- Neither a cancel nor a lapse stops the job: the outcome alone decides (R155). -/
theorem afterExchange_of_going_on (hcancel : j.cancelPending = false)
    (hbasis : c.basis ≠ .lapsed ∨ c.completed = true) (x : Exchange) (u : State) :
    (x.outcome = some .retry → afterExchange j c x u = startWord j x.word x.toggle (x.tries + 1) u) ∧
    (x.outcome = some .exhausted → afterExchange j c x u = arbitrate (endJob j.number .noReply u)) ∧
    (x.outcome = some .refused → afterExchange j c x u = arbitrate (endJob j.number .refused u)) ∧
    (x.outcome = some .succeeded →
      (∀ w, c.next = .word w → afterExchange j c x u = sendNext j w u) ∧
      (c.next = .verify → 0 < c.verifySpan → afterExchange j c x u = runPass j u) ∧
      (c.next = .verify → c.verifySpan = 0 →
        afterExchange j c x u = arbitrate (endJob j.number .complete u))) := by
  have hlapse : ¬ (c.basis = .lapsed ∧ c.completed = false) := by
    rintro ⟨hb, hd⟩
    rcases hbasis with h | h
    · exact h hb
    · rw [h] at hd; cases hd
  simp only [afterExchange, hcancel, Bool.false_eq_true, if_false, if_neg hlapse]
  refine ⟨fun h => by rw [h], fun h => by rw [h], fun h => by rw [h], fun h => ?_⟩
  simp only [h]
  refine ⟨fun w hw => by rw [hw], fun hv hspan => ?_, fun hv hspan => ?_⟩
  · simp only [hv, if_pos hspan]
  · simp only [hv, hspan, lt_irrefl, if_false]

end

/-- Settles O51: the decision by its outcome, and the exchange end by its case. -/
theorem wordIsDecidedAndExchangeEnds : Obligations.WordIsDecidedAndExchangeEnds := by
  unfold Obligations.WordIsDecidedAndExchangeEnds
  refine ⟨?decided, ?ends⟩
  case decided =>
    intro retryMax s j p c hj hp hc x g t after
    have hafter : ∀ op, stepAfter s.channel.exchange.word op = after op := fun op => stepAfter_eq x.word op
    refine ⟨decideWord_frame retryMax s, wordOutcome retryMax s, decideWord_exchange retryMax, ?sched,
      wordOutcome_unresolved_iff retryMax s, lt_of_wordOutcome_exhausted retryMax s,
      le_of_wordOutcome_retry retryMax s, wordOutcome_refused_iff retryMax s, fun h1 h2 => ?toggle,
      decideWord_stats_ports hj hp hc, decideWord_exhausted hj hp hc, decideWord_tables hj hp hc,
      fun ho => ?done⟩
    case sched =>
      refine (decideWord_sched hj hp hc).trans
        (congrArg (fun l => { s.sched with stats := t.sched.stats, jobs := l }) ?_)
      rw [decideWord_jobs retryMax hj hp hc]
      refine List.map_congr_left fun k _ => ?_
      by_cases hn : k.number = j.number
      · rw [if_pos hn, if_neg (not_not_intro hn)]
        refine congrArg (fun f => { k with cmd := k.cmd.map f }) (funext fun d => ?_)
        rw [CommandFields.decided_eq, hafter]
        rfl
      · rw [if_neg hn, if_pos hn]
    case toggle => exact decideWord_toggleOf hj hp hc h1 h2
    case done =>
      intro agreed done
      obtain ⟨hmap, hsig, hfind⟩ := decideWord_tables_of_succeeded hj hp hc ho
      rw [hafter] at hmap hsig hfind
      exact ⟨hsig, hfind, hmap⟩
  case ends =>
    intro s j c hj hc x free ends
    refine ⟨fun h => congrArg Host.Outcome.next (exchangeEndState_of_not_due h), fun hrun hchips hphase => ?_⟩
    have hstep : exec .exchangeEnd s = .next (afterExchange j c x free) :=
      congrArg Host.Outcome.next (exchangeEndState_of_due hj hc hrun hchips hphase)
    rw [show (ends = fun o => exec .exchangeEnd s = .next (arbitrate (endJob j.number o free))) from rfl,
      hstep]
    refine ⟨fun p out hp hout hstop => congrArg _ ?unresolved, fun hcancel hout => congrArg _ ?cancelled,
      fun hcancel hbasis hdone hout => congrArg _ ?lapsed, fun hcancel hbasis => ?goesOn⟩
    case unresolved =>
      rw [afterExchange_of_stopped hstop, endUnresolved_of_unresolved hout hp hc]
    case cancelled =>
      rw [afterExchange_of_stopped (.inl ⟨hcancel, rfl⟩), endUnresolved_of_resolved hout]
    case lapsed =>
      rw [afterExchange_of_stopped (.inr ⟨hcancel, hbasis, hdone, rfl⟩), endUnresolved_of_resolved hout]
    case goesOn =>
      obtain ⟨hretry, hexh, href, hsucc⟩ := afterExchange_of_going_on hcancel hbasis x free
      refine ⟨fun h => congrArg _ (hretry h), fun h => congrArg _ (hexh h), fun h => congrArg _ (href h),
        fun h => ?_⟩
      obtain ⟨hword, hverify, hnone⟩ := hsucc h
      exact ⟨fun w hw => congrArg _ (hword w hw), fun hv hspan => congrArg _ (hverify hv hspan),
        fun hv hspan => congrArg _ (hnone hv hspan)⟩

end Sys2Proof.Machine
end

section
/-! What the Signature Table and the Fault Locator leave of the jobs and of the notices (R67 to R69, R96). -/

namespace Sys2Proof.Machine

/-! ### Notices -/

/-- Of the ports, only pending sets differ. -/
def PendingOnly (s t : State) : Prop :=
  ∀ x : Port, t.port x = { s.port x with pendingSet := (t.port x).pendingSet }

namespace PendingOnly

variable {s t u : State}

theorem of_ports (h : t.ports = s.ports) : PendingOnly s t := fun x => by simp only [State.port, h]

theorem trans (h : PendingOnly s t) (h' : PendingOnly t u) : PendingOnly s u := fun x => by
  rw [h' x, h x]

theorem raise (k : Notice) (p : Port) (s : State) : PendingOnly s (raiseNotice k p s) := fun x => by
  by_cases h : x = p
  · subst h; rw [port_raiseNotice_self]
  · rw [port_raiseNotice_ne k h]

theorem raiseIf (c : Prop) [Decidable c] (k : Notice) (p : Port) (s : State) :
    PendingOnly s (if c then raiseNotice k p s else s) := by
  split
  · exact raise k p s
  · exact of_ports rfl

theorem bumpStat (k : SmallStat) (p : PairNo) (s : State) : PendingOnly s (bumpStat k p s) := by
  have hcount : PendingOnly s (s.setStats p (writeSmallStat k (saturating 255
    (readSmallStat k s.sched.stats[p])))) := of_ports rfl
  exact hcount.trans (raiseIf _ _ _ _)

end PendingOnly

theorem noticeMask_overdrive_bit (k : Notice) : (noticeMask k).getLsbD 5 = true ↔ k = .overdrive := by
  cases k <;> decide

theorem noticeMask_statsHalf_bit (k : Notice) : (noticeMask k).getLsbD 6 = true ↔ k = .statsHalf := by
  cases k <;> decide

/-- The notices raised are neither OVERDRIVE nor STATS_HALF. -/
def FindingNotices (s t : State) : Prop :=
  PendingOnly s t ∧ ∀ x : Port,
    (t.port x).pendingSet.getLsbD 5 = (s.port x).pendingSet.getLsbD 5 ∧
    (t.port x).pendingSet.getLsbD 6 = (s.port x).pendingSet.getLsbD 6

namespace FindingNotices

variable {s t u : State}

theorem of_ports (h : t.ports = s.ports) : FindingNotices s t :=
  ⟨.of_ports h, fun x => by simp only [State.port, h, and_self]⟩

theorem trans (h : FindingNotices s t) (h' : FindingNotices t u) : FindingNotices s u :=
  ⟨h.1.trans h'.1, fun x => ⟨(h'.2 x).1.trans (h.2 x).1, (h'.2 x).2.trans (h.2 x).2⟩⟩

theorem raise (k : Notice) (h5 : k ≠ .overdrive) (h6 : k ≠ .statsHalf) (p : Port) (s : State) :
    FindingNotices s (raiseNotice k p s) := by
  have hbit5 := Bool.eq_false_iff.mpr (mt (noticeMask_overdrive_bit k).mp h5)
  have hbit6 := Bool.eq_false_iff.mpr (mt (noticeMask_statsHalf_bit k).mp h6)
  refine ⟨.raise k p s, fun x => ?_⟩
  rw [pendingSet_raiseNotice]
  split
  · simp only [BitVec.getLsbD_or, hbit5, hbit6, Bool.or_false, and_self]
  · simp only [BitVec.or_zero, and_self]

theorem raiseNew (par : Params) (p : PairNo) (s : State) : FindingNotices s (raiseNew par p s) := by
  have hnew := raise .findingNew nofun nofun (noticePort s p) s
  unfold Machine.raiseNew
  dsimp only
  split
  · exact hnew.trans (raise .findingConfirmed nofun nofun _ _)
  · exact hnew

theorem applyDetection (par : Params) (p : PairNo) (stamp : Nat) (d : Detection) (s : State) :
    FindingNotices s (applyDetection par p stamp d s).1 := by
  have hlist : ∀ l, FindingNotices s { s with findings := l } := fun l => of_ports rfl
  unfold Machine.applyDetection
  dsimp only
  repeat' split
  · exact (hlist _).trans (raise .findingConfirmed nofun nofun _ _)
  · exact hlist _
  · exact (hlist _).trans (raiseNew ..)
  · exact hlist _
  · exact hlist _
  · exact (hlist _).trans (raiseNew ..)
  · exact (raise .listFull nofun nofun _ _).trans (raise .listFull nofun nofun _ _)

theorem applyDetections (par : Params) (p : PairNo) (stamp : Nat) (l : List Detection) :
    ∀ s, FindingNotices s (applyDetections par p stamp l s).1 := by
  induction l with
  | nil => exact fun s => of_ports rfl
  | cons d rest ih => exact fun s => (applyDetection par p stamp d s).trans (ih _)

theorem cleanObservations (par : Params) (p : PairNo) (a b : Nat) (records : List EchoRecord)
    (found : List Detection) (s : State) :
    FindingNotices s (cleanObservations par p a b records found s) := by
  unfold Machine.cleanObservations
  dsimp only
  split
  · exact (of_ports rfl : FindingNotices s { s with findings := _ }).trans (raise .findingCleared nofun nofun _ _)
  · exact of_ports rfl

end FindingNotices

/-! ### Jobs -/

/-- The same job, or a waiting CONFIRM job that a request has widened (R109). -/
def Job.WidenedFrom (k j : Job) : Prop :=
  k = { j with
    range := k.range
    progress := k.progress
    q := k.q
    w := k.w } ∧ (k = j ∨ (j.kind = .confirm ∧ j.state = .queued))

theorem Job.WidenedFrom.refl (j : Job) : j.WidenedFrom j := ⟨rfl, .inl rfl⟩

theorem Job.WidenedFrom.trans {i j k : Job} (h : i.WidenedFrom j) (h' : j.WidenedFrom k) :
    i.WidenedFrom k := by
  obtain ⟨heq, hsame | hwait⟩ := h
  · exact hsame ▸ h'
  · obtain ⟨heq', hsame' | hwait'⟩ := h'
    · exact hsame' ▸ ⟨heq, .inr hwait⟩
    · refine ⟨?_, .inr hwait'⟩
      rw [heq'] at heq
      exact heq

/-- The CONFIRM requests of a pass: waiting jobs widened, and new internal ones in free slots (R109). -/
structure ConfirmsTaken (s t : State) : Prop where
  jobs : ∃ (f : Job → Job) (new : List Job), t.sched.jobs = s.sched.jobs.map f ++ new ∧
    (∀ j, (f j).WidenedFrom j) ∧
    ∀ k ∈ new, k.kind = .confirm ∧ k.requester = .internal
  stats : t.sched.stats = s.sched.stats
  results : t.sched.results = s.sched.results

namespace ConfirmsTaken

variable {s t u : State}

theorem of_sched (h : t.sched = s.sched) : ConfirmsTaken s t :=
  ⟨⟨id, [], by simp [h], Job.WidenedFrom.refl, fun _ hk => absurd hk List.not_mem_nil⟩,
    by rw [h], by rw [h]⟩

theorem trans (h : ConfirmsTaken s t) (h' : ConfirmsTaken t u) : ConfirmsTaken s u := by
  obtain ⟨⟨f, new, hjobs, hf, hnew⟩, hstats, hresults⟩ := h
  obtain ⟨⟨g, new', hjobs', hg, hnew'⟩, hstats', hresults'⟩ := h'
  refine ⟨⟨fun j => g (f j), new.map g ++ new', ?_, fun j => (hg _).trans (hf j), fun k hk => ?_⟩,
    hstats'.trans hstats, hresults'.trans hresults⟩
  · rw [hjobs', hjobs, List.map_append, List.map_map, List.append_assoc]
    rfl
  · rcases List.mem_append.mp hk with hk | hk
    · obtain ⟨j, hj, rfl⟩ := List.mem_map.mp hk
      rw [(hg j).1]
      exact hnew j hj
    · exact hnew' k hk

theorem takeConfirm (r : ConfirmRequest) (s : State) : ConfirmsTaken s (takeConfirm r s) := by
  by_cases h : ∃ j ∈ s.sched.jobs, mergeable r.pair j = true
  · rw [takeConfirm_of_waiting h]
    refine ⟨⟨_, [], (List.append_nil _).symm, fun j => ?_,
      fun _ hk => absurd hk List.not_mem_nil⟩, rfl, rfl⟩
    split
    · next hm =>
      obtain ⟨hkind, -, hstate, -⟩ := mergeable_iff.mp hm
      exact ⟨rfl, .inr ⟨hkind, hstate⟩⟩
    · exact .refl j
  · rw [takeConfirm_of_none_waiting (fun j hj hm => h ⟨j, hj, hm⟩)]
    split
    · refine ⟨⟨id, _, by rw [State.addJob_jobs, List.map_id], Job.WidenedFrom.refl, fun k hk => ?_⟩,
        rfl, rfl⟩
      rw [List.mem_singleton.mp hk]
      exact ⟨rfl, rfl⟩
    · exact of_sched rfl

theorem locate (rec : PassRecord) (p : PairNo) (stamp : Nat) (records : List EchoRecord)
    (drifts : List (Nat × Int)) (s : State) :
    ConfirmsTaken s (Machine.locate rec p stamp records drifts s).1 ∧
    FindingNotices s (Machine.locate rec p stamp records drifts s).1 := by
  unfold Machine.locate
  refine List.foldlRecOn (motive := fun t => ConfirmsTaken s t ∧ FindingNotices s t) _ _
    ⟨of_sched (by simp), (FindingNotices.applyDetections ..).trans (.cleanObservations ..)⟩
    fun t ht k _ => ⟨ht.1.trans (takeConfirm ..), ht.2.trans (.of_ports (takeConfirm_ports ..))⟩

/-- Steps 2 and 3 of an evaluation. -/
theorem stepsTwoThree (rec : PassRecord) (records : List EchoRecord) (s : State) :
    ConfirmsTaken s (stepsTwoThree rec records s).1 ∧ FindingNotices s (stepsTwoThree rec records s).1 := by
  have hpass : ∀ m par p l, ConfirmsTaken s (sigPass m par p l s).1 ∧
      FindingNotices s (sigPass m par p l s).1 := fun m par p l =>
    ⟨of_sched (by simp), .of_ports (by simp)⟩
  unfold Machine.stepsTwoThree
  dsimp only
  split
  · exact ⟨of_sched rfl, .of_ports rfl⟩
  · split
    · obtain ⟨hjobs, hports⟩ := hpass (sigMode rec.kind rec.track (isOverdrive rec)) rec.params ‹_› records
      obtain ⟨hjobs', hports'⟩ := locate rec _ _ _ _ _
      exact ⟨hjobs.trans hjobs', hports.trans hports'⟩
    · exact hpass ..
    · exact hpass ..

section
variable (h : ConfirmsTaken s t)
include h

theorem job? {n : Nat} {j : Job} (hj : s.job? n = some j) :
    ∃ k, t.job? n = some k ∧ k.WidenedFrom j := by
  obtain ⟨f, new, hjobs, hf, -⟩ := h.jobs
  refine ⟨f j, ?_, hf j⟩
  have hnumber : ((fun k : Job => decide (k.number = n)) ∘ f) = fun k => decide (k.number = n) := by
    funext k
    show decide ((f k).number = n) = _
    rw [(hf k).1]
  have hmap : (s.sched.jobs.map f).find? (fun k => decide (k.number = n)) = some (f j) := by
    rw [List.find?_map, hnumber, show List.find? _ _ = some j from hj]; rfl
  rw [State.job?, hjobs, List.find?_append, hmap]
  rfl

/-- The port that asked for a job is as before: a job that is new is internal. -/
theorem requester (n : Nat) (x : Port) : (t.job? n).map Job.requester = some (.port x) ↔
    (s.job? n).map Job.requester = some (.port x) := by
  cases hj : s.job? n with
  | some j =>
    obtain ⟨k, hk, hwide⟩ := h.job? hj
    rw [hk, Option.map_some, Option.map_some, hwide.1]
  | none =>
    simp only [Option.map_none, reduceCtorEq, iff_false]
    intro hreq
    obtain ⟨k, hk, hport⟩ := Option.map_eq_some_iff.mp hreq
    obtain ⟨f, new, hjobs, hf, hnew⟩ := h.jobs
    obtain ⟨hmem, hnumber⟩ := job?_mem hk
    rw [hjobs, List.mem_append] at hmem
    rcases hmem with hmem | hmem
    · obtain ⟨i, hi, rfl⟩ := List.mem_map.mp hmem
      rw [(hf i).1] at hnumber
      exact List.find?_eq_none.mp hj i hi (decide_eq_true hnumber)
    · rw [(hnew k hmem).2] at hport
      cases hport

end

end ConfirmsTaken

end Sys2Proof.Machine
end

section
/-! What an evaluation counts (R40, R48, R60, R67, R134). -/

namespace Sys2Proof.Machine

/-! ### Steps 1 to 4 -/

/-- The state in which the counters of step 5 are taken (R67). -/
def beforeCounters (rec : PassRecord) (s : State) : State :=
  if rec.kind = .survey then deliver rec.job (appendCandidates (surveyCandidates rec s.corr.cells)) s
  else deliver rec.job (appendEchoes (stepsTwoThree rec (stepOne rec s) s).2)
    (stepsTwoThree rec (stepOne rec s) s).1

theorem evaluatePass_eq (rec : PassRecord) (s : State) :
    evaluatePass rec s = dropPass (stepFive rec (beforeCounters rec s)) := rfl

/-- A delivery writes the list that names the job, or marks the job displaced (R132). -/
theorem deliver_cases (n : Nat) (f : ResultList → ResultList) (s : State) :
    deliver n f s = s ∨ (∃ q, deliver n f s = s.setResults q f) ∨
      deliver n f s = s.setJob n (fun j => { j with displaced := true }) := by
  unfold deliver
  split
  · split
    · exact .inr (.inl ⟨_, rfl⟩)
    · exact .inr (.inr rfl)
  · exact .inl rfl
  · exact .inl rfl

theorem beforeCounters_eq (rec : PassRecord) (s : State) : ∃ f u, beforeCounters rec s = deliver rec.job f u ∧
    ConfirmsTaken s u ∧ FindingNotices s u ∧ u.intake = s.intake := by
  unfold beforeCounters
  split
  · exact ⟨_, s, rfl, .of_sched rfl, .of_ports rfl, rfl⟩
  · obtain ⟨hjobs, hports⟩ := ConfirmsTaken.stepsTwoThree rec (stepOne rec s) s
    exact ⟨_, _, rfl, hjobs, hports, stepsTwoThree_intake ..⟩

/-! ### The DARK jobs -/

/-- Number and state of the DARK jobs among some jobs. -/
def darkOf (l : List Job) : List (Nat × JobState) :=
  (l.filter (fun j => j.kind = .dark)).map (fun j => (j.number, j.state))

theorem mem_darkOf {l : List Job} {n : Nat} {st : JobState} :
    (n, st) ∈ darkOf l ↔ ∃ j ∈ l, j.kind = .dark ∧ j.number = n ∧ j.state = st := by
  simp [darkOf, and_assoc]

/-- A DARK job that has not ENDED stands among the jobs. -/
theorem stands_iff_darkOf (l : List Job) : (∃ j ∈ l, j.kind = .dark ∧ j.state ≠ .ended) ↔
    ∃ x ∈ darkOf l, x.2 ≠ .ended := by
  constructor
  · rintro ⟨j, hj, hkind, hstate⟩
    exact ⟨(j.number, j.state), mem_darkOf.mpr ⟨j, hj, hkind, rfl, rfl⟩, hstate⟩
  · rintro ⟨⟨n, st⟩, hx, hstate⟩
    obtain ⟨j, hj, hkind, -, rfl⟩ := mem_darkOf.mp hx
    exact ⟨j, hj, hkind, hstate⟩

theorem darkOf_append (l l' : List Job) : darkOf (l ++ l') = darkOf l ++ darkOf l' := by simp [darkOf]

theorem darkOf_of_none {l : List Job} (h : ∀ j ∈ l, j.kind ≠ .dark) : darkOf l = [] := by
  simpa [darkOf] using h

/-- A change that leaves kind, number and state of every job. -/
theorem darkOf_map {f : Job → Job}
    (hf : ∀ j, (f j).kind = j.kind ∧ (f j).number = j.number ∧ (f j).state = j.state) (l : List Job) :
    darkOf (l.map f) = darkOf l := by
  have hkind : ((fun j : Job => decide (j.kind = .dark)) ∘ f) = fun j => decide (j.kind = .dark) := by
    funext j
    show decide ((f j).kind = .dark) = _
    rw [(hf j).1]
  have hpair : (fun j : Job => (j.number, j.state)) ∘ f = fun j => (j.number, j.state) := by
    funext j
    show ((f j).number, (f j).state) = _
    rw [(hf j).2.1, (hf j).2.2]
  rw [darkOf, List.filter_map, List.map_map, hkind, hpair, darkOf]

theorem darkOf_setJob {f : Job → Job}
    (hf : ∀ j, (f j).kind = j.kind ∧ (f j).number = j.number ∧ (f j).state = j.state) (n : Nat) (s : State) :
    darkOf (s.setJob n f).sched.jobs = darkOf s.sched.jobs := by
  rw [State.setJob_jobs]
  refine darkOf_map (fun j => ?_) _
  split
  · exact hf j
  · exact ⟨rfl, rfl, rfl⟩

theorem ConfirmsTaken.darkOf {s t : State} (h : ConfirmsTaken s t) :
    darkOf t.sched.jobs = darkOf s.sched.jobs := by
  obtain ⟨f, new, hjobs, hf, hnew⟩ := h.jobs
  have hnone : Machine.darkOf new = [] := darkOf_of_none fun k hk => by rw [(hnew k hk).1]; exact nofun
  rw [hjobs, darkOf_append, hnone, List.append_nil]
  refine darkOf_map (fun j => ?_) _
  rw [(hf j).1]
  exact ⟨rfl, rfl, rfl⟩

/-! ### What the counters find -/

section
variable (rec : PassRecord) (s : State)

theorem beforeCounters_intake : (beforeCounters rec s).intake = s.intake := by
  obtain ⟨f, u, h, -, -, hintake⟩ := beforeCounters_eq rec s
  rw [h, deliver_intake, hintake]

theorem beforeCounters_lineMap : (beforeCounters rec s).lineMap = s.lineMap := by
  unfold beforeCounters
  split <;> simp

theorem beforeCounters_notices : FindingNotices s (beforeCounters rec s) := by
  obtain ⟨f, u, h, -, hports, -⟩ := beforeCounters_eq rec s
  rw [h]
  exact hports.trans (.of_ports (deliver_ports ..))

theorem beforeCounters_stats : (beforeCounters rec s).sched.stats = s.sched.stats := by
  obtain ⟨f, u, h, hjobs, -, -⟩ := beforeCounters_eq rec s
  rw [h]
  rcases deliver_cases rec.job f u with e | ⟨q, e⟩ | e <;> rw [e] <;> exact hjobs.stats

theorem beforeCounters_darkOf : darkOf (beforeCounters rec s).sched.jobs = darkOf s.sched.jobs := by
  obtain ⟨f, u, h, hjobs, -, -⟩ := beforeCounters_eq rec s
  rw [h, ← hjobs.darkOf]
  rcases deliver_cases rec.job f u with e | ⟨q, e⟩ | e <;> rw [e]
  · rfl
  · exact darkOf_setJob (by intro; exact ⟨rfl, rfl, rfl⟩) rec.job u

variable {s}

theorem beforeCounters_job? {j : Job} (hj : s.job? rec.job = some j) :
    ∃ i k : Job, i.WidenedFrom j ∧ (beforeCounters rec s).job? rec.job = some k ∧
      k = { i with displaced := k.displaced } := by
  obtain ⟨f, u, h, hjobs, -, -⟩ := beforeCounters_eq rec s
  obtain ⟨i, hi, hwide⟩ := hjobs.job? hj
  rw [h]
  rcases deliver_cases rec.job f u with e | ⟨q, e⟩ | e <;> rw [e]
  · exact ⟨i, i, hwide, hi, rfl⟩
  · exact ⟨i, i, hwide, hi, rfl⟩
  · exact ⟨i, _, hwide, job?_setJob_self hi fun _ => rfl, rfl⟩

variable (s)

theorem map_requester_setJob {f : Job → Job} (hn : ∀ j, (f j).number = j.number)
    (hf : ∀ j, (f j).requester = j.requester) (u : State) (n : Nat) :
    ((u.setJob n f).job? n).map Job.requester = (u.job? n).map Job.requester := by
  have hsame : ((fun k : Job => decide (k.number = n)) ∘ fun k => if k.number = n then f k else k) =
      fun k : Job => decide (k.number = n) := by
    funext k
    simp only [Function.comp]
    split
    · rw [hn]
    · rfl
  have hreq : (Job.requester ∘ fun k : Job => if k.number = n then f k else k) = Job.requester := by
    funext k
    simp only [Function.comp]
    split
    · exact hf k
    · rfl
  rw [State.job?, State.setJob_jobs, List.find?_map, Option.map_map, hsame, hreq, State.job?]

theorem beforeCounters_requester (x : Port) :
    ((beforeCounters rec s).job? rec.job).map Job.requester = some (.port x) ↔
      (s.job? rec.job).map Job.requester = some (.port x) := by
  obtain ⟨f, u, h, hjobs, -, -⟩ := beforeCounters_eq rec s
  rw [h, ← hjobs.requester rec.job x]
  rcases deliver_cases rec.job f u with e | ⟨q, e⟩ | e <;> rw [e]
  · rfl
  · exact Iff.of_eq (congrArg (· = _) (map_requester_setJob (by intro; rfl) (by intro; rfl) u rec.job))

end

/-! ### Notices and statistics of step 5 (R40, R134) -/

theorem overdriveBit_or (v : BitVec 12) (c : Prop) [Decidable c] (k : Notice) :
    (v ||| (if c then noticeMask k else 0#12)).getLsbD 5 = true ↔
      v.getLsbD 5 = true ∨ (k = .overdrive ∧ c) := by
  rw [BitVec.getLsbD_or, Bool.or_eq_true]
  by_cases h : c
  · rw [if_pos h, noticeMask_overdrive_bit, and_iff_left h]
  · rw [if_neg h, BitVec.getLsbD_zero]
    simp only [h, and_false, Bool.false_eq_true]

theorem statsHalfBit_or (v : BitVec 12) (c : Prop) [Decidable c] (k : Notice) :
    (v ||| (if c then noticeMask k else 0#12)).getLsbD 6 = true ↔
      v.getLsbD 6 = true ∨ (k = .statsHalf ∧ c) := by
  rw [BitVec.getLsbD_or, Bool.or_eq_true]
  by_cases h : c
  · rw [if_pos h, noticeMask_statsHalf_bit, and_iff_left h]
  · rw [if_neg h, BitVec.getLsbD_zero]
    simp only [h, and_false, Bool.false_eq_true]

theorem overdriveBit_raiseNotice (k : Notice) (p x : Port) (s : State) :
    ((raiseNotice k p s).port x).pendingSet.getLsbD 5 = true ↔
      (s.port x).pendingSet.getLsbD 5 = true ∨ (k = .overdrive ∧ x = p) := by
  rw [pendingSet_raiseNotice, overdriveBit_or]

theorem statsHalfBit_raiseNotice (k : Notice) (p x : Port) (s : State) :
    ((raiseNotice k p s).port x).pendingSet.getLsbD 6 = true ↔
      (s.port x).pendingSet.getLsbD 6 = true ∨ (k = .statsHalf ∧ x = p) := by
  rw [pendingSet_raiseNotice, statsHalfBit_or]

theorem isOverdrive_iff (rec : PassRecord) : isOverdrive rec = true ↔ rec.params.clipLimit < rec.clips :=
  decide_eq_true_iff

section
variable (rec : PassRecord) (s : State)

theorem noticeOverdrive_of_none (h : rec.pair = none) :
    noticeOverdrive rec s = raiseNotice .overdrive 0 s := by simp only [noticeOverdrive, h]

theorem noticeOverdrive_pendingOnly : PendingOnly s (noticeOverdrive rec s) := by
  unfold noticeOverdrive
  dsimp only
  repeat' split
  · exact .raise _ _ _
  · exact (PendingOnly.raise _ _ _).trans (.raise _ _ _)
  · exact .raise _ _ _
  · exact .raise _ _ _

theorem noticeOverdrive_statsHalfBit (x : Port) :
    ((noticeOverdrive rec s).port x).pendingSet.getLsbD 6 = true ↔
      (s.port x).pendingSet.getLsbD 6 = true := by
  unfold noticeOverdrive
  dsimp only
  repeat' split
  all_goals simp only [statsHalfBit_raiseNotice, reduceCtorEq, false_and, or_false]

theorem noticeOverdrive_overdriveBit {p : PairNo} (hp : rec.pair = some p) (x : Port) :
    ((noticeOverdrive rec s).port x).pendingSet.getLsbD 5 = true ↔
      (s.port x).pendingSet.getLsbD 5 = true ∨ x = noticePort s p ∨
        (s.job? rec.job).map Job.requester = some (.port x) := by
  simp only [noticeOverdrive, hp]
  cases hr : (s.job? rec.job).map Job.requester with
  | none =>
    simp only [overdriveBit_raiseNotice, true_and, reduceCtorEq, or_false]
  | some r =>
    cases r with
    | internal =>
      simp only [overdriveBit_raiseNotice, true_and, Option.some.injEq, reduceCtorEq, or_false]
    | port y =>
      simp only [overdriveBit_raiseNotice, true_and, Option.some.injEq, Requester.port.injEq, or_assoc,
        eq_comm (a := y)]

theorem countPass_of_none (h : rec.pair = none) : countPass rec s = s := by simp only [countPass, h]

theorem countPass_of_pair {p : PairNo} (h : rec.pair = some p) : countPass rec s =
    if isOverdrive rec = true then bumpStat .overdrives p (bumpPasses p s) else bumpPasses p s := by
  simp only [countPass, h]

theorem bumpPasses_stats (p q : PairNo) : (bumpPasses p s).sched.stats[q] =
    if p = q then { s.sched.stats[q] with passes := min ((s.sched.stats[q]).passes + 1) 65535 }
    else s.sched.stats[q] := State.stats_setStats ..

theorem countPass_stats {p : PairNo} (h : rec.pair = some p) :
    (countPass rec s).sched.stats[p] = { s.sched.stats[p] with
      passes := min ((s.sched.stats[p]).passes + 1) 65535
      overdrives := if rec.params.clipLimit < rec.clips then min ((s.sched.stats[p]).overdrives + 1) 255
        else (s.sched.stats[p]).overdrives } ∧
    ∀ q, q ≠ p → (countPass rec s).sched.stats[q] = s.sched.stats[q] := by
  have hpasses : ∀ q, q ≠ p → (bumpPasses p s).sched.stats[q] = s.sched.stats[q] := fun q hq => by
    rw [bumpPasses_stats, if_neg (Ne.symm hq)]
  have hself : (bumpPasses p s).sched.stats[p] = { s.sched.stats[p] with
      passes := min ((s.sched.stats[p]).passes + 1) 65535 } := by rw [bumpPasses_stats, if_pos rfl]
  rw [countPass_of_pair rec s h]
  by_cases hc : rec.params.clipLimit < rec.clips
  · rw [if_pos ((isOverdrive_iff rec).mpr hc), if_pos hc]
    refine ⟨by rw [bumpStat_stats, hself]; rfl, fun q hq => ?_⟩
    rw [bumpStat_sched, State.stats_setStats, if_neg (Ne.symm hq), hpasses q hq]
  · rw [if_neg (mt (isOverdrive_iff rec).mp hc), if_neg hc]
    exact ⟨hself, hpasses⟩

theorem countPass_pendingOnly : PendingOnly s (countPass rec s) := by
  unfold countPass
  dsimp only
  split
  · exact .of_ports rfl
  · have hpasses : PendingOnly s (bumpPasses ‹_› s) := .of_ports rfl
    split
    · exact hpasses.trans (.bumpStat _ _ _)
    · exact hpasses

theorem countPass_overdriveBit (x : Port) : ((countPass rec s).port x).pendingSet.getLsbD 5 = true ↔
    (s.port x).pendingSet.getLsbD 5 = true := by
  have hpasses : ∀ p, ((bumpPasses p s).port x).pendingSet = (s.port x).pendingSet := fun _ => rfl
  cases hp : rec.pair with
  | none => rw [countPass_of_none rec s hp]
  | some p =>
    rw [countPass_of_pair rec s hp]
    split
    · rw [bumpStat_pendingSet, overdriveBit_or, hpasses]
      simp only [reduceCtorEq, false_and, or_false]
    · rw [hpasses]

theorem countPass_statsHalfBit (x : Port) : ((countPass rec s).port x).pendingSet.getLsbD 6 = true ↔
    (s.port x).pendingSet.getLsbD 6 = true ∨ (rec.params.clipLimit < rec.clips ∧ ∃ p, rec.pair = some p ∧
      x = noticePort s p ∧ (s.sched.stats[p]).overdrives = 127) := by
  cases hp : rec.pair with
  | none => rw [countPass_of_none rec s hp]; simp only [reduceCtorEq, false_and, exists_false, and_false, or_false]
  | some p =>
    have hold : readSmallStat .overdrives (bumpPasses p s).sched.stats[p] = (s.sched.stats[p]).overdrives := by
      rw [bumpPasses_stats, if_pos rfl]
      rfl
    have hport : noticePort (bumpPasses p s) p = noticePort s p := rfl
    rw [countPass_of_pair rec s hp]
    simp only [Option.some.injEq, exists_eq_left']
    by_cases hc : rec.params.clipLimit < rec.clips
    · rw [if_pos ((isOverdrive_iff rec).mpr hc), bumpStat_pendingSet, hold, hport, statsHalfBit_or]
      simp only [hc, true_and, and_comm]
      rfl
    · rw [if_neg (mt (isOverdrive_iff rec).mp hc)]
      simp only [hc, false_and, or_false]
      rfl

end

/-! ### The refresh count (R48) -/

/-- The count after one more pass, kept below what it has reached (R48). -/
def refreshedCount (every : Nat) (s : State) : Nat :=
  if s.intake.refresh < every then s.intake.refresh + 1 else s.intake.refresh

theorem darkJobStands_iff (s : State) : s.darkJobStands = true ↔
    ∃ j ∈ s.sched.jobs, j.kind = .dark ∧ j.state ≠ .ended := by
  simp [State.darkJobStands]

section
variable {every : Nat} {s : State}

theorem refreshCount_of_off (h : every = 0) : refreshCount every s = setRefresh 0 s := if_pos h

theorem refreshCount_of_below (h : 1 ≤ every) (hc : refreshedCount every s < every) :
    refreshCount every s = setRefresh (refreshedCount every s) s := by
  rw [refreshCount, if_neg (by omega)]
  exact if_pos hc

theorem refreshCount_of_held (h : 1 ≤ every) (hc : every ≤ refreshedCount every s)
    (hh : s.intake.darkState = .manual ∨ s.darkJobStands = true) :
    refreshCount every s = setRefresh 0 s := by
  rw [refreshCount, if_neg (by omega)]
  exact (if_neg (Nat.not_lt.mpr hc)).trans (if_pos hh)

theorem refreshCount_of_reached (h : 1 ≤ every) (hc : every ≤ refreshedCount every s)
    (hh : ¬ (s.intake.darkState = .manual ∨ s.darkJobStands = true)) :
    refreshCount every s = if s.serviceSlotsUsed < 8 then queueDark (setRefresh 0 s)
      else setRefresh (refreshedCount every s) s := by
  rw [refreshCount, if_neg (by omega)]
  exact (if_neg (Nat.not_lt.mpr hc)).trans (if_neg hh)

end

/-- The refresh count writes the count, and queues at most one DARK job. -/
theorem refreshCount_cases (every : Nat) (s : State) :
    (∃ c, refreshCount every s = setRefresh c s) ∨ refreshCount every s = queueDark (setRefresh 0 s) := by
  by_cases hoff : every = 0
  · exact .inl ⟨0, refreshCount_of_off hoff⟩
  have hon : 1 ≤ every := Nat.one_le_iff_ne_zero.mpr hoff
  by_cases hc : refreshedCount every s < every
  · exact .inl ⟨_, refreshCount_of_below hon hc⟩
  by_cases hh : s.intake.darkState = .manual ∨ s.darkJobStands = true
  · exact .inl ⟨0, refreshCount_of_held hon (Nat.not_lt.mp hc) hh⟩
  rw [refreshCount_of_reached hon (Nat.not_lt.mp hc) hh]
  split
  · exact .inr rfl
  · exact .inl ⟨_, rfl⟩

theorem refreshCount_keeps (every : Nat) (s : State) :
    (refreshCount every s).sched.stats = s.sched.stats ∧
    (refreshCount every s).sched.results = s.sched.results ∧
    (refreshCount every s).intake =
      { s.intake with refresh := (refreshCount every s).intake.refresh } ∧
    ∀ n j, s.job? n = some j → (refreshCount every s).job? n = some j := by
  rcases refreshCount_cases every s with ⟨c, h⟩ | h <;> rw [h]
  · exact ⟨rfl, rfl, rfl, fun _ _ hj => hj⟩
  · refine ⟨rfl, rfl, rfl, fun n j hj => ?_⟩
    have hfound : List.find? (fun k : Job => decide (k.number = n)) (setRefresh 0 s).sched.jobs = some j := hj
    rw [queueDark, State.job?, State.addJob_jobs, List.find?_append, hfound]
    rfl

/-! ### Step 5 -/

/-- The counters of step 5 before the refresh count. -/
def noticed (rec : PassRecord) (s : State) : State :=
  if isOverdrive rec = true then noticeOverdrive rec (countPass rec (advanceJob rec s))
  else countPass rec (advanceJob rec s)

section
variable (rec : PassRecord) (s : State)

theorem stepFive_of_none (h : rec.pair = none) : stepFive rec s = noticed rec s := by
  simp only [stepFive, h]
  rfl

theorem stepFive_of_pair {p : PairNo} (h : rec.pair = some p) :
    stepFive rec s = refreshCount rec.params.darkEvery (noticed rec s) := by
  simp only [stepFive, h]
  rfl

theorem noticed_sched : (noticed rec s).sched = (countPass rec (advanceJob rec s)).sched := by
  unfold noticed
  split
  · exact noticeOverdrive_sched ..
  · rfl

theorem noticed_intake : (noticed rec s).intake = s.intake := by
  unfold noticed
  split <;> simp

theorem noticed_pendingOnly : PendingOnly s (noticed rec s) := by
  have hcounted : PendingOnly s (countPass rec (advanceJob rec s)) :=
    (PendingOnly.of_ports (advanceJob_ports ..)).trans (countPass_pendingOnly _ _)
  unfold noticed
  split
  · exact hcounted.trans (noticeOverdrive_pendingOnly _ _)
  · exact hcounted

theorem noticed_statsHalfBit (x : Port) : ((noticed rec s).port x).pendingSet.getLsbD 6 = true ↔
    (s.port x).pendingSet.getLsbD 6 = true ∨ (rec.params.clipLimit < rec.clips ∧ ∃ p, rec.pair = some p ∧
      x = noticePort s p ∧ (s.sched.stats[p]).overdrives = 127) := by
  have hcounted := countPass_statsHalfBit rec (advanceJob rec s) x
  unfold noticed
  split
  · exact (noticeOverdrive_statsHalfBit _ _ x).trans hcounted
  · exact hcounted

/-- OVERDRIVE on the owner or port 0 and on the requester, or on port 0 for a synthetic pass (R40). -/
theorem noticed_overdriveBit (x : Port) : ((noticed rec s).port x).pendingSet.getLsbD 5 = true ↔
    (s.port x).pendingSet.getLsbD 5 = true ∨ (rec.params.clipLimit < rec.clips ∧
      ((rec.pair = none ∧ x = 0) ∨ ∃ p, rec.pair = some p ∧
        (x = noticePort s p ∨ (s.job? rec.job).map Job.requester = some (.port x)))) := by
  have hcounted : ((countPass rec (advanceJob rec s)).port x).pendingSet.getLsbD 5 = true ↔
      (s.port x).pendingSet.getLsbD 5 = true := countPass_overdriveBit rec (advanceJob rec s) x
  have hreq : ((countPass rec (advanceJob rec s)).job? rec.job).map Job.requester =
      (s.job? rec.job).map Job.requester := by
    rw [State.job?, countPass_jobs]
    exact map_requester_setJob (by intro; rfl) (by intro; rfl) s rec.job
  have hport : ∀ p, noticePort (countPass rec (advanceJob rec s)) p = noticePort s p := fun p => by
    rw [noticePort, pair_congr (countPass_lineMap ..)]
    rfl
  unfold noticed
  by_cases hc : isOverdrive rec = true
  · rw [if_pos hc, and_iff_right ((isOverdrive_iff rec).mp hc)]
    cases hp : rec.pair with
    | none =>
      rw [noticeOverdrive_of_none _ _ hp, overdriveBit_raiseNotice, hcounted]
      simp only [true_and, reduceCtorEq, false_and, exists_false, or_false]
    | some p =>
      rw [noticeOverdrive_overdriveBit _ _ hp, hcounted, hreq, hport]
      simp only [reduceCtorEq, false_and, false_or, Option.some.injEq, exists_eq_left']
  · rw [if_neg hc, hcounted]
    simp only [mt (isOverdrive_iff rec).mpr hc, false_and, or_false]

theorem noticed_darkOf : darkOf (noticed rec s).sched.jobs = darkOf s.sched.jobs := by
  rw [noticed_sched, countPass_jobs]
  exact darkOf_setJob (by intro; exact ⟨rfl, rfl, rfl⟩) rec.job s

theorem noticed_stats {p : PairNo} (h : rec.pair = some p) :
    (noticed rec s).sched.stats[p] = { s.sched.stats[p] with
      passes := min ((s.sched.stats[p]).passes + 1) 65535
      overdrives := if rec.params.clipLimit < rec.clips then min ((s.sched.stats[p]).overdrives + 1) 255
        else (s.sched.stats[p]).overdrives } ∧
    ∀ q, q ≠ p → (noticed rec s).sched.stats[q] = s.sched.stats[q] := by
  rw [noticed_sched]
  exact countPass_stats rec (advanceJob rec s) h

variable {s}

theorem noticed_job? {j : Job} (hj : s.job? rec.job = some j) : (noticed rec s).job? rec.job = some { j with
    progress := if rec.kind = .verify then j.progress else rec.last + 1
    passes := min (j.passes + 1) 64 } := by
  rw [State.job?, noticed_sched, countPass_jobs]
  exact job?_setJob_self hj (by intro; rfl)

end

/-! ### The evaluation -/

section
variable (rec : PassRecord) (s : State)

/-- The state whose refresh count the evaluation of a pass on a pair moves. -/
def beforeRefresh (rec : PassRecord) (s : State) : State := noticed rec (beforeCounters rec s)

theorem evaluatePass_of_none (h : rec.pair = none) :
    evaluatePass rec s = dropPass (beforeRefresh rec s) := by
  rw [evaluatePass_eq, stepFive_of_none _ _ h, beforeRefresh]

theorem evaluatePass_of_pair {p : PairNo} (h : rec.pair = some p) :
    evaluatePass rec s = dropPass (refreshCount rec.params.darkEvery (beforeRefresh rec s)) := by
  rw [evaluatePass_eq, stepFive_of_pair _ _ h, beforeRefresh]

theorem beforeRefresh_intake : (beforeRefresh rec s).intake = s.intake :=
  (noticed_intake ..).trans (beforeCounters_intake ..)

theorem beforeRefresh_darkOf : darkOf (beforeRefresh rec s).sched.jobs = darkOf s.sched.jobs :=
  (noticed_darkOf ..).trans (beforeCounters_darkOf ..)

theorem evaluatePass_port (x : Port) : (evaluatePass rec s).port x = (beforeRefresh rec s).port x := by
  cases hp : rec.pair with
  | none => rw [evaluatePass_of_none rec s hp]; rfl
  | some p =>
    rw [evaluatePass_of_pair rec s hp]
    exact congrArg (fun v => v[x]) (refreshCount_ports ..)

theorem evaluatePass_stats_of_pair {p : PairNo} (h : rec.pair = some p) :
    (evaluatePass rec s).sched.stats = (beforeRefresh rec s).sched.stats := by
  rw [evaluatePass_of_pair rec s h]
  exact (refreshCount_keeps ..).1

theorem evaluatePass_job?_of_counters {k : Job} (hk : (beforeCounters rec s).job? rec.job = some k) :
    (evaluatePass rec s).job? rec.job = some { k with
      progress := if rec.kind = .verify then k.progress else rec.last + 1
      passes := min (k.passes + 1) 64 } := by
  have hcounted : (beforeRefresh rec s).job? rec.job = some { k with
      progress := if rec.kind = .verify then k.progress else rec.last + 1
      passes := min (k.passes + 1) 64 } := noticed_job? rec hk
  cases hp : rec.pair with
  | none => rw [evaluatePass_of_none rec s hp]; exact hcounted
  | some p =>
    rw [evaluatePass_of_pair rec s hp]
    exact (refreshCount_keeps ..).2.2.2 _ _ hcounted

/-- The job's counters; where a pass was active its job was no waiting CONFIRM job. -/
theorem evaluatePass_job? {j : Job} (hj : s.job? rec.job = some j) (hact : j.state = .active) :
    ∃ k, (evaluatePass rec s).job? rec.job = some k ∧ k = { j with
      displaced := k.displaced
      passes := min (j.passes + 1) 64
      progress := if rec.kind = .verify then j.progress else rec.last + 1 } := by
  obtain ⟨i, k, ⟨-, hsame | ⟨-, hqueued⟩⟩, hk, hki⟩ := beforeCounters_job? rec hj
  · subst hsame
    refine ⟨_, evaluatePass_job?_of_counters rec s hk, ?_⟩
    rw [hki]
  · rw [hact] at hqueued; cases hqueued

theorem evaluatePass_pendingOnly : PendingOnly s (evaluatePass rec s) := fun x => by
  rw [evaluatePass_port]
  exact ((beforeCounters_notices rec s).1.trans (noticed_pendingOnly rec _)) x

theorem beforeCounters_noticePort (p : PairNo) : noticePort (beforeCounters rec s) p = noticePort s p := by
  rw [noticePort, pair_congr (beforeCounters_lineMap rec s), noticePort]

theorem evaluatePass_overdriveBit (x : Port) :
    ((evaluatePass rec s).port x).pendingSet.getLsbD 5 = true ↔
    (s.port x).pendingSet.getLsbD 5 = true ∨ (rec.params.clipLimit < rec.clips ∧
      ((rec.pair = none ∧ x = 0) ∨ ∃ p, rec.pair = some p ∧
        (x = noticePort s p ∨ (s.job? rec.job).map Job.requester = some (.port x)))) := by
  rw [evaluatePass_port, beforeRefresh, noticed_overdriveBit, ((beforeCounters_notices rec s).2 x).1]
  simp only [beforeCounters_noticePort, beforeCounters_requester]

theorem evaluatePass_statsHalfBit (x : Port) :
    ((evaluatePass rec s).port x).pendingSet.getLsbD 6 = true ↔
    (s.port x).pendingSet.getLsbD 6 = true ∨ (rec.params.clipLimit < rec.clips ∧ ∃ p, rec.pair = some p ∧
      x = noticePort s p ∧ (s.sched.stats[p]).overdrives = 127) := by
  rw [evaluatePass_port, beforeRefresh, noticed_statsHalfBit, ((beforeCounters_notices rec s).2 x).2]
  simp only [beforeCounters_noticePort, beforeCounters_stats]

end

/-- Settles O47: the counters of the job, of the pair and of the refresh, and the two notices. -/
theorem evaluationCounts : Obligations.EvaluationCounts := by
  unfold Obligations.EvaluationCounts
  intro rec s hlaw t clipped owner
  refine ⟨rfl, evaluatePass_seq .., evaluatePass_lineMap .., evaluatePass_channel .., evaluatePass_params ..,
    evaluatePass_lineTime .., evaluatePass_synth .., fun j hj hact => evaluatePass_job? rec s hj hact,
    fun p hp => ?stats, fun hp => ?synthetic, fun x => ⟨evaluatePass_pendingOnly rec s x, ?overdrive, ?half⟩,
    fun hp => ?refresh⟩
  case stats =>
    rw [show t.sched.stats = _ from evaluatePass_stats_of_pair rec s hp, ← beforeCounters_stats rec s]
    exact noticed_stats rec (beforeCounters rec s) hp
  case synthetic =>
    have ht : t = dropPass (beforeRefresh rec s) := evaluatePass_of_none rec s hp
    have hstats : (beforeRefresh rec s).sched.stats = (beforeCounters rec s).sched.stats := by
      rw [beforeRefresh, noticed_sched, countPass_of_none _ _ hp]
      rfl
    rw [ht]
    exact ⟨hstats.trans (beforeCounters_stats rec s), beforeRefresh_intake rec s⟩
  case overdrive =>
    rw [evaluatePass_overdriveBit]
    refine or_congr_right (and_congr_right fun _ => ?_)
    cases hp : rec.pair with
    | none => simp
    | some p => simp only [reduceCtorEq, false_and, false_or, Option.some.injEq, exists_eq_left']; rfl
  case half => exact evaluatePass_statsHalfBit rec s x
  case refresh =>
    obtain ⟨p, hp⟩ := Option.ne_none_iff_exists'.mp hp
    have ht : t = dropPass (refreshCount rec.params.darkEvery (beforeRefresh rec s)) :=
      evaluatePass_of_pair rec s hp
    generalize hb : beforeRefresh rec s = b at ht
    have hintake : b.intake = s.intake := hb ▸ beforeRefresh_intake rec s
    have hdark : darkOf b.sched.jobs = darkOf s.sched.jobs := hb ▸ beforeRefresh_darkOf rec s
    intro every count stands queued
    have hcount : refreshedCount every b = count := by rw [refreshedCount, hintake]
    have hstands : b.darkJobStands = true ↔ stands := by
      rw [darkJobStands_iff, stands_iff_darkOf, hdark, ← stands_iff_darkOf]
    have hheld : b.intake.darkState = .manual ∨ b.darkJobStands = true ↔
        s.intake.darkState = .manual ∨ stands := by rw [hintake, hstands]
    have hold : ∀ c, t = dropPass (setRefresh c b) →
        t.intake.refresh = c ∧ t.sched.jobs = b.sched.jobs := fun c h => by rw [h]; exact ⟨rfl, rfl⟩
    have hoff : every = 0 → t = dropPass (setRefresh 0 b) := fun h =>
      ht.trans (congrArg dropPass (refreshCount_of_off h))
    have hbelow : 1 ≤ every → count < every → t = dropPass (setRefresh count b) := fun h hc =>
      hcount ▸ ht.trans (congrArg dropPass (refreshCount_of_below h (hcount ▸ hc)))
    have hkept : 1 ≤ every → every ≤ count → s.intake.darkState = .manual ∨ stands →
        t = dropPass (setRefresh 0 b) := fun h hc hh =>
      ht.trans (congrArg dropPass (refreshCount_of_held h (hcount ▸ hc) (hheld.mpr hh)))
    refine ⟨?intake, fun h => (hold _ (hoff h)).1, fun h hc => (hold _ (hbelow h hc)).1,
      fun h hc hh => (hold _ (hkept h hc hh)).1, fun hwhy j hj hkind => ?old, fun h hc hm hn => ?reached⟩
    case intake =>
      rw [ht, ← hintake]
      exact (refreshCount_keeps ..).2.2.1
    case old =>
      have hjobs : t.sched.jobs = b.sched.jobs := by
        by_cases h0 : every = 0
        · exact (hold _ (hoff h0)).2
        have h1 := Nat.one_le_iff_ne_zero.mpr h0
        by_cases hc : count < every
        · exact (hold _ (hbelow h1 hc)).2
        · exact (hold _ (hkept h1 (Nat.not_lt.mp hc)
            ((hwhy.resolve_left h0).resolve_left hc))).2
      obtain ⟨k, hk, hkdark, hnumber, -⟩ := mem_darkOf.mp (hdark ▸ mem_darkOf.mpr ⟨j, hjobs ▸ hj, hkind, rfl, rfl⟩)
      exact ⟨k, hk, hkdark, hnumber⟩
    case reached =>
      have hstep := refreshCount_of_reached h (hcount ▸ hc) (mt hheld.mp (not_or.mpr ⟨hm, hn⟩))
      by_cases hroom : b.serviceSlotsUsed < 8
      · rw [hstep, if_pos hroom] at ht
        refine .inl ⟨by rw [ht]; rfl, b.sched.jobs, _, by rw [ht]; exact State.addJob_jobs .., rfl, rfl, rfl,
          rfl, fun k hk hkdark => ?_⟩
        by_contra hstate
        exact hn (hstands.mp ((darkJobStands_iff b).mpr ⟨k, hk, hkdark, hstate⟩))
      · rw [hstep, if_neg hroom] at ht
        obtain ⟨hrefresh, hjobs⟩ := hold _ ht
        refine .inr ⟨hrefresh.trans hcount, ?_, ?_⟩
        · rintro ⟨old, j, hlast, hkind, -, -, hqueued, -⟩
          have hmem : j ∈ b.sched.jobs := by rw [← hjobs, hlast]; exact List.mem_append_right _ List.mem_cons_self
          exact hn (hstands.mp ((darkJobStands_iff b).mpr ⟨j, hmem, hkind, by rw [hqueued]; exact nofun⟩))
        · obtain ⟨-, -, -, -, hbound, -, -⟩ : JobsLaw t := (jobsKeep_evaluatePass rec s).law hlaw
          have hsame : t.serviceSlotsUsed = b.serviceSlotsUsed := by
            rw [State.serviceSlotsUsed, hjobs, State.serviceSlotsUsed]
          omega

end Sys2Proof.Machine
end

section
/-! What an evaluation delivers (R60, R63, R66, R71, R72, R132). -/

namespace Sys2Proof.Machine

/-! ### The list of the requester (R72, R132) -/

section
variable {n : Nat} {f : ResultList → ResultList} {u : State} {q : Port}

theorem deliver_of_serving (hreq : (u.job? n).map Job.requester = some (.port q))
    (hl : (u.sched.results[q]).job = some n) : deliver n f u = u.setResults q f := by
  simp only [deliver, hreq, tableGet_fin, hl, if_true]

theorem deliver_of_displaced (hreq : (u.job? n).map Job.requester = some (.port q))
    (hl : (u.sched.results[q]).job ≠ some n) :
    deliver n f u = u.setJob n (fun j => { j with displaced := true }) := by
  simp only [deliver, hreq, tableGet_fin, if_neg hl]

theorem deliver_results_of_other (hreq : (u.job? n).map Job.requester ≠ some (.port q)) :
    (deliver n f u).sched.results[q] = u.sched.results[q] := by
  cases hr : (u.job? n).map Job.requester with
  | none => simp only [deliver, hr]
  | some r =>
    cases r with
    | internal => simp only [deliver, hr]
    | port p =>
      have hne : p ≠ q := by rintro rfl; exact hreq hr
      by_cases hl : (u.sched.results[p]).job = some n
      · rw [deliver_of_serving hr hl, State.results_setResults, if_neg hne]
      · rw [deliver_of_displaced hr hl]
        rfl

end

theorem appendEchoes_of_echoes {l : ResultList} {old : List EchoRecord} (h : l.body = .echoes old)
    (records : List EchoRecord) : appendEchoes records l = { l with body := .echoes (old ++ records) } := by
  simp only [appendEchoes, h]

theorem appendCandidates_of_candidates {l : ResultList} {old : List Candidate} (h : l.body = .candidates old)
    (found : List Candidate) : appendCandidates found l = { l with
      body := .candidates ((old ++ found).take 256)
      truncated := l.truncated || decide (256 < (old ++ found).length) } := by
  simp only [appendCandidates, h]
  rfl

theorem evaluatePass_results (rec : PassRecord) (s : State) :
    (evaluatePass rec s).sched.results = (beforeCounters rec s).sched.results := by
  have hcount : ∀ u, (countPass rec u).sched.results = u.sched.results := fun u => by
    cases hp : rec.pair with
    | none => rw [countPass_of_none rec u hp]
    | some p =>
      rw [countPass_of_pair rec u hp]
      split
      · rw [bumpStat_sched]; rfl
      · rfl
  have hrefresh : (beforeRefresh rec s).sched.results = (beforeCounters rec s).sched.results := by
    rw [beforeRefresh, noticed_sched, hcount]
    rfl
  cases hp : rec.pair with
  | none => rw [evaluatePass_of_none rec s hp, ← hrefresh]; rfl
  | some p =>
    rw [evaluatePass_of_pair rec s hp, ← hrefresh]
    exact (refreshCount_keeps ..).2.1

/-! ### A record after steps 2 and 3 (R66) -/

/-- A record completed by steps 2 and 3: deviation, status and class alone are written, and deviation and
status only where the echo qualified. -/
def EchoRecord.CompletedFrom (r r0 : EchoRecord) : Prop :=
  r = { r0 with
    dev := r.dev
    status := r.status
    cls := r.cls } ∧
  (r0.level = none → r.status = r0.status ∧ r.dev = r0.dev) ∧
  (r0.level ≠ none → (r.status = .valid ∧ r.dev ≠ none) ∨ (r.status = .unbased ∧ r.dev = none))

theorem resolveRecord_completed {r : EchoRecord} (h : r.level ≠ none) (d : Option Int) :
    (resolveRecord d r).CompletedFrom r := by
  refine ⟨rfl, fun hn => absurd hn h, fun _ => ?_⟩
  cases d with
  | none => exact .inr ⟨rfl, rfl⟩
  | some x => exact .inl ⟨rfl, nofun⟩

/-- Step 2 completes its record in every mode (R79 to R86). -/
theorem sigStep_completed (mode : SigMode) (par : Params) (frozen : Bool) (e : SigEntry) (r : EchoRecord) :
    (sigStep mode par frozen e r).2.1.CompletedFrom r := by
  cases hl : r.level with
  | none =>
    have hsame : (sigStep mode par frozen e r).2.1 = r := by cases mode <;> simp only [sigStep, hl]
    rw [hsame]
    exact ⟨rfl, fun _ => ⟨rfl, rfl⟩, fun h => absurd hl h⟩
  | some v =>
    have hsome : r.level ≠ none := by rw [hl]; exact nofun
    cases mode with
    | update =>
      have hstep : (sigStep .update par frozen e r).2.1 =
        resolveRecord (updateEntry par frozen r.stamp v e).2.1 r := by simp only [sigStep, hl]
      exact hstep ▸ resolveRecord_completed hsome _
    | lookup =>
      have hstep : (sigStep .lookup par frozen e r).2.1 = resolveRecord (lookupDev v e) r := by
        simp only [sigStep, hl]
      exact hstep ▸ resolveRecord_completed hsome _
    | skip =>
      have hstep : (sigStep .skip par frozen e r).2.1 = resolveRecord none r := by simp only [sigStep, hl]
      exact hstep ▸ resolveRecord_completed hsome _

theorem sigPass_completed (mode : SigMode) (par : Params) (p : PairNo) (records : List EchoRecord) :
    ∀ s, List.Forall₂ EchoRecord.CompletedFrom (sigPass mode par p records s).2.1 records := by
  induction records with
  | nil => exact fun s => .nil
  | cons r rest ih => exact fun s => .cons (sigStep_completed ..) (ih _)

/-! ### As many classes as records (R96) -/

theorem classesFrom_length (thr : Nat) (run : Option Nat) (records : List EchoRecord) :
    ∀ ref, (classesFrom thr run ref records).length = records.length := by
  induction records with
  | nil => exact fun _ => rfl
  | cons r rest ih =>
    intro ref
    unfold classesFrom
    dsimp only
    repeat' split
    all_goals rw [List.length_cons, ih, List.length_cons]

theorem classify_length (thr a n : Nat) (below : SigEntry) (records : List EchoRecord) :
    (classify thr a n below records).length = records.length := by
  unfold classify
  dsimp only
  repeat' split
  · exact classesFrom_length ..
  · exact classesFrom_length ..
  · rw [List.length_set, classesFrom_length]

theorem recordClass_completed {drifts : List (Nat × Int)} {c : Option FindingClass} {r r0 : EchoRecord}
    (h : r.CompletedFrom r0) : (recordClass drifts r c).CompletedFrom r0 := by
  obtain ⟨heq, hnone, hsome⟩ := h
  refine ⟨?_, hnone, hsome⟩
  rw [heq]
  rfl

theorem locate_completed {records records0 : List EchoRecord}
    (h : List.Forall₂ EchoRecord.CompletedFrom records records0) (rec : PassRecord) (p : PairNo)
    (stamp : Nat) (drifts : List (Nat × Int)) (s : State) :
    List.Forall₂ EchoRecord.CompletedFrom (locate rec p stamp records drifts s).2 records0 := by
  have hzip : ∀ (l l0 : List EchoRecord), List.Forall₂ EchoRecord.CompletedFrom l l0 →
      ∀ classes : List (Option FindingClass × Option Int), classes.length = l.length →
      List.Forall₂ EchoRecord.CompletedFrom
        ((l.zip classes).map (fun rc => recordClass drifts rc.1 rc.2.1)) l0 := by
    intro l l0 hl
    induction hl with
    | nil => exact fun _ _ => .nil
    | cons hr _ ih =>
      intro classes hlen
      cases classes with
      | nil => cases hlen
      | cons c rest => exact .cons (recordClass_completed hr) (ih rest (Nat.succ.inj hlen))
  exact hzip _ _ h _ (classify_length ..)

theorem stepsTwoThree_completed (rec : PassRecord) (records : List EchoRecord) (s : State) :
    List.Forall₂ EchoRecord.CompletedFrom (stepsTwoThree rec records s).2 records := by
  unfold stepsTwoThree
  dsimp only
  split
  · rw [List.forall₂_map_left_iff, List.forall₂_same]
    exact fun r _ => sigStep_completed ..
  · split
    · exact locate_completed (sigPass_completed ..) ..
    · exact sigPass_completed ..
    · exact sigPass_completed ..

theorem positions_of_completed {records records0 : List EchoRecord}
    (h : List.Forall₂ EchoRecord.CompletedFrom records records0) :
    records.map EchoRecord.position = records0.map EchoRecord.position := by
  induction h with
  | nil => rfl
  | cons hr _ ih => rw [List.map_cons, List.map_cons, ih, hr.1]

theorem exists_of_completed {records records0 : List EchoRecord} {r : EchoRecord}
    (h : List.Forall₂ EchoRecord.CompletedFrom records records0) (hr : r ∈ records) :
    ∃ r0 ∈ records0, r.CompletedFrom r0 := by
  induction h with
  | nil => cases hr
  | cons hhead _ ih =>
    rcases List.mem_cons.mp hr with rfl | hr
    · exact ⟨_, List.mem_cons_self, hhead⟩
    · obtain ⟨r0, hr0, hc⟩ := ih hr
      exact ⟨r0, List.mem_cons_of_mem _ hr0, hc⟩

/-! ### A record of step 1 (R63, R64, R66) -/

theorem edgeFlag_iff (w : Nat) (off : Int) :
    edgeFlag w off = true ↔ 3 ≤ w ∧ off.natAbs = (w - 1) / 2 := by
  simp only [edgeFlag, Bool.and_eq_true, Bool.or_eq_true, decide_eq_true_eq]
  unfold halfWidth
  omega

theorem qualifies_iff (amp : Int) (thr : Nat) : qualifies amp thr = true ↔ 1 ≤ amp ∧ (thr : Int) < amp := by
  simp only [qualifies, Bool.and_eq_true, decide_eq_true_eq]

theorem windowAmps_eq (n q : Nat) (cells : Vector Cell 64) (k : Nat) : windowAmps n q cells k =
    ((cells.toList.filter (fun c => c.role = .echo)).filter (fun c => c.position = some k)).map
      (fun c => (c.offset, amplitude n q c.acc)) := by
  rw [windowAmps, List.filter_filter]
  refine congrArg _ (List.filter_congr fun c _ => ?_)
  exact Bool.and_comm ..

/-! ### The candidates of a survey block (R71) -/

/-- The cell at an index of a block stands out from its neighbours, where it has them, and above `least`. -/
def StandsOut (block : List (Nat × Int)) (least : Nat) (x : (Nat × Int) × Nat) : Prop :=
  (x.2 = 0 ∨ (block[x.2 - 1]?.getD (0, 0)).2 ≤ x.1.2) ∧
  (x.2 + 1 = block.length ∨ (block[x.2 + 1]?.getD (0, 0)).2 < x.1.2) ∧ (least : Int) < x.1.2

theorem standsOut_iff_isCandidate (before : List (Nat × Int)) (x : Nat × Int) (after : List (Nat × Int))
    (least : Nat) : StandsOut (before ++ x :: after) least (x, before.length) ↔
      isCandidate (before.getLast?.map Prod.snd) x.2 (after.head?.map Prod.snd) least = true := by
  have hbelow : (before.length = 0 ∨ ((before ++ x :: after)[before.length - 1]?.getD (0, 0)).2 ≤ x.2) ↔
      ∀ l, before.getLast?.map Prod.snd = some l → l ≤ x.2 := by
    rcases List.eq_nil_or_concat before with rfl | ⟨front, y, rfl⟩
    · simp
    · simp
  have habove : (before.length + 1 = (before ++ x :: after).length ∨
      ((before ++ x :: after)[before.length + 1]?.getD (0, 0)).2 < x.2) ↔
      ∀ h, after.head?.map Prod.snd = some h → h < x.2 := by
    cases after with
    | nil => simp
    | cons y rest => simp
  rw [StandsOut, hbelow, habove]
  simp only [isCandidate, Bool.and_eq_true, decide_eq_true_eq, and_assoc]
  cases before.getLast?.map Prod.snd <;> cases after.head?.map Prod.snd <;> simp

/-- The candidates are the cells that stand out, in order. -/
theorem candidatesFrom_eq {block : List (Nat × Int)} {least : Nat} {stands : (Nat × Int) × Nat → Bool}
    (hstands : ∀ x, stands x = true ↔ StandsOut block least x) (after : List (Nat × Int)) :
    ∀ before, block = before ++ after → candidatesFrom least (before.getLast?.map Prod.snd) after =
      ((after.zipIdx before.length).filter stands).map (fun x => ⟨x.1.1, x.1.2⟩) := by
  induction after with
  | nil => exact fun _ _ => rfl
  | cons x rest ih =>
    intro before hblock
    have htail := ih (before ++ [x]) (by rw [hblock, List.append_assoc]; rfl)
    rw [List.getLast?_concat, List.length_append] at htail
    have hhere := hstands (x, before.length)
    rw [hblock, standsOut_iff_isCandidate] at hhere
    rw [List.zipIdx_cons, List.filter_cons, candidatesFrom]
    rw [show candidatesFrom least (some x.2) rest = _ from htail]
    by_cases hc : isCandidate (before.getLast?.map Prod.snd) x.2 (rest.head?.map Prod.snd) least = true
    · rw [if_pos hc, if_pos (hhere.mpr hc)]
      rfl
    · rw [if_neg hc, if_neg (mt hhere.mp hc)]
      rfl

/-- Lag and amplitude of the cells of a survey block (R71). -/
def surveyBlock (rec : PassRecord) (cells : Vector Cell 64) : List (Nat × Int) :=
  (cells.toList.filter (fun c => c.role = .echo)).map (fun c => (c.lag, amplitude rec.order rec.q c.acc))

/-- The candidate threshold of a block (R71). -/
def leastOfBlock (snrQ : Nat) (block : List (Nat × Int)) : Nat :=
  (block.map (fun x => x.2.natAbs)).sum / block.length * snrQ / 8

theorem surveyCandidates_eq (rec : PassRecord) (cells : Vector Cell 64) {stands : (Nat × Int) × Nat → Bool}
    (hstands : ∀ x, stands x = true ↔
      StandsOut (surveyBlock rec cells) (leastOfBlock rec.params.snrQ (surveyBlock rec cells)) x) :
    surveyCandidates rec cells =
      ((surveyBlock rec cells).zipIdx.filter stands).map (fun x => ⟨x.1.1, x.1.2⟩) := by
  have hleast : threshold (blockNoise ((surveyBlock rec cells).map Prod.snd)) rec.params.snrQ =
      leastOfBlock rec.params.snrQ (surveyBlock rec cells) := by
    rw [threshold, blockNoise, List.map_map, List.length_map]
    rfl
  refine Eq.trans ?_ (candidatesFrom_eq hstands _ [] rfl)
  rw [← hleast]
  rfl

/-! ### The evaluation -/

section
variable {rec : PassRecord} {s : State}

theorem beforeCounters_of_survey (h : rec.kind = .survey) : beforeCounters rec s =
    deliver rec.job (appendCandidates (surveyCandidates rec s.corr.cells)) s := if_pos h

theorem beforeCounters_of_not_survey (h : rec.kind ≠ .survey) : beforeCounters rec s =
    deliver rec.job (appendEchoes (stepsTwoThree rec (stepOne rec s) s).2)
      (stepsTwoThree rec (stepOne rec s) s).1 := if_neg h

/-- The list that names the job takes the results, by the kind of the pass. -/
theorem evaluatePass_results_serving {q : Port} (hreq : (s.job? rec.job).map Job.requester = some (.port q))
    (hl : (s.sched.results[q]).job = some rec.job) :
    (evaluatePass rec s).sched.results[q] =
      if rec.kind = .survey then appendCandidates (surveyCandidates rec s.corr.cells) s.sched.results[q]
      else appendEchoes (stepsTwoThree rec (stepOne rec s) s).2 s.sched.results[q] := by
  rw [evaluatePass_results]
  by_cases h : rec.kind = .survey
  · rw [beforeCounters_of_survey h, deliver_of_serving hreq hl, State.results_setResults, if_pos rfl, if_pos h]
  · obtain ⟨hjobs, -⟩ := ConfirmsTaken.stepsTwoThree rec (stepOne rec s) s
    have hreq' := (hjobs.requester rec.job q).mpr hreq
    rw [beforeCounters_of_not_survey h, deliver_of_serving hreq' (by rw [hjobs.results]; exact hl),
      State.results_setResults, if_pos rfl, if_neg h, hjobs.results]

theorem evaluatePass_results_of_other {q : Port}
    (hreq : (s.job? rec.job).map Job.requester ≠ some (.port q)) :
    (evaluatePass rec s).sched.results[q] = s.sched.results[q] := by
  obtain ⟨f, u, hcounters, hjobs, -, -⟩ := beforeCounters_eq rec s
  rw [evaluatePass_results, hcounters,
    deliver_results_of_other (mt (hjobs.requester rec.job q).mp hreq), hjobs.results]

/-- A list that names another job stays, and the job is displaced (R132). -/
theorem evaluatePass_of_displaced {q : Port} (hreq : (s.job? rec.job).map Job.requester = some (.port q))
    (hl : (s.sched.results[q]).job ≠ some rec.job) :
    (evaluatePass rec s).sched.results[q] = s.sched.results[q] ∧
      ∃ j', (evaluatePass rec s).job? rec.job = some j' ∧ j'.displaced = true := by
  obtain ⟨f, u, hcounters, hjobs, -, -⟩ := beforeCounters_eq rec s
  have hreq' := (hjobs.requester rec.job q).mpr hreq
  rw [deliver_of_displaced hreq' (by rw [hjobs.results]; exact hl)] at hcounters
  refine ⟨?_, ?_⟩
  · rw [evaluatePass_results, hcounters, ← hjobs.results]
    rfl
  · obtain ⟨k, hk, -⟩ := Option.map_eq_some_iff.mp hreq'
    have hmarked : (beforeCounters rec s).job? rec.job = some { k with displaced := true } := by
      rw [hcounters]
      exact job?_setJob_self hk (by intro; rfl)
    exact ⟨_, evaluatePass_job?_of_counters rec s hmarked, rfl⟩

/-- What an echo record of an evaluation says of its position (R63, R64, R66). -/
theorem record_of_evaluation {r : EchoRecord} (hr : r ∈ (stepsTwoThree rec (stepOne rec s) s).2) :
    let echoes := s.corr.cells.toList.filter (fun c => c.role = .echo)
    let ok := 1 ≤ r.amp ∧
      ((noiseFloor rec.order rec.q s.corr.cells * rec.params.snrQ / 8 : Nat) : Int) < r.amp
    (r.offset, r.amp) = peakOf ((echoes.filter (fun c => c.position = some r.position)).map
      (fun c => (c.offset, amplitude rec.order rec.q c.acc))) ∧
    r.housing = rec.pair.bind (fun p => (s.pair p).housingAt r.position) ∧
    (ok → r.level = some (levelOf r.amp.toNat) ∧
      ((r.status = .valid ∧ r.dev ≠ none) ∨ (r.status = .unbased ∧ r.dev = none))) ∧
    (¬ ok → r.level = none ∧ r.status = .lost ∧ r.dev = none) ∧
    (r.edge = true ↔ 3 ≤ rec.w ∧ r.offset.natAbs = (rec.w - 1) / 2) ∧
    r.overdrive = decide (rec.params.clipLimit < rec.clips) ∧ r.stamp = s.lineTime := by
  obtain ⟨r0, hr0, heq, hlost, hheard⟩ := exists_of_completed (stepsTwoThree_completed rec _ s) hr
  obtain ⟨k, -, rfl⟩ := List.mem_map.mp hr0
  have hposition : r.position = k := by rw [heq]; rfl
  have hpeak : (r.offset, r.amp) = peakOf (windowAmps rec.order rec.q s.corr.cells k) := by rw [heq]; rfl
  have hok := qualifies_iff r.amp (threshold (noiseFloor rec.order rec.q s.corr.cells) rec.params.snrQ)
  have hlevel : r.level = (if qualifies r.amp (threshold (noiseFloor rec.order rec.q s.corr.cells)
      rec.params.snrQ) = true then some (levelOf r.amp.toNat) else none) := by rw [heq]; rfl
  have hstatus : qualifies r.amp (threshold (noiseFloor rec.order rec.q s.corr.cells)
      rec.params.snrQ) ≠ true → r.level = none → r.status = .lost ∧ r.dev = none := by
    intro hn hnone
    rw [heq] at hn hnone
    obtain ⟨hst, hdev⟩ := hlost hnone
    exact ⟨hst.trans (if_neg hn), hdev⟩
  have hdone : r.level ≠ none → (r.status = .valid ∧ r.dev ≠ none) ∨ (r.status = .unbased ∧ r.dev = none) := by
    intro hsome
    rw [heq] at hsome
    exact hheard hsome
  refine ⟨?peak, ?housing, fun h => ?heard, fun h => ?lost, ?edge, by rw [heq]; rfl, by rw [heq]; rfl⟩
  case peak => rw [hpeak, hposition, windowAmps_eq]
  case housing => rw [hposition, heq]; rfl
  case heard =>
    rw [if_pos (hok.mpr h)] at hlevel
    exact ⟨hlevel, hdone (by rw [hlevel]; exact nofun)⟩
  case lost =>
    rw [if_neg (mt hok.mp h)] at hlevel
    exact ⟨hlevel, hstatus (mt hok.mp h) hlevel⟩
  case edge =>
    rw [show r.edge = edgeFlag rec.w r.offset by rw [heq]; rfl]
    exact edgeFlag_iff rec.w r.offset

end

/-- Settles O46: the list of the requester after a pass, and the records and candidates that join it. -/
theorem evaluationDeliversResults : Obligations.EvaluationDeliversResults := by
  unfold Obligations.EvaluationDeliversResults
  intro rec s j hlaw hj t echoes amp
  have hreq : ∀ q, (s.job? rec.job).map Job.requester = some (.port q) ↔ j.requester = .port q := fun q => by
    rw [hj, Option.map_some, Option.some.injEq]
  refine ⟨fun q hq => evaluatePass_results_of_other (mt (hreq q).mp hq), fun q hq => ?port⟩
  case port =>
    intro l
    refine ⟨fun hl => evaluatePass_of_displaced ((hreq q).mpr hq) hl, fun old hl hkind hbody => ?echoes,
      fun old hl hkind hbody => ?survey⟩
    case echoes =>
      have hresult := evaluatePass_results_serving ((hreq q).mpr hq) hl
      rw [if_neg hkind] at hresult
      refine ⟨(stepsTwoThree rec (stepOne rec s) s).2, ?_, ?_, fun r hr => record_of_evaluation hr⟩
      · rw [hresult]
        exact appendEchoes_of_echoes hbody _
      · rw [positions_of_completed (stepsTwoThree_completed rec _ s), stepOne_positions]
    case survey =>
      intro block least stands all
      have hresult := evaluatePass_results_serving ((hreq q).mpr hq) hl
      rw [if_pos hkind] at hresult
      refine ⟨?_, (evaluatePass_sig rec s).trans (if_pos hkind), ?_⟩
      · have hfound : surveyCandidates rec s.corr.cells =
            (block.zipIdx.filter (fun x => stands x)).map (fun x => ⟨x.1.1, x.1.2⟩) :=
          surveyCandidates_eq rec s.corr.cells fun x => decide_eq_true_iff
        rw [hresult, hfound]
        exact appendCandidates_of_candidates hbody _
      · show (evaluatePass rec s).findings = s.findings
        rw [evaluatePass_eq, beforeCounters_of_survey hkind]
        exact (stepFive_findings ..).trans (deliver_findings ..)

end Sys2Proof.Machine
end

section
/-! The classes of a pass (R96 to R101). -/

namespace Sys2Proof.Machine

/-! ### One record at a time -/

/-- The record lies in the BREAK run. -/
def inRun (run : Option Nat) (r : EchoRecord) : Bool := (run.map (fun k0 => decide (k0 ≤ r.position))).getD false

/-- The class of a VALID record with its step (R100). -/
def classedStep (thr : Nat) (d ref : Int) (next : Option Int) : Option FindingClass × Option Int :=
  ((stepClass thr d ref next), (stepClass thr d ref next).map (fun _ => d - ref))

/-- The class of a record below which the reference `ref` stands, given the records above it (R97 to R100). -/
def headClass (thr : Nat) (run : Option Nat) (ref : Int) (r : EchoRecord) (rest : List EchoRecord) :
    Option FindingClass × Option Int :=
  if inRun run r = true then (none, none)
  else match r.status with
    | .lost => (some .echoLoss, none)
    | .valid => classedStep thr (r.dev.getD 0) ref (nextDev rest)
    | .unbased | .pending => (none, none)

/-- The reference above a record: its deviation where it is VALID and no LOOPBACK, else the one below it. -/
def nextRef (thr : Nat) (run : Option Nat) (ref : Int) (r : EchoRecord) (rest : List EchoRecord) : Int :=
  if inRun run r = false ∧ r.status = .valid ∧ stepClass thr (r.dev.getD 0) ref (nextDev rest) ≠ some .loopback
  then r.dev.getD 0 else ref

theorem classesFrom_cons (thr : Nat) (run : Option Nat) (ref : Int) (r : EchoRecord) (rest : List EchoRecord) :
    classesFrom thr run ref (r :: rest) =
      headClass thr run ref r rest :: classesFrom thr run (nextRef thr run ref r rest) rest := by
  rw [classesFrom, headClass, nextRef]
  cases hr : inRun run r with
  | true => rw [if_pos (show (run.map _).getD false = true from hr)]; simp
  | false =>
    rw [if_neg (by rw [show (run.map (fun k0 => decide (k0 ≤ r.position))).getD false = false from hr]; nofun)]
    cases hs : r.status with
    | lost => simp
    | unbased => simp
    | pending => simp
    | valid =>
      cases hc : stepClass thr (r.dev.getD 0) ref (nextDev rest) with
      | none => simp [classedStep, hc]
      | some c => cases c <;> simp [classedStep, hc]

/-- The reference below the record at an index. -/
def refAt (thr : Nat) (run : Option Nat) : Int → List EchoRecord → Nat → Int
  | ref, [], _ => ref
  | ref, _ :: _, 0 => ref
  | ref, r :: rest, i + 1 => refAt thr run (nextRef thr run ref r rest) rest i

theorem classesFrom_getElem? (thr : Nat) (run : Option Nat) (records : List EchoRecord) :
    ∀ (ref : Int) (i : Nat) (r : EchoRecord), records[i]? = some r →
      (classesFrom thr run ref records)[i]? =
        some (headClass thr run (refAt thr run ref records i) r (records.drop (i + 1))) := by
  induction records with
  | nil => exact fun _ _ _ h => by cases h
  | cons r0 rest ih =>
    intro ref i r hr
    rw [classesFrom_cons]
    cases i with
    | zero =>
      cases hr
      rfl
    | succ i => exact ih _ i r hr

theorem refAt_zero (thr : Nat) (run : Option Nat) (ref : Int) (records : List EchoRecord) :
    refAt thr run ref records 0 = ref := by cases records <;> rfl

theorem refAt_succ (thr : Nat) (run : Option Nat) (records : List EchoRecord) :
    ∀ (ref : Int) (i : Nat) (r : EchoRecord), records[i]? = some r →
      refAt thr run ref records (i + 1) =
        nextRef thr run (refAt thr run ref records i) r (records.drop (i + 1)) := by
  induction records with
  | nil => exact fun _ _ _ h => by cases h
  | cons r0 rest ih =>
    intro ref i r hr
    cases i with
    | zero =>
      cases hr
      exact refAt_zero ..
    | succ i => exact ih _ i r hr

/-! ### The BREAK run (R98) -/

theorem position_of_getElem? {records : List EchoRecord} {a n i : Nat} {r : EchoRecord}
    (hpos : records.map EchoRecord.position = List.range' a n) (hr : records[i]? = some r) :
    r.position = a + i := by
  have hmap : (records.map EchoRecord.position)[i]? = some r.position := by rw [List.getElem?_map, hr]; rfl
  rw [hpos] at hmap
  obtain ⟨hlt, hval⟩ := List.getElem?_eq_some_iff.mp hmap
  rw [List.getElem_range'] at hval
  omega

/-- A pass is its records up to the last one heard, and the LOST ones after it. -/
theorem exists_trailing (records : List EchoRecord) : ∃ up lost, records = up ++ lost ∧
    (∀ r ∈ lost, r.status = .lost) ∧ ∀ r, up.getLast? = some r → r.status ≠ .lost := by
  refine ⟨(records.reverse.dropWhile (fun r => r.status = .lost)).reverse,
    (records.reverse.takeWhile (fun r => r.status = .lost)).reverse, ?_, fun r hr => ?_, fun r hr => ?_⟩
  · rw [← List.reverse_append, List.takeWhile_append_dropWhile, List.reverse_reverse]
  · exact of_decide_eq_true
      (List.mem_takeWhile_imp (p := fun r : EchoRecord => decide (r.status = .lost))
        (List.mem_reverse.mp hr))
  · rw [List.getLast?_reverse] at hr
    have hnot := List.head?_dropWhile_not (fun r : EchoRecord => decide (r.status = .lost)) records.reverse
    rw [hr] at hnot
    exact of_decide_eq_false (by simpa using hnot)

section
variable {up lost : List EchoRecord} (hlost : ∀ r ∈ lost, r.status = .lost)
  (hup : ∀ r, up.getLast? = some r → r.status ≠ .lost)
include hlost hup

theorem trailingLost_append : trailingLost (up ++ lost) = lost.length := by
  have hall : ∀ r ∈ lost.reverse, decide (r.status = .lost) = true := fun r hr =>
    decide_eq_true (hlost r (List.mem_reverse.mp hr))
  have hstop : up.reverse.takeWhile (fun r => decide (r.status = .lost)) = [] := by
    cases h : up.reverse with
    | nil => rfl
    | cons r rest =>
      have hlast : up.getLast? = some r := by rw [← List.head?_reverse, h]; rfl
      exact List.takeWhile_cons_of_neg (by simpa using hup r hlast)
  rw [trailingLost, List.reverse_append, List.takeWhile_append_of_pos hall, hstop, List.append_nil,
    List.length_reverse]

theorem breakRun_append {a : Nat} (ha : 1 ≤ a) (n : Nat) : breakRun a n (up ++ lost) =
    if 2 ≤ lost.length ∨ (1 ≤ lost.length ∧ a + up.length + lost.length = n + 1) then some (a + up.length)
    else none := by
  simp only [breakRun, trailingLost_append hlost hup, List.length_append]
  refine if_congr (or_congr_right (and_congr_right fun _ => by omega)) (congrArg some (by omega)) rfl

end

theorem inRun_none (r : EchoRecord) : inRun none r = false := rfl

theorem inRun_some (k0 : Nat) (r : EchoRecord) : inRun (some k0) r = true ↔ k0 ≤ r.position :=
  decide_eq_true_iff

theorem headClass_of_inRun {run : Option Nat} {r : EchoRecord} (h : inRun run r = true) (thr : Nat) (ref : Int)
    (rest : List EchoRecord) : headClass thr run ref r rest = (none, none) := if_pos h

theorem headClass_of_lost {run : Option Nat} {r : EchoRecord} (h : inRun run r = false)
    (hs : r.status = .lost) (thr : Nat) (ref : Int) (rest : List EchoRecord) :
    headClass thr run ref r rest = (some .echoLoss, none) := by
  rw [headClass, h, if_neg Bool.false_ne_true, hs]

theorem headClass_of_unbased {run : Option Nat} {r : EchoRecord} (hs : r.status = .unbased) (thr : Nat)
    (ref : Int) (rest : List EchoRecord) : headClass thr run ref r rest = (none, none) := by
  rw [headClass, hs]
  split <;> rfl

theorem headClass_of_valid {run : Option Nat} {r : EchoRecord} {d : Int} (h : inRun run r = false)
    (hs : r.status = .valid) (hd : r.dev = some d) (thr : Nat) (ref : Int) (rest : List EchoRecord) :
    headClass thr run ref r rest = classedStep thr d ref (nextDev rest) := by
  rw [headClass, h, if_neg Bool.false_ne_true, hs, hd]
  rfl

/-! ### The classes of a pass by its BREAK run (R98) -/

section
variable {up lost : List EchoRecord} (hlost : ∀ r ∈ lost, r.status = .lost)
  (hup : ∀ r, up.getLast? = some r → r.status ≠ .lost) {a : Nat} (ha : 1 ≤ a) (thr n : Nat) (below : SigEntry)
include hlost hup ha

theorem classify_of_no_break
    (hb : ¬ (2 ≤ lost.length ∨ (1 ≤ lost.length ∧ a + up.length + lost.length = n + 1))) :
    breakRun a n (up ++ lost) = none ∧ classify thr a n below (up ++ lost) =
      classesFrom thr none (startReference a below) (up ++ lost) := by
  have hrun : breakRun a n (up ++ lost) = none := (breakRun_append hlost hup ha n).trans (if_neg hb)
  refine ⟨hrun, ?_⟩
  rw [classify, hrun]

theorem classify_of_break (hb : 2 ≤ lost.length ∨ (1 ≤ lost.length ∧ a + up.length + lost.length = n + 1)) :
    breakRun a n (up ++ lost) = some (a + up.length) ∧ classify thr a n below (up ++ lost) =
      let classes := classesFrom thr (some (a + up.length)) (startReference a below) (up ++ lost)
      if up = [] ∧ 1 < a ∧ below.lastLevel = .lost then classes
      else classes.set up.length (some .break_, none) := by
  have hrun : breakRun a n (up ++ lost) = some (a + up.length) :=
    (breakRun_append hlost hup ha n).trans (if_pos hb)
  have hsup : breakSuppressed a (a + up.length) below.lastLevel = true ↔
      up = [] ∧ 1 < a ∧ below.lastLevel = .lost := by
    simp [breakSuppressed, and_assoc]
  refine ⟨hrun, ?_⟩
  rw [classify, hrun]
  exact if_congr hsup rfl (congrArg (fun i => List.set _ i _) (Nat.add_sub_cancel_left ..))

end

section
variable {records : List EchoRecord} {a : Nat} (ha : 1 ≤ a)
  (hpos : records.map EchoRecord.position = List.range' a records.length) {i : Nat} {r : EchoRecord}
  (hr : records[i]? = some r) (thr n : Nat) (below : SigEntry)
include ha hpos hr

/-- Outside the BREAK run every record has its class by its own reference. -/
theorem classify_getElem?_of_not_inRun (hrun : inRun (breakRun a n records) r = false) :
    (classify thr a n below records)[i]? = some (headClass thr (breakRun a n records)
      (refAt thr (breakRun a n records) (startReference a below) records i) r (records.drop (i + 1))) := by
  have hposition := position_of_getElem? hpos hr
  obtain ⟨up, lost, rfl, hlost, hup⟩ := exists_trailing records
  by_cases hb : 2 ≤ lost.length ∨ (1 ≤ lost.length ∧ a + up.length + lost.length = n + 1)
  · obtain ⟨hsome, hclass⟩ := classify_of_break hlost hup ha thr n below hb
    rw [hsome] at hrun ⊢
    have hbelow : i < up.length := by
      by_contra hge
      rw [Bool.eq_false_iff] at hrun
      exact hrun ((inRun_some _ r).mpr (by omega))
    have hhere := classesFrom_getElem? thr (some (a + up.length)) _ (startReference a below) i r hr
    rw [hclass]
    dsimp only
    split
    · exact hhere
    · rw [List.getElem?_set_ne (by omega)]
      exact hhere
  · obtain ⟨hnone, hclass⟩ := classify_of_no_break hlost hup ha thr n below hb
    rw [hnone, hclass]
    exact classesFrom_getElem? thr none _ _ i r hr

/-- The BREAK run holds LOST records alone. -/
theorem not_inRun_of_not_lost (hs : r.status ≠ .lost) : inRun (breakRun a n records) r = false := by
  have hposition := position_of_getElem? hpos hr
  obtain ⟨up, lost, rfl, hlost, hup⟩ := exists_trailing records
  rw [breakRun_append hlost hup ha]
  split
  · rw [Bool.eq_false_iff]
    intro h
    have hge := (inRun_some _ r).mp h
    rw [List.getElem?_append_right (by omega)] at hr
    exact hs (hlost r (List.mem_of_getElem? hr))
  · rfl

end

/-! ### The reference (R97) -/

/-- The record at an index is one the positions above it are judged against: VALID and no LOOPBACK. -/
def ServesAt (records : List EchoRecord) (classes : List (Option FindingClass × Option Int)) (i : Nat)
    (x : Int) : Prop :=
  ∃ r, records[i]? = some r ∧ r.status = .valid ∧ r.dev = some x ∧
    ∀ m, classes[i]? ≠ some (some .loopback, m)

theorem classedStep_loopback_iff (thr : Nat) (d ref : Int) (next : Option Int) :
    (∃ m, classedStep thr d ref next = (some .loopback, m)) ↔ stepClass thr d ref next = some .loopback := by
  constructor
  · rintro ⟨m, hm⟩
    exact congrArg Prod.fst hm
  · exact fun h => ⟨_, Prod.ext h rfl⟩

section
variable {records : List EchoRecord} {a : Nat} (ha : 1 ≤ a)
  (hpos : records.map EchoRecord.position = List.range' a records.length)
  (hdev : ∀ r ∈ records, r.status = .valid → r.dev ≠ none) (thr n : Nat) (below : SigEntry)
include ha hpos hdev

/-- The reference moves at the records that serve, and at no other. -/
theorem refAt_succ_eq {i : Nat} (hi : i < records.length) :
    let reference := refAt thr (breakRun a n records) (startReference a below) records
    (∀ x, ServesAt records (classify thr a n below records) i x → reference (i + 1) = x) ∧
    ((∀ x, ¬ ServesAt records (classify thr a n below records) i x) → reference (i + 1) = reference i) := by
  intro reference
  obtain ⟨r, hr⟩ : ∃ r, records[i]? = some r := ⟨_, List.getElem?_eq_getElem hi⟩
  have hnext := refAt_succ thr (breakRun a n records) records (startReference a below) i r hr
  by_cases hs : r.status = .valid
  · obtain ⟨d, hd⟩ := Option.ne_none_iff_exists'.mp (hdev r (List.mem_of_getElem? hr) hs)
    have hrun := not_inRun_of_not_lost ha hpos hr n (by rw [hs]; exact nofun)
    have hclass := classify_getElem?_of_not_inRun ha hpos hr thr n below hrun
    rw [headClass_of_valid hrun hs hd] at hclass
    have hloop := classedStep_loopback_iff thr d (reference i) (nextDev (records.drop (i + 1)))
    simp only [nextRef, hrun, hs, hd, Option.getD_some, true_and] at hnext
    refine ⟨fun x hx => ?_, fun hno => ?_⟩
    · obtain ⟨r', hr', -, hx, hnot⟩ := hx
      rw [hr] at hr'
      cases hr'
      rw [hd] at hx
      cases hx
      refine hnext.trans (if_pos fun h => ?_)
      obtain ⟨m, hm⟩ := hloop.mpr h
      exact hnot m (hclass.trans (congrArg some hm))
    · refine hnext.trans (if_neg fun h => hno d ⟨r, hr, hs, hd, fun m hm => h (hloop.mp ⟨m, ?_⟩)⟩)
      exact Option.some.inj (hclass.symm.trans hm)
  · have hno : ∀ x, ¬ ServesAt records (classify thr a n below records) i x := by
      rintro x ⟨r', hr', hvalid, -⟩
      rw [hr] at hr'
      cases hr'
      exact hs hvalid
    exact ⟨fun x hx => absurd hx (hno x), fun _ => hnext.trans (if_neg fun h => hs h.2.1)⟩

/-- The reference below a record: the nearest record below that serves, else the one below the pass. -/
theorem refAt_eq (i : Nat) (hi : i ≤ records.length) (ref : Int)
    (h : let serves := ServesAt records (classify thr a n below records)
      (∃ m < i, serves m ref ∧ ∀ m', m < m' → m' < i → ∀ x, ¬ serves m' x) ∨
        ((∀ m < i, ∀ x, ¬ serves m x) ∧ ref = startReference a below)) :
    refAt thr (breakRun a n records) (startReference a below) records i = ref := by
  induction i with
  | zero =>
    rcases h with ⟨m, hm, -⟩ | ⟨-, rfl⟩
    · omega
    · exact refAt_zero ..
  | succ i ih =>
    obtain ⟨hserves, hkeeps⟩ := refAt_succ_eq ha hpos hdev thr n below (i := i) (by omega)
    rcases h with ⟨m, hm, hmserves, hbetween⟩ | ⟨hnone, hstart⟩
    · by_cases hmi : m = i
      · exact hserves ref (hmi ▸ hmserves)
      · rw [hkeeps (hbetween i (by omega) (by omega))]
        exact ih (by omega) (.inl ⟨m, by omega, hmserves, fun m' h1 h2 => hbetween m' h1 (by omega)⟩)
    · rw [hkeeps (hnone i (by omega))]
      exact ih (by omega) (.inr ⟨fun m hm => hnone m (by omega), hstart⟩)

end

/-! ### The step of a VALID record (R100) -/

theorem classedStep_of_within {thr : Nat} {d ref : Int} (h : (d - ref).natAbs ≤ thr) (next : Option Int) :
    classedStep thr d ref next = (none, none) := by
  have hclass : stepClass thr d ref next = none := if_pos h
  rw [classedStep, hclass]
  rfl

theorem classedStep_of_loopback {thr : Nat} {d ref j : Int} (h : thr < (d - ref).natAbs)
    (hj : thr < (j - d).natAbs) (hback : (j - ref).natAbs ≤ thr) :
    classedStep thr d ref (some j) = (some .loopback, some (d - ref)) := by
  have hclass : stepClass thr d ref (some j) = some .loopback := by
    rw [stepClass, if_neg (by omega)]
    exact (if_neg (by omega)).trans (if_pos hback)
  rw [classedStep, hclass]
  rfl

theorem classedStep_of_gainStep {thr : Nat} {d ref : Int} {next : Option Int} (h : thr < (d - ref).natAbs)
    (hnext : ∀ j, next = some j → (j - d).natAbs ≤ thr ∨ thr < (j - ref).natAbs) :
    classedStep thr d ref next = (some .gainStep, some (d - ref)) := by
  have hclass : stepClass thr d ref next = some .gainStep := by
    cases next with
    | none => exact if_neg (by omega)
    | some j =>
      refine (if_neg (by omega)).trans ?_
      dsimp only
      split
      · rfl
      · rw [if_neg]
        rcases hnext j rfl with hj | hj <;> omega
  rw [classedStep, hclass]
  rfl

theorem startReference_eq {a : Nat} (ha : 1 ≤ a) (below : SigEntry) : startReference a below =
    match below.state, below.lastDev with
    | .tracking, some x => if a = 1 then 0 else x
    | _, _ => 0 := by
  unfold startReference
  by_cases h : a = 1
  · rw [if_pos (by omega)]
    cases below.state <;> cases below.lastDev <;> simp [h]
  · rw [if_neg (by omega)]
    cases below.state <;> cases below.lastDev <;> simp [h]

/-! ### Records and detections (R96, R101) -/

theorem mem_drifts_iff_find? {drifts : List (Nat × Int)} (hnodup : (drifts.map Prod.fst).Nodup) {k : Nat} {x : Int} :
    drifts.find? (fun d => d.1 = k) = some (k, x) ↔ (k, x) ∈ drifts := by
  refine ⟨List.mem_of_find?_eq_some, fun hmem => ?_⟩
  induction drifts with
  | nil => cases hmem
  | cons d rest ih =>
    obtain ⟨hfresh, hnodup⟩ := List.nodup_cons.mp hnodup
    rcases List.mem_cons.mp hmem with rfl | hmem
    · exact List.find?_cons_of_pos (by simp)
    · have hne : d.1 ≠ k := fun h => hfresh (h ▸ List.mem_map_of_mem hmem)
      rw [List.find?_cons_of_neg (by simpa using hne)]
      exact ih hnodup hmem

theorem mem_detectionsAt {drifts : List (Nat × Int)} (hnodup : (drifts.map Prod.fst).Nodup) (k : Nat)
    (c : Option FindingClass × Option Int) (d : Detection) : d ∈ detectionsAt drifts k c ↔
      d.location = k ∧ ((c.1 = some d.cls ∧ d.magnitude = c.2) ∨
        (d.cls = .drift ∧ ∃ x, (k, x) ∈ drifts ∧ d.magnitude = some x)) := by
  have hdrift : ∀ x, (k, x) ∈ drifts ↔ drifts.find? (fun d => d.1 = k) = some (k, x) := fun x =>
    (mem_drifts_iff_find? hnodup).symm
  obtain ⟨cls, location, magnitude⟩ := d
  obtain ⟨c1, c2⟩ := c
  simp only [detectionsAt, List.mem_append, hdrift]
  cases hf : drifts.find? (fun d => d.1 = k) with
  | none => cases c1 <;> simp [and_left_comm, eq_comm]
  | some e =>
    obtain ⟨k', x⟩ := e
    obtain rfl : k' = k := by simpa using List.find?_some hf
    cases c1 with
    | none => simp [and_left_comm]
    | some c => simp [and_left_comm, and_or_left, eq_comm (a := c)]

theorem recordClass_eq (drifts : List (Nat × Int)) (r : EchoRecord) (c : Option FindingClass) :
    recordClass drifts r c = { r with
      cls := if c ≠ none then c else if r.position ∈ drifts.map Prod.fst then some .drift else none } := by
  have hany : (drifts.any (fun d => d.1 = r.position)) = true ↔ r.position ∈ drifts.map Prod.fst := by
    simp
  cases c with
  | none =>
    rw [recordClass, if_neg (not_not_intro rfl)]
    exact congrArg (fun x => { r with cls := x }) (if_congr hany rfl rfl)
  | some c =>
    rw [recordClass, if_pos nofun]

/-- Records whose positions ascend, each with its class. -/
theorem zip_pairwise_position {records : List EchoRecord} {a : Nat}
    (hpos : records.map EchoRecord.position = List.range' a records.length)
    {classes : List (Option FindingClass × Option Int)} (hlen : classes.length = records.length) :
    (records.zip classes).Pairwise (fun x y => x.1.position < y.1.position) := by
  have hrecords : (records.zip classes).map Prod.fst = records := List.map_fst_zip hlen.ge
  have hascend : (((records.zip classes).map Prod.fst).map EchoRecord.position).Pairwise (· < ·) := by
    rw [hrecords, hpos]
    exact List.pairwise_lt_range'
  rw [List.pairwise_map, List.pairwise_map] at hascend
  exact hascend

theorem detectionsAt_location {drifts : List (Nat × Int)} (hnodup : (drifts.map Prod.fst).Nodup) {k : Nat}
    {c : Option FindingClass × Option Int} {d : Detection} (h : d ∈ detectionsAt drifts k c) : d.location = k :=
  ((mem_detectionsAt hnodup k c d).mp h).1

theorem detectionsAt_pairwise (drifts : List (Nat × Int)) (k : Nat) (c : Option FindingClass × Option Int) :
    (detectionsAt drifts k c).Pairwise
      (fun d e => d.location < e.location ∨ (d.location = e.location ∧ e.cls = .drift)) := by
  unfold detectionsAt
  cases c.1 <;> cases drifts.find? (fun d => d.1 = k) <;> simp

theorem mem_detections {drifts : List (Nat × Int)} (hnodup : (drifts.map Prod.fst).Nodup)
    (records : List EchoRecord) (classes : List (Option FindingClass × Option Int)) (d : Detection) :
    d ∈ detections drifts records classes ↔ ∃ (i : Nat) (r : EchoRecord)
      (c : Option FindingClass × Option Int), records[i]? = some r ∧ classes[i]? = some c ∧
      d.location = r.position ∧ ((c.1 = some d.cls ∧ d.magnitude = c.2) ∨
        (d.cls = .drift ∧ ∃ x, (r.position, x) ∈ drifts ∧ d.magnitude = some x)) := by
  rw [detections, List.mem_flatMap]
  simp only [mem_detectionsAt hnodup]
  constructor
  · rintro ⟨⟨r, c⟩, hmem, hd⟩
    obtain ⟨i, hi⟩ := List.mem_iff_getElem?.mp hmem
    obtain ⟨hr, hc⟩ := List.getElem?_zip_eq_some.mp hi
    exact ⟨i, r, c, hr, hc, hd⟩
  · rintro ⟨i, r, c, hr, hc, hd⟩
    exact ⟨(r, c), List.mem_iff_getElem?.mpr ⟨i, List.getElem?_zip_eq_some.mpr ⟨hr, hc⟩⟩, hd⟩

/-- Settles O35: the BREAK run, the class of each VALID record by its reference, and the detections. -/
theorem passIsClassified : Obligations.PassIsClassified := by
  unfold Obligations.PassIsClassified
  refine ⟨?run, ?steps, ?located⟩
  case run =>
    intro thr a n below up lost ha hpos hlost hup classes isBreak
    have hlen : (up ++ lost).length = up.length + lost.length := List.length_append
    rw [← hlen] at hpos
    have hposition : ∀ i r, (up ++ lost)[i]? = some r → r.position = a + i := fun i r hr =>
      position_of_getElem? hpos hr
    refine ⟨(classify_length ..).trans hlen, fun hb => ?broken, fun i r hr hs hwhy => ?echo⟩
    case broken =>
      obtain ⟨-, hclass⟩ := classify_of_break hlost hup ha thr n below hb
      have hone : 1 ≤ lost.length := by rcases hb with h | h <;> omega
      have hinside : ∀ i, up.length ≤ i → i < up.length + lost.length →
          (classesFrom thr (some (a + up.length)) (startReference a below) (up ++ lost))[i]? =
            some (none, none) := by
        intro i h1 h2
        have hr := List.getElem?_eq_getElem (l := up ++ lost) (i := i) (by omega)
        rw [classesFrom_getElem? thr _ _ _ i _ hr]
        exact congrArg some (headClass_of_inRun ((inRun_some _ _).mpr (by rw [hposition i _ hr]; omega)) ..)
      show classes[up.length]? = _ ∧ _
      rw [show classes = _ from hclass]
      by_cases hsup : up = [] ∧ 1 < a ∧ below.lastLevel = .lost
      · rw [if_pos hsup, if_pos hsup]
        exact ⟨hinside _ le_rfl (by omega), fun i h1 h2 => hinside i h1.le h2⟩
      · rw [if_neg hsup, if_neg hsup]
        refine ⟨List.getElem?_set_self (by rw [classesFrom_length]; omega), fun i h1 h2 => ?_⟩
        rw [List.getElem?_set_ne (by omega)]
        exact hinside i h1.le h2
    case echo =>
      have hrun : inRun (breakRun a n (up ++ lost)) r = false := by
        by_cases hb : isBreak
        · rw [(classify_of_break hlost hup ha thr n below hb).1, Bool.eq_false_iff]
          intro h
          have hge := (inRun_some _ r).mp h
          have hbelow := hwhy.resolve_right (not_not_intro hb)
          rw [hposition i r hr] at hge
          omega
        · rw [(classify_of_no_break hlost hup ha thr n below hb).1]
          rfl
      exact (classify_getElem?_of_not_inRun ha hpos hr thr n below hrun).trans
        (congrArg some (headClass_of_lost hrun hs ..))
  case steps =>
    intro thr a n below records ha hpos hdev classes serves i r hr
    refine ⟨fun hs => ?unbased, fun d ref hs hd href => ?valid⟩
    case unbased =>
      have hrun := not_inRun_of_not_lost ha hpos hr n (by rw [hs]; exact nofun)
      exact (classify_getElem?_of_not_inRun ha hpos hr thr n below hrun).trans
        (congrArg some (headClass_of_unbased hs ..))
    case valid =>
      intro next
      have hrun := not_inRun_of_not_lost ha hpos hr n (by rw [hs]; exact nofun)
      have hi : i ≤ records.length := (List.getElem?_eq_some_iff.mp hr).1.le
      have hreference : refAt thr (breakRun a n records) (startReference a below) records i = ref :=
        refAt_eq ha hpos hdev thr n below i hi ref
          (href.imp id fun ⟨hnone, hstart⟩ => ⟨hnone, hstart.trans (startReference_eq ha below).symm⟩)
      have hclass : classes[i]? = some (classedStep thr d ref next) := by
        rw [show classes[i]? = _ from classify_getElem?_of_not_inRun ha hpos hr thr n below hrun,
          headClass_of_valid hrun hs hd, hreference]
        rfl
      refine ⟨fun h => ?_, fun h => ⟨fun j hj hfar hback => ?_, fun hnext => ?_⟩⟩
      · rw [hclass, classedStep_of_within h]
      · rw [hclass, hj, classedStep_of_loopback h hfar hback]
      · rw [hclass, classedStep_of_gainStep h hnext]
  case located =>
    intro rec p stamp records drifts s ha hpos hnodup classes found
    refine ⟨fun i r c hr hc => ?_, fun d => mem_detections hnodup records classes d, ?_⟩
    · have hzip : (records.zip classes)[i]? = some (r, c) := List.getElem?_zip_eq_some.mpr ⟨hr, hc⟩
      rw [← recordClass_eq]
      show ((records.zip classes).map (fun rc => recordClass drifts rc.1 rc.2.1))[i]? = _
      rw [List.getElem?_map, hzip]
      rfl
    · refine List.pairwise_flatMap.mpr ⟨fun rc _ => detectionsAt_pairwise .., ?_⟩
      refine (zip_pairwise_position hpos (classify_length ..)).imp fun hlt d hd e he => .inl ?_
      rw [detectionsAt_location hnodup hd, detectionsAt_location hnodup he]
      exact hlt

end Sys2Proof.Machine
end
